-- ==== Sys2Proof/Word.lean ====
section
/-! DEFINITION. The word types of the TH4032 and their plainest arithmetic. -/

namespace Sys2Proof

/-- One byte of the binding, a leaf, a canvas frame or a beacon record. -/
abbrev Byte := BitVec 8

/-- The byte that holds the low eight bits of a number. -/
abbrev byteOf (n : Nat) : Byte := BitVec.ofNat 8 n

end Sys2Proof
end

