-- ==== Sys2Proof/Syntax.lean ====
section
/-! DEFINITION. The commands of the TH4032: one constructor of `Instr` for each row of spec/opcode_table.json. The table
gives its rows no operand fields. A command's operands are what the part's inputs, clocks and sensors deliver at that
moment (log entry 3). -/

namespace Sys2Proof

/-- A mirror port. -/
inductive Port where
  | a | b
deriving DecidableEq, Repr

/-- A lane of the control engine (R297). -/
inductive Lane where
  | a | b
deriving DecidableEq, Repr

/-- A copy of the spine or of a signature (R127, R130). -/
inductive Copy where
  | a | b
deriving DecidableEq, Repr

/-- A reset domain of the keeper, numbered as the DOMAIN_RESET row of Table 17-3. -/
inductive Domain where
  | edge | sys | mem | cvs | mirA | mirB | lamp | loopA | loopB
deriving DecidableEq, Repr

/-- The seven code balls, in the slot order of R43. -/
inductive CodeBall where
  | toolH | toolL | lamp | clk | beacon | safe | cart
deriving DecidableEq, Repr

/-- The three input levels and straps that the part reads at core release (R25, R58, R74, R150). -/
structure ReleasePins where
  /-- `PSEL[5:0]` at the three sampling moments of R58. -/
  psel1 : BitVec 6
  psel2 : BitVec 6
  psel3 : BitVec 6
  /-- `CART_DET_N` has read low on every tick of the last 656, or since the always-on domain came up (R74). -/
  detLow : Bool
  /-- `HOLD_REQ_N` is low at the release (R25). -/
  holdLow : Bool
  /-- `ABORT_N`, `KILL_N` and `MANUAL_N` are low at the release. -/
  abortLow : Bool
  killLow : Bool
  manualLow : Bool
deriving DecidableEq, Repr

/-- What one pass of R43 measures: the four 10-bit conversions of each of its nine slots (R42), in the order of R43. -/
structure PassReadings where
  toolH : List Nat
  toolL : List Nat
  lamp : List Nat
  clk : List Nat
  beacon : List Nat
  safe : List Nat
  cart : List Nat
  packId : List Nat
  packT : List Nat
  /-- The pack voltage in mV: 40 times the ball voltage (R36). -/
  vpackMv : Nat
  /-- The Manchester receiver saw an edge on `PACK_ID` since the pass before (R62). -/
  packEdge : Bool
deriving DecidableEq, Repr

/-- What a memory-port read gave: the bytes of the item, or a failure of R121. -/
inductive ReadResult where
  | data (bytes : List Byte)
  | failed
deriving DecidableEq, Repr

/-- The class S items of a stitch (Table 12-3, R326). -/
inductive SItem where
  | amp (p : Port)
  | slowAmp (p : Port)
  | drivePhase (p : Port)
  | vertical (p : Port)
  | setPoint (slot : Nat)
deriving DecidableEq, Repr

/-- The mirror faults of Table 12-4 and SENSE_FROZEN of R379, with the readings that each is decided on. Amplitudes and slow positions are
counts of the sense converters (R285), crossings are in sixteenths of a stall. -/
inductive MirrorFault where
  /-- No zero crossing within two expected periods, or the amplitudes of the latest half-periods. -/
  | fastStall (noCrossing : Bool) (amps : List Nat)
  /-- The latest rising zero crossing, and the locked frequency in mHz. -/
  | phaseSlip (crossing : Int) (milliHz : Nat)
  /-- The amplitudes of the latest half-periods, and the slow position of the latest line. -/
  | overExcursion (amps : List Nat) (slow : Int)
  /-- The common mode in mV of a sense input on the latest checks. -/
  | senseLost (commonMv : List Nat)
  /-- The slow position's errors on the latest lines, in 0.01°. -/
  | slowTrack (errors : List Int)
  | coilOvercurrent
  /-- The counts of the fast sense converter, or of the slow one, in the latest samples. -/
  | senseFrozen (slow : Bool) (counts : List Int)
deriving DecidableEq, Repr

/-- A run of fast-axis periods with like readings (R283): how many, the fast amplitude and the slow position in counts of the sense
converters, and the rising zero crossing in sixteenths of a stall. -/
structure LockSegment where
  periods : Nat
  amp : Nat
  crossing : Int
  slow : Int
deriving DecidableEq, Repr

/-- The end of a mirror start (R283): the port, its locked frequency, and the readings of its periods, newest first. -/
structure PortLock where
  port : Port
  milliHz : Nat
  segs : List LockSegment
deriving DecidableEq, Repr

/-- What an item's convergence test reads (Table 12-3, R326), newest first. -/
structure Convergence where
  item : SItem
  readings : List Int
deriving DecidableEq, Repr

/-- The cycles of the crystal and of `REFIN` that a window of the drift watch counts (R101). -/
structure RefCycles where
  crystal : Nat
  refin : Nat
deriving DecidableEq, Repr

/-- A low of `HOLD_REQ_N` or `ABORT_N`: its length, and how many bytes of the item under way the flash had delivered by then since its
commands were issued (R121). -/
structure CutPulse where
  lowNs : Nat
  read : Nat
deriving DecidableEq, Repr

/-- What the laser safety path saw (R384 to R386): the channel, or the photodiode + 4, what its comparator sees, and for how long. -/
structure TripSight where
  which : Nat
  value : Nat
  ns : Nat
deriving DecidableEq, Repr

/-- A stall as the fetch stage meets it: its measured start in sub-ticks (R269), and upsets of the ring's entries that are read (R267). -/
structure StallSight where
  anchor : Nat
  flips : List (Nat × Nat)
deriving DecidableEq, Repr

/-- The trip causes of Table 16-2. -/
inductive TripCause where
  | overCurrent | overPower | pdBlind | threshold | safeRef | codeSafe
deriving DecidableEq, Repr

/-- One request that waits at a target of the bus matrix (R215 to R223). -/
structure MatrixReq where
  /-- The master, 0 to 7, in the order of Table 9-4. -/
  master : Nat
  addr : Nat
  beats : Nat
  write : Bool
  /-- The burst carries a lock request or belongs to the lock held. -/
  lock : Bool
  /-- A scrub read of R381, which runs at urgency 0. -/
  scrub : Bool
  /-- The lane that issued it (R218): of the control engine for M6, and of the codec for M3 and M4 (a leaf, b canvas). -/
  lane : Lane
  /-- The beats of a write; for a read of T6, the beats that the flash delivers. -/
  payload : List Nat
  /-- The byte strobes of its beats, 16 bits each; every byte of a beat that has none is written (R217). -/
  strobes : List Nat
  /-- The identifier of the transaction (R218). -/
  id : Nat
  /-- The request is the binding reader's (Table 9-4, M3 and M4). -/
  reader : Bool
  /-- The address of a word of the burst that holds an uncorrectable error (R220). -/
  bad : Option Nat
deriving DecidableEq, Repr

/-- The fill levels that set a master's urgency (Table 9-4). -/
structure MatrixLevels where
  scanA : Nat
  scanB : Nat
  lampFill : Nat
  canvasFill : Nat
deriving DecidableEq, Repr

/-- How a locked sequence broke its limits (R223). -/
inductive LockBreach where
  | ninthBeat | otherTarget | badTarget | tooLong
deriving DecidableEq, Repr

/-- A layer of the compositor (R238). -/
inductive Layer where
  | guide | live | signal
deriving DecidableEq, Repr

/-- Readings of the photodiode cross-check of Table 4-3. -/
structure CrossCheck where
  /-- Dark photocurrents in units of 10 nA. -/
  darkA : Nat
  darkB : Nat
  /-- The power each photodiode read during the probe pulse of `LD0` to `LD3`, in nW. -/
  probeA : List Nat
  probeB : List Nat
deriving DecidableEq, Repr

/-- A photodiode sample pair as the edge stage classifies it (R336). -/
structure PdSample where
  /-- The laser channels lit over the whole aperture. -/
  lit : List Nat
  /-- Level of the channel lit, and how long it, or the dark, has been held before the aperture opens. -/
  level : Nat
  heldNs : Nat
  rawA : Nat
  rawB : Nat
  /-- The pulse is a monitor pulse (R332). -/
  monitor : Bool
deriving DecidableEq, Repr

/-- A lit run of a laser sink that ended in the window: the channel, its length, and the comparator's decision (R333). -/
structure SinkRun where
  channel : Nat
  ns : Nat
  above : Bool
deriving DecidableEq, Repr

/-- What the control engine latches in a frame (R299, R307, R285). -/
structure FrameInputs where
  /-- New readings by source code of Table 13-2, in the units of that table, those of `BRIGHT` in counts of the 14-bit converter; a
  port's (0x18 to 0x1E) as its own stages measure them: counts of the fast and slow sense converters, and the drive pulse's centroid
  in sixteenths of a stall (R285). -/
  readings : List (Nat × Int)
  /-- Sources whose reading is out of range in this frame (R318). -/
  outOfRange : List Nat
  /-- Resistances of `LD_TEMP0` and `LD_TEMP1` in ohms; 0 where no bias current fits (R339). -/
  rt0 : Nat
  rt1 : Nat
  /-- An upset that replaces a slot's integrator in one lane before the frame computes. -/
  upsets : List (Lane × Nat × Int)
  /-- An uncorrectable error found in a lane's loop table, or an M6 error response (R321). -/
  tableErr : Option Lane
  m6Err : Option Lane
  /-- The grant words that reached `CK_LOOP` before the frame began are those of the latest yard tick (R313). -/
  capsArrived : Bool
  /-- The delay-line comparisons that fell in the frame (R272): the channel, and whether its test edge came after the next `CK_EDGE` edge. -/
  comparisons : List (Nat × Bool) := []
  /-- The master delay loop is in lock (R273). -/
  dllLocked : Bool := true
deriving DecidableEq, Repr

/-- What a scrub burst found (R381, R382). -/
structure ScrubResult where
  /-- The burst was granted; when not, it still waits. -/
  granted : Bool
  corrected : List Nat
  uncorrectable : List Nat
deriving DecidableEq, Repr

/-- One period of `CVS_CLK` (R247): `CVS_FS` and `CVS_D` on the rising edge, `CVS_D` on the falling edge after it, and whether the queue
to `CK_SYS` is full when the byte arrives (Table 10-5). -/
structure CvsPeriod where
  fs : Bool
  rise : Nat
  fall : Nat
  full : Bool
deriving DecidableEq, Repr

/-- The commands: one constructor for each row of the table, in the table's order. -/
inductive Instr where
  | vinValid
  | aonUp
  | vinInvalid
  | vddioHValid (level33 : Bool)
  | vddioHInvalid
  | vddioMValid (level33 : Bool)
  | vddioMInvalid
  | memSupplyTimeout
  | vmirLow
  | vmirRestored
  | rstNAssert (lowNs : Nat)
  | coreRelease (pins : ReleasePins)
  | pllLocked (crystalHz refinHz : Nat)
  | keeperRestart
  | codePass (r : PassReadings)
  | codeChanged (ball : CodeBall)
  | codeSafeChange
  | packPresent
  | packRemoved
  | packRetryExpired
  | packTFault
  | scheme3Frame (idleUs : Nat) (segs : List (Bool × Nat))
  | packS3WaitExpired
  | packSilent
  | cartRemoved (byDet : Bool)
  | cartPresenceNoted
  | cartRetryExpired
  | pdCrossCheck (p : Port) (r : CrossCheck)
  | keeperHeartbeatSample (beats : List Nat) (cvsToggling : Bool)
  | domainRestart (d : Domain)
  | pllLockLost (d : Domain)
  | driftWindowEnd (refs : RefCycles) (ring aon : Nat)
  | refLost
  | refReturn
  | vrefCheck (other bandgap safeRef : Int)
  | flashResetEnd
  | bindingReadStart
  | memReadDone (r : ReadResult)
  | dqsTimeout
  | holdRequest (e : CutPulse)
  | holdRelease
  | statusPoll (wip : Option Bool)
  | memBusy
  | holdLong
  | lampOnlyServiceStart
  | gatheringOpen (lowNs : Nat)
  | gatheringCancel (highNs : Nat)
  | gatheringTimeout
  | stitchRequest (highNs : Nat)
  | stitchValidated
  | stitchDecodeDone
  | decodeLimitExpired
  | sItemConverged (e : Convergence)
  | bridgeLimitExpired
  | restoreRetry
  | abort (e : CutPulse)
  | abortComplete
  | abortRelease
  | leafJobStart (header : List Byte)
  | leafJobEnd (data trailer : List Byte) (readOk : Bool)
  | calibrationLoadDone (block trailer : List Byte) (readOk : Bool)
  | canvasJobEnd
  | penFreed (pen : Nat)
  | arbiterDecision (target : Nat) (levels : MatrixLevels) (reqs : List MatrixReq)
  | lockUnlock (target : Nat)
  | lockError (target : Nat) (breach : LockBreach) (master : Nat) (lane : Lane)
  | patternSelect (psel : BitVec 6) (highNs : Nat)
  | latchPoint (p : Port)
  | frameBoundary (p : Port)
  | renderLine (p : Port) (lag : Nat) (moves : List Nat) (missing : List (Layer × Nat))
  | composeStaleLine (p : Port)
  | wheelLate (p : Port)
  | ringCleared (p : Port)
  | timelineValid (p : Port)
  | dllLockLost (channel : Option Nat)
  | canvasFrame (periods : List CvsPeriod)
  | canvasFrameStalled (periods : List CvsPeriod)
  | liveStale (p : Port)
  | mirrorStart (p : Port)
  | mirrorCheckDone (p : Port) (commonMv : List Nat)
  | kickEnd (p : Port)
  | ringDone (p : Port) (milliHz amp : Nat)
  | portLocked (e : PortLock)
  | mirrorStartTimeout (p : Port)
  | mirrorFault (p : Port) (f : MirrorFault)
  | portRestart (p : Port)
  | scheduleFrame (inputs : FrameInputs)
  | manualChange (low : Bool)
  | encoderEdge (a b : Bool)
  | encZIndex
  | brightEdge (rising : Bool) (ticks : Nat)
  | brightAnalogueTimeout
  | pdWindowEnd (samples : List PdSample) (runs : List SinkRun)
  | pdMeasurementAged (channel : Nat)
  | rowFrameStart (codesReady : Bool)
  | probeSlotEnd (row : Nat) (vlampMv : Nat) (sinkMv : List Nat) (track : List (Nat × Bool))
  | sinkHot (sink : Nat)
  | yardTick (trig : Bool)
  | killAssert
  | killRelease (heldMs : Nat)
  | safetyTrip (cause : TripCause) (e : TripSight)
  | scrubTick (r : ScrubResult)
  | scrubWithdrawn
  | beaconRecordTrigger (frame : Bool)
  | beaconRecordSent
  | faultPulseEnd
  | jtagBypass (tdi : Bool)
  | jtagIdcode
  | jtagSamplePreload (cells : List (Nat × Bool))
  | jtagExtest
  | stallFetch (p : Port) (e : StallSight)
  | vddioHThresholdCrossed (above : Bool)
deriving DecidableEq, Repr

end Sys2Proof
end

