-- ==== Sys2Proof/Config.lean ====
section
/-! DEFINITION. What the manual leaves open as a value: opaque constants with no body, so no proof can see one. -/

namespace Sys2Proof.Config

/-- Whether a pulse shorter than the length that is always seen, and not shorter than the length that is never seen, is
taken whole or not at all (R75, R122, R150, R242). Applied to the counter `State.free`. Log entry 5. -/
opaque pulseSeen : Nat → Bool

/-- The boundary-scan value that a ball not driven by the model's own outputs captures (R8). Applied to the counter
`State.free`. Log entry 6. -/
opaque scanCapture : Nat → Nat → Bool

/-- The dark value of a photodiode before its first dark sample, which the manual does not state. Log entry 7. -/
opaque unstated : Nat → Int

/-- The output of the low-pass filter of R307 with a time constant above 0, from the time constant, the output before and the
new reading: the manual gives the order of the filter and no recurrence. Log entry 14. -/
opaque lowPass : Nat → Int → Int → Int

/-- The warm share of a lamp pair whose two bins have the same mired value, where R347 divides by 0: applied to the target's
mired value and the bins'. Log entry 14. -/
opaque pairShare : Int → Int → Int

/-- The set-point of a slot whose set-point source the manual does not define for its destination (R310). Applied to the slot.
Log entry 14. -/
opaque noSetPoint : Nat → Int

/-- The deviation of `REFIN` from the crystal in ppm when the `CLOCK` folio is validated (R100), which no command of the table carries.
Applied to the counter `State.free`, which a core reset advances. Log entry 113. -/
opaque refinDeviation : Nat → Int

/-- The phase of a new reference against the feedback of a PLL that a switch captures and subtracts (R106), which the manual does not state.
Applied to the number of the switch and of the PLL. Log entry 113. -/
opaque refPhase : Nat → Nat → Int

/-- A byte of T5, or of T4 where no `LAMPCAL` image lies, that no transaction has written: the manual gives T5 no layout (R215). Applied to
the generation in force and the address. Log entry 114. -/
opaque tableByte : Nat → Nat → BitVec 8

end Sys2Proof.Config
end

