-- ==== Sys2Proof/Machine/Arith.lean ====
section
/-! DEFINITION. Rounding and the fixed-point logarithm and cosine in which the manual's real formulas (R63, R234, R286,
R339) are evaluated. Log entry 11: the manual states the formulas in real arithmetic; the model evaluates them to 2^-64 and
rounds to nearest. -/

namespace Sys2Proof.Machine

/-- n / d rounded to nearest, halves to even. -/
def roundHalfEven (n : Int) (d : Nat) : Int :=
  let q := n / d
  let r := n % d
  if 2 * r < d then q else if 2 * r > d then q + 1 else if q % 2 = 0 then q else q + 1

/-- n / d rounded to nearest, halves up. -/
def roundNear (n : Int) (d : Nat) : Int := (2 * n + d) / (2 * d)

/-- ceil(n / d). -/
def ceilDiv (n d : Nat) : Nat := (n + d - 1) / d

/-- v limited to lo .. hi. -/
def clampInt (lo v hi : Int) : Int := max lo (min v hi)

/-- One of the fixed-point scale. -/
def fixOne : Nat := 2 ^ 64

/-- The series of the inverse hyperbolic tangent: term y^(2k+1) / (2k+1), k counting up. -/
def atanhSeries : Nat → Nat → Nat → Nat → Nat
  | 0, _, _, _ => 0
  | fuel + 1, k, y2, p => p / (2 * k + 1) + atanhSeries fuel (k + 1) y2 (p * y2 / fixOne)

/-- ln(num / den) in units of 2^-64, for num and den above 0. -/
def lnFix (num den : Nat) : Int :=
  let x := num * 2 ^ 128 / den
  let e : Int := (Nat.log2 x : Int) - 128
  let m := if e ≥ 0 then x / 2 ^ (e.toNat + 64) else x * 2 ^ ((-e).toNat) / 2 ^ 64
  let y := (m - fixOne) * fixOne / (m + fixOne)
  2 * (atanhSeries 22 0 (y * y / fixOne) y : Int) + e * 12786308645202655660

/-- The temperature 1 / (1/298.15 + ln(r / nominal) / b) - 273.15 in units of 1/scale °C, rounded to nearest, for a
resistance num / den in ohms (R63, R339). -/
def ntcTemp (scale num den nominal b : Nat) : Int :=
  let l := lnFix num (den * nominal)
  let d : Int := 20 * (fixOne * b : Nat) + 5963 * l
  let n : Int := (scale * 5963 * (fixOne * b) : Nat)
  roundNear (100 * n - 27315 * scale * d) (100 * d.toNat)

/-- pi in units of 2^-64. -/
def piFix : Nat := 57952155664616982739

/-- The series of the cosine: alternating terms, k counting up. -/
def cosSeries : Nat → Nat → Nat → Int → Int
  | 0, _, _, _ => 0
  | fuel + 1, k, x2, t => t + cosSeries fuel (k + 1) x2 (-(t * x2 / fixOne) / ((2 * k + 1) * (2 * k + 2)))

/-- cos(pi × n / d) in units of 2^-64, for 0 ≤ n ≤ d. -/
def cosFix (n d : Nat) : Int :=
  if 2 * n ≤ d then
    let x := piFix * n / d
    cosSeries 16 0 (x * x / fixOne) fixOne
  else
    let x := piFix * (d - n) / d
    0 - cosSeries 16 0 (x * x / fixOne) fixOne

/-- The field position u(s) of R234 in units of 2^-65, at s thirty-seconds of a stall. -/
def fieldPos (s32 : Nat) : Int := fixOne - cosFix s32 131072

/-! Exact fractions, for the wide arithmetic of R301. -/

/-- num / den, with den above 0. -/
structure Frac where
  num : Int
  den : Nat
deriving DecidableEq, Repr

def fracInt (n : Int) : Frac := ⟨n, 1⟩

def fracAdd (a b : Frac) : Frac := ⟨a.num * b.den + b.num * a.den, a.den * b.den⟩

def fracSub (a b : Frac) : Frac := fracAdd a ⟨-b.num, b.den⟩

def fracMul (a b : Frac) : Frac := ⟨a.num * b.num, a.den * b.den⟩

/-- a × 2^e. -/
def fracShift (a : Frac) (e : Int) : Frac :=
  if 0 ≤ e then ⟨a.num * 2 ^ e.toNat, a.den⟩ else ⟨a.num, a.den * 2 ^ (-e).toNat⟩

/-- A coefficient of R302: a mantissa with its own exponent. -/
def fracCoef (m e : Int) : Frac := fracShift (fracInt m) e

def fracAbs (a : Frac) : Frac := ⟨a.num.natAbs, a.den⟩

def fracLt (a b : Frac) : Bool := a.num * b.den < b.num * a.den

/-- Rounded half to even. -/
def fracRound (a : Frac) : Int := roundHalfEven a.num a.den

end Sys2Proof.Machine
end

