-- ==== Sys2Proof/Machine/Bytes.lean ====
section
/-! DEFINITION. Byte order (R2), the check value (R5) and the seal's AES-128 CMAC (R6, R137). -/

namespace Sys2Proof.Machine

open Sys2Proof

/-- The little-endian number that a list of bytes spells (R2). -/
def leNat : List Byte → Nat
  | [] => 0
  | b :: bs => b.toNat + 256 * leNat bs

/-- The k bytes of n, least significant first (R2). -/
def leBytes : Nat → Nat → List Byte
  | 0, _ => []
  | k + 1, n => byteOf n :: leBytes k (n / 256)

/-- The span of len bytes at offset off. -/
def slice (bs : List Byte) (off len : Nat) : List Byte := (bs.drop off).take len

/-- The little-endian number of len bytes at offset off (R2). -/
def rd (bs : List Byte) (off len : Nat) : Nat := leNat (slice bs off len)

/-- Every byte of the span is zero. -/
def zeros (bs : List Byte) : Bool := bs.all (· == 0)

/-- One bit of the reflected division by 0x1EDC_6F41 (R5). -/
def crcBit (c : Nat) : Nat := if c % 2 = 1 then (c >>> 1) ^^^ 0x82F63B78 else c >>> 1

/-- One byte of the check value (R5). -/
def crcByte (c : Nat) (b : Byte) : Nat :=
  crcBit (crcBit (crcBit (crcBit (crcBit (crcBit (crcBit (crcBit (c ^^^ b.toNat))))))))

/-- CRC-32C: reflected, initial value and final exclusive-or 0xFFFF_FFFF (R5). -/
def crc32c (bs : List Byte) : Nat := bs.foldl crcByte 0xFFFFFFFF ^^^ 0xFFFFFFFF

/-- The AES substitution table, entry x in bits [8x+7:8x] (the standard of R6). -/
def sboxTable : Nat :=
  0x16BB54B00F2D99416842E6BF0D89A18CDF2855CEE9871E9B948ED9691198F8E19E1DC186B95735610EF6034866B53E708A8BBD4B1F74DDE8C6B4A61C2E2578BA08AE7A65EAF4566CA94ED58D6D37C8E779E4959162ACD3C25C2406490A3A32E0DB0B5EDE14B8EE4688902A22DC4F816073195D643D7EA7C41744975FEC130CCDD2F3FF1021DAB6BCF5389D928F40A351A89F3C507F02F94585334D43FBAAEFD0CF584C4A39BECB6A5BB1FC20ED00D153842FE329B3D63B52A05A6E1B1A2C830975B227EBE28012079A059618C323C7041531D871F1E5A534CCF73F362693FDB7C072A49CAFA2D4ADF04759FA7DC982CA76ABD7FE2B670130C56F6BF27B777C63

def sbox (x : Nat) : Nat := (sboxTable >>> (8 * x)) % 256

/-- Doubling in the field of AES. -/
def xtime (x : Nat) : Nat := if x < 128 then 2 * x else (2 * x) ^^^ 0x11B

/-- Entry i of a list of numbers. -/
def nth (l : List Nat) (i : Nat) : Nat := l.getD i 0

def xorList (a b : List Nat) : List Nat := List.zipWith (· ^^^ ·) a b

/-- SubBytes and ShiftRows: byte r + 4c of the result comes from column c + r. -/
def aesSubShift (s : List Nat) : List Nat :=
  [0, 5, 10, 15, 4, 9, 14, 3, 8, 13, 2, 7, 12, 1, 6, 11].map fun i => sbox (nth s i)

def aesMixColumn : List Nat → List Nat
  | [a, b, c, d] =>
    [xtime a ^^^ xtime b ^^^ b ^^^ c ^^^ d, a ^^^ xtime b ^^^ xtime c ^^^ c ^^^ d,
     a ^^^ b ^^^ xtime c ^^^ xtime d ^^^ d, xtime a ^^^ a ^^^ b ^^^ c ^^^ xtime d]
  | l => l

def aesMix (s : List Nat) : List Nat :=
  aesMixColumn (s.take 4) ++ aesMixColumn ((s.drop 4).take 4) ++ aesMixColumn ((s.drop 8).take 4) ++
    aesMixColumn (s.drop 12)

/-- The next round key from the one before. -/
def aesNextKey (k : List Nat) (rcon : Nat) : List Nat :=
  let t := [sbox (nth k 13) ^^^ rcon, sbox (nth k 14), sbox (nth k 15), sbox (nth k 12)]
  let w0 := xorList (k.take 4) t
  let w1 := xorList ((k.drop 4).take 4) w0
  let w2 := xorList ((k.drop 8).take 4) w1
  w0 ++ w1 ++ w2 ++ xorList (k.drop 12) w2

/-- Rounds 1 to 10; the last one leaves out the mixing. -/
def aesRounds : List Nat → List Nat → List Nat → List Nat
  | [], s, _ => s
  | [rc], s, k => xorList (aesSubShift s) (aesNextKey k rc)
  | rc :: rest, s, k =>
    let k' := aesNextKey k rc
    aesRounds rest (xorList (aesMix (aesSubShift s)) k') k'

/-- AES-128 of one block. -/
def aes128 (key block : List Nat) : List Nat :=
  aesRounds [1, 2, 4, 8, 16, 32, 64, 128, 27, 54] (xorList block key) key

/-- The big-endian number of a block, and back. -/
def blockNat (b : List Nat) : Nat := b.foldl (fun n x => 256 * n + x) 0

def natBlock (n : Nat) : List Nat := (List.range 16).map fun i => (n >>> (8 * (15 - i))) % 256

/-- Doubling of a subkey (SP 800-38B). -/
def cmacDouble (b : List Nat) : List Nat :=
  let n := blockNat b
  natBlock (if n < 2 ^ 127 then 2 * n else (2 * n - 2 ^ 128) ^^^ 0x87)

/-- The chain over all blocks, the fuel being the message's length; the last block takes a subkey. -/
def cmacChain (key k1 k2 : List Nat) : Nat → List Nat → List Nat → List Nat
  | 0, x, _ => x
  | fuel + 1, x, m =>
    if m.length > 16 then cmacChain key k1 k2 fuel (aes128 key (xorList x (m.take 16))) (m.drop 16)
    else if m.length = 16 then aes128 key (xorList x (xorList m k1))
    else aes128 key (xorList x (xorList (m ++ [128] ++ List.replicate (15 - m.length) 0) k2))

/-- The full 128-bit AES-128 CMAC (R6). -/
def cmac (key msg : List Byte) : List Byte :=
  let k := key.map BitVec.toNat
  let k1 := cmacDouble (aes128 k (List.replicate 16 0))
  (cmacChain k k1 (cmacDouble k1) (msg.length / 16 + 1) (List.replicate 16 0) (msg.map BitVec.toNat)).map byteOf

end Sys2Proof.Machine
end

