-- ==== Sys2Proof/Machine/State.lean ====
section
/-! DEFINITION. The state of the TH4032 as plain data, the values it has at reset, and the reasons a step can stop.
A field's docstring gives its width, the file and rule of spec/ that names it, what it holds, and the origin of its reset
value: `spec` where the manual gives it, `model n` where log entry n names it. The reset value itself is the field's
default. -/

namespace Sys2Proof.Machine

open Sys2Proof

/-- Why a step stops the machine. -/
inductive Fault where
  /-- Raised by no meaning: every command of the table has an effect that the manual gives, or none. Kept because the
  host's interface asks for a type of faults. Safe. -/
  | noCommand
deriving DecidableEq, Repr

/-- Why a command has no meaning in the model. -/
inductive Refusal where
  /-- A command that the model gives no meaning yet. Safe: the model stops where the part goes on. -/
  | notModelled (mnemonic : String)
deriving DecidableEq, Repr

/-- One-time fuses. They never change and survive every reset. -/
structure Fuses where
  /-- 16 bit, 06 R148: the customer number. spec: 0 on parts without customer fuses. -/
  customer : Nat := 0
  /-- 1 bit, 00 R6: the seal-required fuse is blown. model 8. -/
  sealRequired : Bool := false
  /-- 128 bit, 00 R6: the seal key, absent when none is fused. model 8. -/
  key : Option (List Byte) := none
deriving DecidableEq, Repr

/-- Supply validity (02, 18 R410). -/
structure Supply where
  /-- 1 bit, 18 R410: `VIN` is valid. model 4. -/
  vin : Bool := false
  /-- 1 bit, 03 R43: the always-on domain is up. model 4. -/
  aonUp : Bool := false
  /-- 1 bit, 02 R28: `VDDIO_H` is valid. model 4. -/
  ringH : Bool := false
  /-- 1 bit, 02 R30: `VDDIO_H` is above its detection threshold. model 4. -/
  ringHAbove : Bool := false
  /-- 1 bit, 02 R27: the sensed level of `VDDIO_H` is 3.3 V. model 4. -/
  ringH33 : Bool := false
  /-- 1 bit, 02 R28: `VDDIO_M` is valid. model 4. -/
  ringM : Bool := false
  /-- 1 bit, 02 R27: the sensed level of `VDDIO_M` is 3.3 V. model 4. -/
  ringM33 : Bool := false
  /-- 1 bit, 02 R32: `VMIR` is within its operating range. model 4. -/
  vmir : Bool := false
deriving DecidableEq, Repr

/-- Input levels that the part keeps between commands. -/
structure Pins where
  /-- 1 bit, 02 R39: `KILL_N` is low. spec: the internal pull is down (Table 2-3). -/
  killLow : Bool := true
  /-- 1 bit, 07 R176: `ABORT_N` is low. spec: pulled up (Table 2-3). -/
  abortLow : Bool := false
  /-- 1 bit, 13 R316: `MANUAL_N` is low. spec: pulled up (Table 2-3). -/
  manualLow : Bool := false
  /-- 1 bit, 15 R364: `TRIG` as sampled at the latest yard tick. spec: pulled down (Table 2-3). -/
  trig : Bool := false
  /-- 1 bit, 06 R122: `HOLD_REQ_N` is low. spec: pulled up (Table 2-3). -/
  holdLow : Bool := false
  /-- 1 bit each, 13 R309: `ENC_A` and `ENC_B` as last sampled. spec: pulled down (Table 2-3). -/
  encA : Bool := false
  encB : Bool := false
deriving DecidableEq, Repr

/-- What the always-on domain knows of one code ball. A reading is `some code`, or `none` between bands. -/
structure BallState where
  /-- 5 bit, 03 R46: the reading of the latest pass, absent before the first. model 4. -/
  last : Option (Option Nat) := none
  /-- 4 bit, 03 R46: the value last accepted; absent while the ball is unreadable. model 4. -/
  accepted : Option Nat := none
  /-- 16 bit, 03 R49: consecutive passes that differ from the held value. spec: R76. -/
  differ : Nat := 0
  /-- 1 bit, 03 R49: CODE_CHANGED has been reported for the run. spec: R76. -/
  reported : Bool := false
deriving DecidableEq, Repr

/-- The always-on sensing of the code balls (03). It survives a core reset (R76). -/
structure Aon where
  /-- 32 bit, 03 R43: passes since the domain came up. model 4. -/
  passes : Nat := 0
  /-- 03 R46: the seven code balls in slot order. model 4. -/
  balls : List BallState := List.replicate 7 {}
  /-- 8 bit, 03 R51: consecutive out-of-band passes of `CODE_CART`. model 4. -/
  cartOob : Nat := 0
  /-- 4 bit, 04 R82: the band 1 to 14 on which the latest two passes of `CODE_CART` agree. model 4. -/
  cartAgree : Option Nat := none
  /-- 17 R402: events of the always-on domain found while the core is in reset (code, AUX, `SUBJECT`). model 4. -/
  waiting : List (Nat × Nat × Nat) := []
deriving DecidableEq, Repr

/-- The pack as the always-on domain knows it (03). It survives a core reset (R76). -/
structure Pack where
  /-- 1 bit, 03 R61: the pack is present. model 4. -/
  present : Bool := false
  /-- 8 bit each, 03 R61: consecutive passes at or above, and below, `PACK.PRESENT_MV`. model 4. -/
  aboveRun : Nat := 0
  belowRun : Nat := 0
  /-- 16 bit, 03 R61: pack voltage of the latest pass (mV). model 4. -/
  mv : Nat := 0
  /-- 03 R66: the pack voltages of the mean, newest first. model 4. -/
  mvHistory : List Nat := []
  /-- 5 bit each, and 13 bit each (1/4,096), 03 R62: the `PACK_ID` code and the `PACK_T` ratio of the latest pass and of the one
  before. model 4: no reading, and open. -/
  idNow : Option Nat := none
  idPrev : Option (Option Nat) := none
  tNow : Nat := 4096
  tPrev : Nat := 4096
  /-- 1 bit, 03 R62: the Manchester receiver saw an edge between the two passes. model 4. -/
  edge : Bool := false
  /-- 1 bit, 03 R62: scheme detection runs. model 4. -/
  detecting : Bool := false
  /-- 1 bit, 03 R62: the pack is a Scheme 3 candidate and is listened to. model 4. -/
  candidate : Bool := false
  /-- 2 bit, 03 R62: the scheme detected, 0 for none. model 4. -/
  scheme : Nat := 0
  /-- 1 bit, 03 R62: the identity has been read. model 4. -/
  identRead : Bool := false
  /-- 1 bit, 03 R62: the pack is unidentified. model 4. -/
  unidentified : Bool := false
  /-- 4 bit, 03 R63: the band of a resistor pack. model 4. -/
  band : Nat := 0
  /-- 16 bit each, 03 R64: the Scheme 3 identity in force, and the last valid frame. model 4. -/
  ident3 : Nat := 0
  lastFrame : Option Nat := none
  /-- 1 bit, 03 R65: the Scheme 3 pack is silent. model 4. -/
  silent : Bool := false
  /-- 1 bit, 03 R67: a `PACK_T` fault holds. model 4. -/
  tFault : Bool := false
  /-- 8 bit each, 03 R67: consecutive passes of `PACK_T` out of range, and within codes 1 to 14. model 4. -/
  tBadRun : Nat := 0
  tGoodRun : Nat := 0
  /-- 8 bit, 03 R68: consecutive passes that read another band than the one detected. model 4. -/
  bandRun : Nat := 0
  /-- 16 bit signed, 03 R63: pack temperature (0.1 °C), absent when no reading. model 4. -/
  temp : Option Int := none
  /-- 16 bit, 03 R66: the pack limit (mA). spec: R67, the pack is absent; the endpaper's `PACK.LIMIT_ABSENT`. -/
  limit : Nat := 400
  /-- 1 bit each, 04 R88, 07 R178: the pack retry timer runs; it has expired and waits for `ABORT_N` high. model 4. -/
  retry : Bool := false
  expiredDue : Bool := false
deriving DecidableEq, Repr

/-- The core's own run state (02, 04). -/
structure Core where
  /-- 1 bit, 02 R29: the core is held in reset. spec: R29. -/
  inReset : Bool := true
  /-- 1 bit, 05 R100: the PLLs are locked. spec: R100. -/
  plls : Bool := false
  /-- 4 bit each, 03 R48: the code values taken at core release, in slot order; absent for an unreadable ball. spec: R76. -/
  held : List (Option Nat) := List.replicate 7 none
  /-- 6 bit, 03 R59: the straps of the last sampling; kept across a core reset (R43). model 4. -/
  straps : BitVec 6 := 0
  /-- 1 bit, 04 R73: the folios of the live signature have been validated. spec: R76. -/
  folios : Bool := false
  /-- 1 bit, 04 R73: lamp-only service has begun. spec: R73. -/
  service : Bool := false
  /-- 1 bit, 04 R94: the head is halted. spec: R76. -/
  halted : Bool := false
  /-- 1 bit, 02 R31: no binding is read until the next reset. spec: R31. -/
  noBinding : Bool := false
deriving DecidableEq, Repr

/-- The steps of Table 4-3 that a qualification goes through. -/
inductive QualStep where
  | idle | code | calibration | thermistors | mirror | photodiodes
deriving DecidableEq, Repr

/-- Which unit of a redundant pair serves (R85). -/
inductive Serving where
  | both | onlyA | onlyB
deriving DecidableEq, Repr

/-- Cartridge hot plug (04). -/
structure Cart where
  /-- 1 bit, 04 R82: presence is noted. spec: R76. -/
  present : Bool := false
  /-- 1 bit, 04 R83: the cartridge has qualified. spec: R76. -/
  qualified : Bool := false
  /-- 4 bit, 04 R83: the cartridge code read by qualification, 0 for none. spec: R76. -/
  code : Nat := 0
  /-- 4 bit, 04 R84: the code of the last cartridge to qualify. spec: R76. -/
  lastCode : Nat := 0
  /-- 1 bit, 12 R282: the cartridge has qualified since it was inserted. spec: R76. -/
  hasQualified : Bool := false
  /-- 1 bit, 04 R84: the live signature's generation has changed since that qualification. spec: R76. -/
  genChanged : Bool := false
  /-- 1 bit, 04 R82: the retry timer runs. spec: R76. -/
  retry : Bool := false
  /-- 1 bit each, 07 R178: a retry timer waits to start, or has expired and waits, until `ABORT_N` is high. spec: R76. -/
  retryDue : Bool := false
  expiredDue : Bool := false
  /-- 3 bit, 04 R83: the qualification step under way. spec: R76. -/
  step : QualStep := .idle
  /-- 3 bit, 17 Table 17-4: the qualification step reached. spec: R76. -/
  reached : Nat := 0
  /-- 2 bit, 04 R83: new passes of `CODE_CART` read by the code step. spec: R76. -/
  codePasses : Nat := 0
  /-- 1 bit, 04 R84: calibration was reused. spec: R76. -/
  reused : Bool := false
  /-- 4 bit, 04 R86: consecutive failed qualifications. spec: R76. -/
  fails : Nat := 0
  /-- 1 bit each, 04 R86, R87, R84: the latches QUAL_FAILED and CART_CHATTER, and CART_UNCALIBRATED. spec: R76. -/
  failedLatch : Bool := false
  chatter : Bool := false
  uncalibrated : Bool := false
  /-- 32 bit each, 04 R87: the removal history, in yard ticks, newest first. spec: R76. -/
  history : List Nat := []
  /-- 2 bit each, 04 R85: the thermistors and photodiodes that serve. spec: R76. -/
  therm : Serving := .both
  pd : Serving := .both
  /-- 16 bit signed, 12 R282: the last valid cartridge temperature since qualification (0.01 °C). spec: R76. -/
  lastTemp : Option Int := none
  /-- 1 bit, 04 R88: the pack removal latch PACK_CHATTER. spec: R76. -/
  packChatter : Bool := false
  /-- 32 bit each, 04 R88: the pack removal history, in yard ticks. spec: R76. -/
  packHistory : List Nat := []
deriving DecidableEq, Repr

/-- One domain under the keeper's watch (04 R77, R78). -/
structure DomainState where
  /-- 4 bit, 04 R77: the heartbeat at the last sample. spec: R76. -/
  beat : Nat := 0
  /-- 2 bit, 04 R77: consecutive samples without an advance. spec: R76. -/
  stale : Nat := 0
  /-- 1 bit, 04 R77: the domain is held in reset. spec: R76. -/
  held : Bool := false
  /-- 1 bit, 04 R78: the domain is quarantined. spec: R76. -/
  quarantined : Bool := false
  /-- 32 bit each, 04 R78: yard ticks of its resets, newest first. spec: R76. -/
  resets : List Nat := []
deriving DecidableEq, Repr

/-- The keeper (04). -/
structure Keeper where
  /-- 32 bit, 15 R361: yard ticks since core release. spec: R371. -/
  ticks : Nat := 0
  /-- 04 R77: the nine domains in the order of Table 17-3. spec: R76. -/
  domains : List DomainState := List.replicate 9 {}
  /-- 32 bit each, 04 R93: the schedule frames left of the open recovery interval, and of that of a memory-port read error, which a
  host hold does not use up (06 R126); absent when none is open. spec: R76. -/
  recovery : Option Nat := none
  readRecovery : Option Nat := none
  /-- 1 bit, 04 R79: KEEPER_RESTART is reported after the restart. It survives the core reset. spec: R79. -/
  restarted : Bool := false
deriving DecidableEq, Repr

/-- A frequency source, numbered as the REF_SWITCH row of Table 17-3. -/
inductive RefSource where
  | crystal | refin | ring
deriving DecidableEq, Repr

/-- References and the drift watch (05). -/
structure Clocks where
  /-- 2 bit, 05 R100: the selected reference. spec: R100. -/
  selected : RefSource := .crystal
  /-- 1 bit, 05 R99: `REFIN` is fitted, declared and not ignored. spec: R99, the endpaper's `CLOCK.REFIN_KHZ` 0. -/
  refinFitted : Bool := false
  /-- 1 bit, 05 R100: `REFIN` toggled at 10 MHz or more at core release. spec: R76. -/
  refinToggles : Bool := false
  /-- 32 bit each, 05 R100: the rates of the crystal and of `REFIN` counted at core release (Hz). spec: R76. -/
  crystalHz : Nat := 0
  refinHz : Nat := 0
  /-- 1 bit each, 05 R108: the crystal, and `REFIN`, is latched as failed. spec: R76. -/
  crystalFailed : Bool := false
  refinFailed : Bool := false
  /-- 1 bit, 05 R107: the PLLs hold over. spec: R76. -/
  holdover : Bool := false
  /-- 2 bit, 05 R107: the source that was lost. spec: R76. -/
  lost : Option RefSource := none
  /-- 05 R102: windows since `CLOCK` was validated. spec: R101. -/
  windows : Nat := 0
  /-- 05 R102: the ring's learned deviation, in units of 1/64 ppm. model 9. -/
  learned : Int := 0
  /-- 1 bit, 05 R102: the ring is qualified. spec: R102. -/
  ringOk : Bool := false
  /-- 05 R105: the doubled deviations from the majority in the window before (crystal, `REFIN`), absent for a source not counted; and
whether the majority was the mean of two sources. spec: R76. -/
  lastTrend : Option (Bool × Option Int × Option Int) := none
  /-- 2 bit, 05 R105: consecutive windows over tolerance on a crystal-only head. spec: R76. -/
  suspect : Nat := 0
  /-- 1 bit, 05 R111: `VREF_B` is the selected voltage reference. spec: R111. -/
  vrefB : Bool := false
  /-- 3 bit each, 05 R111: consecutive checks on which the selected, or the other, reference is failed. spec: R76. -/
  vselRun : Nat := 0
  vothRun : Nat := 0
  /-- 1 bit each, 05 R111, R112: latched failure of `VREF_A`, `VREF_B`, and of the majority. spec: R76. -/
  vrefAFailed : Bool := false
  vrefBFailed : Bool := false
  vrefNoMajority : Bool := false
  /-- 05 R100, R103: the latest deviation of the crystal from `REFIN` (ppm). model 9. -/
  lastDev : Option Int := none
  /-- 05 R106: the nominal frequency (Hz) of the reference that the PLLs' divider words are computed for, and the phases captured at
  the latest switch, PLL_E, PLL_S, PLL_M and PLL_L. spec: R100, the crystal; model 113: 0. -/
  pllNominal : Nat := 24000000
  phases : List Int := [0, 0, 0, 0]
  /-- The model's own number of the next switch (05 R106). model 113: 0. -/
  switches : Nat := 0
  /-- 2 and 8 bit, 05 R113: the spread of `CK_LAMP` in force (code, and kHz of its triangle), and the place in the triangle period under
  way, in thousandths. spec: R114, the endpaper; model 113: 0. -/
  spread : Nat := 3
  spreadKhz : Nat := 32
  spreadPhase : Nat := 0
deriving DecidableEq, Repr

/-- The protocol modes of Table 6-1. -/
inductive MemMode where
  | s1 | s4 | d8
deriving DecidableEq, Repr

/-- What a memory-port read is for. -/
inductive MemItem where
  | spine (c : Copy)
  | header (c : Copy)
  | directory (c : Copy)
  | twinColophon (c : Copy)
  | leafHeader (leaf : Nat)
  | twinCheck (c : Copy)
  | calBlock (code : Nat)
  | shadowFolio
deriving DecidableEq, Repr

/-- The stages of the `MEM_RST_N` pulse (R118). -/
inductive FlashReset where
  | none | low | waiting | done
deriving DecidableEq, Repr

/-- A command issued to the flash (06 Table 6-1): its opcode, with the extension in 8D-8D-8D, its four address bytes where it has any,
and the number of data bytes. -/
structure FlashCommand where
  opcode : Nat
  addr : Option Nat
  len : Nat
deriving DecidableEq, Repr

/-- The memory port (06). -/
structure MemPort where
  /-- 2 bit, 06 R118: the reset of the flash at the first moment the bus is taken. spec: Table 2-3, high-impedance. -/
  flashReset : FlashReset := .none
  /-- 1 bit, 02 R25: `HOLD_ACK_N` is low, the bus is the host's. spec: R25. -/
  ackLow : Bool := true
  /-- 1 bit, 03 R60: the boot hold waits for its release. spec: R76. -/
  bootHold : Bool := false
  /-- 1 bit, 03 R60: a low of `HOLD_REQ_N` was seen after core release. spec: R76. -/
  bootLow : Bool := false
  /-- 2 bit, 06 R120: the mode in force. spec: R76. -/
  mode : MemMode := .s1
  /-- 8 bit, 06 R120: the `CK_MEM` rate in MHz. spec: Table 3-5. -/
  mhz : Nat := 25
  /-- 1 bit, 06 R120: the mode has been raised. spec: R120. -/
  raised : Bool := false
  /-- 06 R121: the read in progress, and those that wait. spec: R76. -/
  reading : Option MemItem := none
  waiting : List MemItem := []
  /-- 1 bit, 06 R124: the next command is read status. spec: R76. -/
  statusDue : Bool := false
  /-- 1 bit each, 06 R124, R125: MEM_BUSY, HOLD_LONG reported for this hold. spec: R76. -/
  busyReported : Bool := false
  longReported : Bool := false
  /-- 06 R115 to R117: the commands issued for the latest read or status poll, in order. spec: R76, none. -/
  issued : List FlashCommand := []
  /-- 06 R121: the spans of the item being read that have not been read yet (flash offset and length). spec: R76. -/
  unread : List (Nat × Nat) := []
deriving DecidableEq, Repr

/-- The reason codes of Table 6-7, Table 7-3 and the codec are numbers; this is the folio store: the images of the folios
a signature holds, by ID. A folio that is absent has the endpaper value of every field (R132). -/
abbrev Store := List (Nat × List Byte)

/-- A leaf table entry (R134). -/
structure LeafEntry where
  offset : Nat := 0
  length : Nat := 0
  crc : Nat := 0
  kind : Nat := 0
deriving DecidableEq, Repr

/-- A calibration table entry (R135). -/
structure CalEntry where
  code : Nat := 0
  offset : Nat := 0
  length : Nat := 0
  crc : Nat := 0
deriving DecidableEq, Repr

/-- Where a configuration comes from (R141). -/
inductive Origin where
  | builtin | flashEndpaper | signature
deriving DecidableEq, Repr

/-- A whole configuration: everything the binding holds for one tool code (06). -/
structure Settings where
  /-- 2 bit, 06 R141: the endpaper or signature that it is. spec: R141. -/
  origin : Origin := .builtin
  /-- 8, 1 and 32 bit, 06 R130: tool code, copy and generation. spec: R400. -/
  tool : Nat := 255
  copy : Copy := .a
  gen : Nat := 0
  /-- 32 bit each, 06 R136, R130: the directory's check value and the build number. spec: R141. -/
  dirCrc : Nat := 0
  build : Nat := 0
  /-- 1 bit, 06 R130: SEALED. spec: R141. -/
  isSealed : Bool := false
  /-- 06 R132: the folios. spec: R141, every field at its endpaper value. -/
  folios : Store := []
  /-- 32 bit, 06 R130: the directory's length, behind which the colophon lies. spec: R141, none. -/
  dirLen : Nat := 0
  /-- 06 R134, R135: the leaf and calibration tables. spec: R141. -/
  leaves : List LeafEntry := []
  cals : List CalEntry := []
deriving DecidableEq, Repr

/-- A spine copy that passed R129. -/
structure Spine where
  gen : Nat
  sizeLog2 : Nat
  memMode : Nat
  memMhz : Nat
  /-- The 256 entries of Table 6-4, twelve bytes each. -/
  entries : List (List Byte)
deriving DecidableEq, Repr

/-- A signature header that passed its read. -/
structure Header where
  copy : Copy
  bytes : List Byte
deriving DecidableEq, Repr

/-- What a selection of R138 is doing. -/
inductive Phase where
  | idle | spines | headers | directory | twin | leafHeaders | done
deriving DecidableEq, Repr

/-- The binding reader (06 R138). -/
structure Reader where
  /-- 3 bit, 06 R138: the phase of the selection. spec: R76. -/
  phase : Phase := .idle
  /-- 1 bit, 06 R142: the selection is a stitch's. spec: R76. -/
  stitch : Bool := false
  /-- 06 R129: the spine copies that passed. spec: R76. -/
  spineA : Option Spine := none
  spineB : Option Spine := none
  /-- 8 bit, 06 R138: the tool code searched. spec: R76. -/
  n : Nat := 255
  /-- 06 R138: the headers read, and the copies still to be examined. spec: R76. -/
  headerA : Option (List Byte) := none
  headerB : Option (List Byte) := none
  order : List Copy := []
  /-- 8 bit each, 06 R139: copies rejected, with generation (absent if unknown) and reason. spec: R76. -/
  rejected : List (Copy × Option Nat × Nat) := []
  /-- 8 bit, 06 R142: the reason of the first copy examined. spec: R76. -/
  firstReason : Nat := 0
  /-- 06 R138: the configuration selected. spec: R76. -/
  found : Option Settings := none
  /-- 1 bit, 06 R143: the configuration selected has a twin. spec: R76. -/
  foundTwin : Bool := false
  /-- 08 R202: leaf headers still to be read, and those read, at a validate step. spec: R76. -/
  leafHeaders : List (Nat × List Byte) := []
  leafFailed : Option Nat := none
  /-- 2 bit, 06 R144: repeats of the leaf header or calibration block being read. spec: R76. -/
  tries : Nat := 0
  /-- 8 bit, 12 R295, 16 R388: the reason with which a stitch's calibration block failed, 0 for none. spec: R76. -/
  calReason : Nat := 0
deriving DecidableEq, Repr

/-- The live configuration and its copies (06). -/
structure Binding where
  /-- 06 R138: the live configuration, in the active half of T5 and T4. spec: R141. -/
  live : Settings := {}
  /-- 1 bit, 06 R143: the other copy is the live one's twin. spec: R76. -/
  twin : Bool := false
  /-- 1 bit, 06 R143: the reading copy. spec: R76. -/
  readCopy : Copy := .a
  /-- 1 bit each, 06 R145: a spine copy failed, a later signature copy failed, at the last selection. spec: R76. -/
  spineFailed : Bool := false
  laterFailed : Bool := false
  /-- 06 R143: the copies of the live entry that failed a check of the selection; none of them is ever a twin. spec: R76. -/
  failed : List Copy := []
  /-- 1 bit, 04 R94: both copies have been unreadable while running. spec: R76. -/
  unreadable : Bool := false
  /-- 06 R127: the spine in use. spec: R76. -/
  spine : Option Spine := none
  /-- 06 R138: the binding reader. spec: R76. -/
  reader : Reader := {}
deriving DecidableEq, Repr

/-- The states of Table 7-1, numbered as Table 17-2. -/
inductive GatherState where
  | closed | opened | validate | decode | darkDecode | ramp | swapWait | restore
deriving DecidableEq, Repr

/-- A gathering (07). -/
structure Gather where
  /-- 3 bit, 07 R171: the state. spec: Table 7-1. -/
  state : GatherState := .closed
  /-- 3 and 8 bit, 07 R171: outcome and reason of the last gathering. spec: Table 7-2. -/
  outcome : Nat := 0
  reason : Nat := 0
  /-- 07 R159: the configuration a stitch carries, in the shadow halves. spec: R76. -/
  shadow : Option Settings := none
  shadowTwin : Bool := false
  /-- 06 R127, R145: the spine of that selection, and whether a spine copy or a later signature copy failed in it. spec:
  R76. -/
  shadowSpine : Option Spine := none
  shadowSpineFailed : Bool := false
  shadowLaterFailed : Bool := false
  /-- 06 R143: the copies that failed a check of that selection. spec: R76. -/
  shadowFailed : List Copy := []
  /-- 8 bit, 09 R212: the blocks that the decode step still needs. spec: R76. -/
  need : Nat := 0
  /-- 1 bit, 07 R163: the port at whose latch point everything was ready. spec: R76. -/
  latched : Option Port := none
  /-- 6 bit, 07 R160: the entry the decode step decodes. spec: R76. -/
  entry : Option Nat := none
  /-- 1 bit, 07 R160: the entry was the pending selection. spec: R76. -/
  wasPending : Bool := false
  /-- 6 bit, 07 R172: the pending selection at the stitch request. spec: R76. -/
  pendingAt : Option Nat := none
  /-- 07 R163: the S items that a stitch changes, and those that have not converged. spec: R76. -/
  changed : List SItem := []
  ramping : List SItem := []
  /-- 1 bit each, 07 R165, R161: a bridge is under way, and it is a dark decode's. spec: R76. -/
  bridge : Bool := false
  dark : Bool := false
  /-- 1 bit, 07 R161: the bridge begins at the next lead-port frame boundary. spec: R76. -/
  bridgeDue : Bool := false
  /-- 1 bit, 07 R160: the stitch's calibration block is still to be loaded. spec: R76. -/
  calDue : Bool := false
  /-- 1 bit, 07 R169: the dropped leaves are being decoded again. spec: R76. -/
  restoring : Bool := false
  /-- 1 bit, 07 R169: a restore failed and is retried. spec: R76. -/
  restoreFailed : Bool := false
  /-- 1 bit, 07 R178: a restore decode waits for `ABORT_N`. spec: R76. -/
  restoreDue : Bool := false
  /-- 1 bit, 07 R169: a retry has succeeded, and the committed content lights at the lead port's next frame boundary. spec: R76. -/
  reshowDue : Bool := false
  /-- 1 bit, 07 R178: a retry that fell due waits for `ABORT_N`. spec: R76. -/
  retryDue : Bool := false
  /-- 1 bit, 07 R167: after a RESTORE the lasers stay dark to the lead port's next frame boundary. spec: R76. -/
  relight : Bool := false
  /-- 8 bit, 07 R162: the reason with which a rollback under way will close. spec: R76. -/
  backReason : Nat := 0
  /-- 1 bit, 07 R177: the actions of an abort are not yet complete. spec: R76. -/
  aborting : Bool := false
deriving DecidableEq, Repr

/-- Who asked for a leaf-lane job (R181, R201). -/
inductive Requester where
  | stitch | restore | pattern | calibration | preload | recheck
deriving DecidableEq, Repr

/-- A leaf-lane job (08). -/
structure Job where
  /-- The leaf index, or the calibration code. -/
  leaf : Nat := 0
  leafLength : Nat := 0
  crc : Nat := 0
  kind : Nat := 0
  requester : Requester := .pattern
  /-- The pattern entry it serves. -/
  entry : Nat := 0
  /-- The pen allocated, by its number. -/
  pen : Option Nat := none
  /-- Repeats made from the reading copy (R144), and whether the twin is being read. -/
  repeats : Nat := 0
  fromTwin : Bool := false
  /-- The one restart of R204 has been used. -/
  restarted : Bool := false
  /-- A stitch job of the configuration in the shadow halves. -/
  shadow : Bool := false
  /-- The configuration whose leaf it reads, which bounds the leaf for as long as the job lasts (R184). -/
  src : Settings := {}
  /-- The header has been read; the job waits for nothing but its end. -/
  started : Bool := false
  /-- The requests that joined the job (R203): requester and entry. -/
  joined : List (Requester × Nat) := []
  /-- The reason of its latest failed read. -/
  lastReason : Nat := 0
deriving DecidableEq, Repr

/-- The leaf codec (08). -/
structure Codec where
  /-- 08 R181: the leaf lane's running job. spec: R76. -/
  running : Option Job := none
  /-- 08 R181: the leaf jobs that wait, and those that wait at their requesters. spec: R76. -/
  queue : List Job := []
  atRequester : List Job := []
  /-- 09 R214: the preload queue. spec: R76. -/
  preload : List Job := []
  /-- 1 bit, 09 R214: a preload round waits for `ABORT_N` or a restart. spec: R76. -/
  preloadDue : Bool := false
  /-- 4, 5 and 5 bit, 08 R205: `QUEUE_DEPTH`, `RD_BURST` and `WR_BURST` as the leaf lane's latest job took them. spec: R141, the
  endpaper. -/
  depth : Nat := 8
  rdBurst : Nat := 8
  wrBurst : Nat := 16
  /-- 5 bit each, 08 R205: `RD_BURST` and `WR_BURST` as the canvas lane's latest job took them. spec: R141, the endpaper. -/
  rdCanvas : Nat := 8
  wrCanvas : Nat := 16
  /-- 8 bit, 17 Table 17-4: the last codec error. spec: R404. -/
  lastError : Nat := 0
  /-- 08 R201: the latest job that ended without publishing: its requester, its leaf index (a canvas frame has none), and the codec
  error, 0 for none. spec: R76. -/
  lastEnd : Option (Option Requester × Nat × Nat) := none
deriving DecidableEq, Repr

/-- The pen kinds of Table 9-1. -/
inductive PenKind where
  | guide | signal | lampMask | live | calibration | table
deriving DecidableEq, Repr

/-- The pen states of R210. -/
inductive PenState where
  | free | filling | standby | shown | retiring
deriving DecidableEq, Repr

/-- A decoded image in pen order (R183). -/
structure Image where
  format : Nat := 0
  width : Nat := 0
  height : Nat := 0
  samples : List Nat := []
deriving DecidableEq, Repr

/-- A pen (09). -/
structure Pen where
  kind : PenKind := .guide
  state : PenState := .free
  /-- The blocks in order (R208). -/
  blocks : List Nat := []
  /-- `LENGTH`, `CRC` and `KIND` of the leaf held (R203); for a calibration pen, its code in `leafLength`. -/
  leafLength : Nat := 0
  crc : Nat := 0
  leafKind : Nat := 0
  image : Image := {}
  /-- The 192 bytes of a calibration pen. -/
  block : List Byte := []
  /-- The readers that must pass a boundary before the pen is FREE (R211): port A, port B, the lamp engine. -/
  waitA : Bool := false
  waitB : Bool := false
  waitLamp : Bool := false
  /-- When it was last shown, in yard ticks (R213). -/
  shownAt : Nat := 0
  /-- Held for a stitch or a RESTORE decode (R213). -/
  stitch : Bool := false
  /-- Filled for a stitch (07 R162). -/
  forStitch : Bool := false
  /-- A re-decode of R375 that replaces an equal pen. -/
  fresh : Bool := false
  /-- An uncorrectable error has been found in it while SHOWN (Table 4-5). -/
  bad : Bool := false
  /-- The port of a live pen. -/
  port : Port := .a
  /-- `SEQ` of the canvas frame it holds. -/
  seq : Nat := 0
deriving DecidableEq, Repr

/-- The frame store (09). -/
structure Pens where
  /-- 09 R210: the pens that are not FREE, by number. spec: R227. -/
  list : List (Nat × Pen) := []
  /-- The number the next pen gets. model 10. -/
  next : Nat := 0
  /-- 8 bit, 09 R209: blocks of the live reserve, by number. spec: R227. -/
  reserve : List Nat := []
deriving DecidableEq, Repr

/-- The lock held on a target (09 R223). -/
structure LockState where
  master : Nat
  lane : Lane
  /-- The identifier of its latest burst (R218). -/
  id : Nat
  /-- The beats of its bursts so far, at most 8 (R223). -/
  beats : Nat
  /-- The journal of R224: address and byte, in the order written. -/
  journal : List Host.Cell
deriving DecidableEq, Repr

/-- A burst that holds a target's path (09 R217 to R221). -/
structure Burst where
  request : MatrixReq
  /-- The beats that a read returns; a write is carried out when its response returns. -/
  data : List Nat
  /-- Its job has been aborted: the data is discarded (R228). -/
  dropped : Bool := false
deriving DecidableEq, Repr

/-- A response to a master (09 R219, R220): its identifier, whether it is an error, and the beats of a read. -/
structure Response where
  id : Nat
  error : Bool
  data : List Nat
deriving DecidableEq, Repr

/-- One target's arbiter (09 R221). -/
structure Arbiter where
  /-- 3 bit, 09 R221: the master last granted. model 4. -/
  ptr : Nat := 7
  /-- 09 R223: the lock held. spec: R227. -/
  lock : Option LockState := none
  /-- 09 R221: the burst that holds the path. spec: R227. -/
  burst : Option Burst := none
deriving DecidableEq, Repr

/-- The bus matrix (09). -/
structure Matrix where
  /-- 09 R221: the arbiters of T0 to T7. spec: R227. -/
  arbiters : List Arbiter := List.replicate 8 {}
  /-- 1 bit each, 09 R216: M0 and M1 have been raised to urgency 2. spec: R227. -/
  raised0 : Bool := false
  raised1 : Bool := false
  /-- 09 R221: the master granted by the latest decision, its target and address. spec: R227. -/
  granted : Option (Nat × Nat × Nat) := none
  /-- 1 bit, 09 R216: the active halves of T4 and T5 are the upper ones. model 16: the lower ones. -/
  halves : Bool := false
  /-- 09 R208, R219: the bytes of T0 to T3 that no pen's image holds, in rising order of their addresses; an address that is not listed
  holds 0. model 114: 0. -/
  cells : List Host.Cell := []
  /-- 09 R215, R219: the bytes of T4 and T5 that have been written, in rising order. model 114: none. -/
  tables : List Host.Cell := []
  /-- 09 R219, R220: the latest response to each master. spec: R227. -/
  answers : List (Option Response) := List.replicate 8 none
  /-- 9, 9, 7 and 6 bit, 09 R216: the fetch buffers of M0, M1 and M2 and the input queue of M5 at the latest decision. model 114: 0. -/
  levels : MatrixLevels := { scanA := 0, scanB := 0, lampFill := 0, canvasFill := 0 }
  /-- 09 R220: the latest decode error: master, target addressed, and address. spec: R227. -/
  decodeError : Option (Nat × Nat × Nat) := none
  /-- 16 bit each, 09 R220: the decode errors of M0, M1 and M2. spec: R404. -/
  decodeErrors : List Nat := [0, 0, 0]
  /-- 16 bit each, 09 R220: the uncorrectable errors on fetches of M0, M1 and M2. spec: R404. -/
  eccZeros : List Nat := [0, 0, 0]
  /-- 16 bit each, 09 R226: the times that the scan-out buffers of ports A and B emptied. spec: R404. -/
  scanEmpty : List Nat := [0, 0]
  /-- 16 bit each, 17 Table 17-4 page 6. spec: R404. -/
  deferrals : Nat := 0
  lockBroken : Nat := 0
deriving DecidableEq, Repr

/-- Pattern selection (10 R243 to R245). -/
structure Select where
  /-- 6 bit, 10 R243: the pending selection. spec: R245. -/
  pending : Option Nat := none
  /-- 6 bit, 10 R245: the current entry. spec: R76. -/
  current : Option Nat := none
  /-- 6 bit, 07 R160, 10 R244: the entry last shown: by the lead port, by a swap, or, on a head whose ports cannot run, by the
  lamp engine. spec: R76. -/
  lastShown : Option Nat := none
deriving DecidableEq, Repr

/-- The canvas shape that a frame meets (10 R249, R250): format, size, live pen size in blocks, and whether the codec accepts the
format. -/
structure CvsShape where
  format : Nat := 0
  width : Nat := 0
  height : Nat := 0
  blocks : Nat := 0
  accepted : Bool := false
deriving DecidableEq, Repr

/-- A canvas frame under way (10 R247 to R253). -/
structure CanvasRx where
  /-- The bytes queued, header first. -/
  bytes : List Byte := []
  /-- The folio was in force and `CANVAS.ENABLE` 1 at the frame's start. -/
  enabled : Bool := false
  /-- A swap of the canvas shape has fallen since the frame's start. -/
  swapSeen : Bool := false
  /-- `ABORT_N` was low at the frame's start, or has fallen since. -/
  aborted : Bool := false
  /-- A byte found the queue full. -/
  overflow : Bool := false
  /-- What the header decided: 0, or the code of Table 10-5 that applies. -/
  reason : Nat := 0
  /-- No FREE live pen when the header had been received. -/
  busy : Bool := false
  shape : CvsShape := {}
  /-- The live pens that it fills. -/
  pens : List Nat := []
deriving DecidableEq, Repr

/-- A coded frame that the canvas lane decodes (10 R250). -/
structure CanvasJob where
  payload : List Byte
  seq : Nat
  pens : List Nat
  shape : CvsShape
  /-- A swap of the canvas shape has fallen since the frame's start. -/
  swapSeen : Bool
  /-- The one restart of 08 R204 has been used. -/
  restarted : Bool := false
deriving DecidableEq, Repr

/-- The canvas receiver (10). -/
structure Canvas where
  /-- 1 bit, 10 R247: `CVS_FS` was low on the latest rising edge. spec: pulled down (Table 2-3). -/
  fsLow : Bool := true
  /-- 10 R247: the frame under way. spec: R76. -/
  frame : Option CanvasRx := none
  /-- 10 R250: the canvas lane's job. spec: R76. -/
  job : Option CanvasJob := none
  /-- 16 bit each, 17 Table 17-4 page 5. spec: R404. -/
  late : Nat := 0
  discards : Nat := 0
  /-- 8 bit, 10 Table 10-5: the last discard reason. spec: R404. -/
  lastReason : Nat := 0
deriving DecidableEq, Repr

/-- The phases of a mirror start (12 Table 12-2), and the port's states round it. -/
inductive MirrorPhase where
  | off | check | kick | ring | capture | locked | coast
deriving DecidableEq, Repr

/-- What a coil of a mirror sees (12 Table 12-1): plus or minus `VMIR`, a short, or an open bridge. -/
inductive CoilDrive where
  | plus | minus | shorted | floating
deriving DecidableEq, Repr

/-- A valid entry of a port's ring (11 Table 11-1); its parity bit is that of the rest. -/
structure RingEntry where
  slot : Nat
  channel : Nat
  level : Nat
  frac : Nat
  lap : Nat
deriving DecidableEq, Repr

/-- An event of the render stage (11 R265). -/
structure Event where
  target : Nat
  channel : Nat
  level : Nat
  frac : Nat
  /-- The level of the previous event of the channel on the line. -/
  prev : Nat
  /-- It has been counted as held. -/
  counted : Bool
deriving DecidableEq, Repr

/-- The counters of Table 11-3, 16 bit each, saturating. -/
structure WheelCounters where
  lateDropped : Nat := 0
  lateExecuted : Nat := 0
  lineSkipped : Nat := 0
  heldEvents : Nat := 0
  tagMismatch : Nat := 0
  ringParity : Nat := 0
deriving DecidableEq, Repr

/-- A port's half of the pulse wheel (11). -/
structure Wheel where
  /-- 32 bit, 11 R261: the absolute position. spec: R261. -/
  position : BitVec 32 := 0
  /-- 20 bit each, 11 R262: the valid entries of the ring. spec: R276. -/
  ring : List RingEntry := []
  /-- 12 bit each, 11 R266: the full late slots (channel, level). spec: R276. -/
  lateSlots : List (Nat × Nat) := []
  /-- 32 bit, 11 R263: the next line the render stage begins. spec: R261. -/
  nextLine : Nat := 0
  /-- 11 R265: events held in the render stage, oldest first. spec: R76. -/
  held : List Event := []
  /-- 11 R378: lines marked complete, newest first. spec: R76. -/
  complete : List Nat := []
  /-- 8 bit, 16 R378: consecutive stale lines. spec: R76. -/
  staleRun : Nat := 0
  /-- 11 R267: the queue to the edge stage (stall, level and fraction per channel). spec: R76. -/
  queue : List (Nat × List (Nat × Nat × Nat)) := []
  /-- 1 bit, 11 R269: the edge timeline is valid. spec: R269. -/
  timeline : Bool := false
  /-- 11 R269: the anchors, newest first: stall and time in sub-ticks. spec: R76. -/
  anchors : List (Nat × Nat) := []
  /-- 11 R270: the latest edges placed (channel, time in sub-ticks, level). spec: R76. -/
  fired : List (Nat × Nat × Nat) := []
  /-- 1 bit, 11 R261: stall 0 of the raster start has not been fetched yet. spec: R76. -/
  fresh : Bool := false
  /-- 1 bit, 11 R276: the ring is being cleared. spec: R76. -/
  clearing : Bool := false
  /-- 1 bit, 11 R268: the port's gate is open. spec: R268. -/
  gate : Bool := false
  /-- 1 bit, 11 R275: WHEEL.LATE_DARK holds the gate to the next frame boundary. spec: R76. -/
  lateDark : Bool := false
  /-- 16 bit, 11 R275: late drops of the frame under way. spec: R76. -/
  frameDrops : Nat := 0
  /-- 1 bit, 11 R275: WHEEL_LATE has been reported in the frame under way. spec: R76. -/
  lateReported : Bool := false
  /-- 11 R275: the counters. spec: R275. -/
  counters : WheelCounters := {}
deriving DecidableEq, Repr

/-- One mirror port with its raster and compositor (10, 12, 16). -/
structure PortState where
  /-- 3 bit, 12 R282: the phase. spec: R24, coils shorted. -/
  phase : MirrorPhase := .off
  /-- 4 bit, 12 R292: the schedule frames for which both bridges stay high-impedance after COIL_OVERCURRENT. spec: R24, none. -/
  coilZ : Nat := 0
  /-- 1 bit, 04 R85: the port has passed its cross-check. spec: R76. -/
  qualified : Bool := false
  /-- 1 bit, 10 R232: out of service until `RST_N` or a stitched gathering. spec: R76. -/
  outOfService : Bool := false
  /-- 1 bit, 12 R293: MIRROR_FAILED is latched. spec: R76. -/
  failedLatch : Bool := false
  /-- 1 bit, 12 R291: the port has failed since it last served. spec: R76. -/
  down : Bool := false
  /-- 1 bit, 12 R293: the port has qualified since the cartridge's qualification began, so that a fault is counted. spec: R76. -/
  served : Bool := false
  /-- 1 bit each, 12 R293: a restart waits, and the mirror start under way is a restart's. spec: R76. -/
  restartDue : Bool := false
  restarting : Bool := false
  /-- 32 bit each, 12 R293: its mirror faults, in yard ticks. spec: R76. -/
  faults : List Nat := []
  /-- 16 bit, 17 Table 17-4 page 8: mirror fault count. spec: R404. -/
  faultCount : Nat := 0
  /-- 04 Table 4-3: the mirror start in this phase failed (0 none). spec: R76. -/
  failedPhase : Nat := 0
  /-- 32 bit each, 12 R282: estimate, kick frequency and ring frequency in mHz. spec: R76. -/
  fEst : Nat := 0
  fKick : Nat := 0
  fRing : Nat := 0
  /-- 12 R281: the DCO preset in mHz. spec: R76. -/
  dco : Nat := 0
  /-- 32 bit, 12 R283: the fast-axis frequency in mHz at which the port locked. spec: R76. -/
  fLock : Nat := 0
  /-- 4 bit, 12 R282: kicks of the latest start. spec: R404. -/
  kicks : Nat := 0
  /-- 12 bit, 16 bit signed, 12 bit signed, 12 R278: the drive words W, P and slow level. spec: R324. -/
  driveW : Nat := 0
  driveP : Int := 0
  driveSlow : Int := 0
  /-- 16 bit, 12 R285: the latest fast amplitude (0.01°). spec: R404. -/
  amp : Nat := 0
  /-- 1 bit, 10 R233: the raster runs. spec: R76. -/
  raster : Bool := false
  /-- 16 bit, 10 R232: frames since the raster start. spec: R76. -/
  frames : Nat := 0
  /-- 32 bit each, 10 R232: the lines at which the latest frame boundary fell, and the next one falls. spec: R76. -/
  fbLine : Nat := 0
  nextFb : Nat := 0
  /-- 10 bit, 10 R232: the active lines of the frame under way. spec: R76. -/
  vact : Nat := 0
  /-- 1 bit, 10 R251: the latch point of the frame under way has passed. spec: R76. -/
  pastLatch : Bool := false
  /-- 1 bit, 04 R72: the cross-check of the frame under way has passed. spec: R76. -/
  checkPassed : Bool := false
  /-- 6 bit, 10 R244: the entry shown, and the one taken at the latch point. spec: R245. -/
  shown : Option Nat := none
  taken : Option Nat := none
  /-- 1 bit, 07 R168: held dark from a swap to its next frame boundary. spec: R76. -/
  swapHold : Bool := false
  /-- 09 R210, 10 R244: the guide and signal pens shown, and those taken at the latch point (by number). spec: R245. -/
  guideShown : Option Nat := none
  signalShown : Option Nat := none
  guideTaken : Option Nat := none
  signalTaken : Option Nat := none
  /-- 10 R251: the live pen shown, and the one taken at the latch point (by number). spec: R254. -/
  liveShown : Option Nat := none
  liveTaken : Option Nat := none
  /-- 1 bit, 16 R377: a live frame has been shown. spec: R377. -/
  liveSeen : Bool := false
  /-- 1 bit each, 16 R377: LIVE_STALE reported; the live layer counts as empty. spec: R76. -/
  liveStale : Bool := false
  liveEmpty : Bool := false
  /-- 16 bit, 10 R248: the live `SEQ` shown. spec: R404. -/
  liveSeq : Nat := 0
  /-- 16 R373: the composed lines of the frame (raster line, levels per pixel and channel). spec: R76. -/
  lines : List (Nat × List (List Nat)) := []
  /-- 1 bit, 16 R374: the gate was open at the start of the frame and stayed open. spec: R76. -/
  gateWhole : Bool := false
  /-- 6 bit, 16 R374: the entry of the frame at its first boundary. spec: R76. -/
  frameEntry : Option Nat := none
  /-- 16 bit each, 16 R375: mismatches per check, and consecutive mismatching frames. spec: R76. -/
  mismatches : List Nat := List.replicate 8 0
  mismatchRun : Nat := 0
  /-- 1 bit each, 16 R375: a mismatch run holds STAT 5; the compositor blanks. spec: R76. -/
  mismatchHeld : Bool := false
  blanked : Bool := false
  /-- 16 bit, 17 Table 17-4 page 5: underrun events; and missing samples (R241). spec: R404. -/
  underruns : Nat := 0
  missing : Nat := 0
  /-- 10 R256, 11 R277, 16 R392: the folios in force at the port since its latest frame boundary. spec: R141, the
  endpaper. -/
  fields : Store := []
  /-- 12 R296: the folios in force for the mirror since its latest start. spec: R141, the endpaper. -/
  mirrorFields : Store := []
  /-- 12 R287: the folios whose vertical fields the port's frame follows. spec: R141, the endpaper. -/
  vertFields : Store := []
  /-- 11: the port's half of the wheel. -/
  wheel : Wheel := {}
deriving DecidableEq, Repr

/-- One slot's state in one lane (13). Coefficients come from the `LOOP` folio. -/
structure Slot where
  /-- 24 bit signed, 13 R303: the integrator mantissa. spec: R324. -/
  integ : Int := 0
  /-- 13 R304: the ramped set-point now and at the two computations before, in units of 2^-48 / 10^9, so that every source of
  Table 13-3 and every step of a ramp is exact. spec: R324. -/
  r0 : Int := 0
  r1 : Int := 0
  r2 : Int := 0
  /-- 13 R318: the measurement of the computation before, on the source and on `ALT`. spec: R324. -/
  x1 : Option Int := none
  alt1 : Option Int := none
  /-- 13 R304: the latest proposal, and the output applied at that computation. spec: R324. -/
  proposal : Int := 0
  a1 : Int := 0
  /-- 13 R315: the latest `err`, in the units of the set-point, absent before the first. spec: R324. -/
  lastErr : Option Int := none
  /-- 1 bit, 13 R306: the slot is frozen. spec: R306. -/
  frozen : Bool := true
  /-- 1 bit, 13 R311: it soft-starts at its next computation. spec: R324. -/
  softStart : Bool := true
  /-- 1 bit, 13 R305: its integrator is preset at its next computation. spec: R324. -/
  preset : Bool := false
  /-- 2 bit, 13 R306: computations left without a model test. spec: R306. -/
  grace : Nat := 2
  /-- 7 bit each, 13 R318: consecutive failing, and consecutive passing `ALT`, computations. spec: R324. -/
  failRun : Nat := 0
  altRun : Nat := 0
  /-- 1 bit each, 13 R319: the slot runs on `ALT`; the slot has failed. spec: R324. -/
  onAlt : Bool := false
  failed : Bool := false
  /-- 1 bit and value, 13 R316: in manual, and its manual value in units of 1 / (1,000 × 16,383 × 65,535). spec: R324. -/
  manual : Bool := false
  manualValue : Int := 0
  /-- 7 bit, 13 R326: consecutive computations within `CONV_TOL`. spec: R324. -/
  convRun : Nat := 0
  /-- 32 bit signed, 13 R309: the encoder position at the computation before. spec: R324. -/
  enc1 : Int := 0
deriving DecidableEq, Repr

/-- The run-time record of a halter in the table pen (13 R300). -/
structure HalterRecord where
  cap : Option Nat := none
  /-- The winning slot; 48 for the cap. -/
  winner : Option Nat := none
  demand : Nat := 0
deriving DecidableEq, Repr

/-- The standby lane's condition (13 R323). -/
inductive Standby where
  | present | joining (frames : Nat) | absent
deriving DecidableEq, Repr

/-- The control engine (13). -/
structure Engine where
  /-- 32 bit, 13 R298: the frame counter. spec: R298. -/
  frame : Nat := 0
  /-- 1 bit, 13 R297: the serving lane. spec: R297. -/
  serving : Lane := .a
  /-- 2 bit, 13 R323: the standby lane. spec: R324. -/
  standby : Standby := .present
  /-- 1 bit, 13 R322: a lane takeover is in force. spec: R76. -/
  tookOver : Bool := false
  /-- 1 bit, 13 R323: an uncorrectable table error leaves one lane serving alone. spec: R76. -/
  tableErrA : Bool := false
  tableErrB : Bool := false
  /-- 1 bit, 13 R322: the serving lane presets its slots at the next schedule frame. spec: R76. -/
  presetDue : Bool := false
  /-- 13 R325: the folios in force in the engine since its latest schedule frame. spec: R141, the endpaper. -/
  fields : Store := []
  /-- 13 R297: the 48 slots of each lane. spec: R324. -/
  slotsA : List Slot := List.replicate 48 {}
  slotsB : List Slot := List.replicate 48 {}
  /-- 13 R299: the values last applied, by destination code of Table 13-8. spec: R324. -/
  applied : List (Nat × Int) := []
  /-- 13 R307: the latest readings by source code, valid until replaced. spec: R324. -/
  readings : List (Nat × Int) := []
  /-- 13 R318: sources out of range in the latest frame. spec: R324. -/
  outOfRange : List Nat := []
  /-- 14 R339: thermistor resistances in ohms, 0 for no reading. spec: R324. -/
  rt0 : Nat := 0
  rt1 : Nat := 0
  /-- 16 bit each, 13 R313: the class grants as the halters hold them (Guide, Work, Signal). spec: R371. -/
  grants : List Nat := [0, 0, 0]
  /-- 13 R300: the halter records. spec: R324. -/
  halters : List HalterRecord := List.replicate 8 {}
  /-- 16 bit each, 13 R315: the class demands (Guide, Work, Signal) and the thermal headroom of the latest frame (mA). spec:
  R371, R315. -/
  demands : List Nat := [0, 0, 0]
  headroom : Nat := 65535
  /-- 16 bit, 13 R301: rank saturations. spec: R404. -/
  saturations : Nat := 0
  /-- 16 bit, 13 R303: increments limited. spec: R404. -/
  limited : Nat := 0
  /-- 1 bit, 13 R319: LOOP_FAILED is latched. spec: R76. -/
  loopFailed : Bool := false
  /-- 32 bit signed, 13 R309: the encoder position. spec: R324, model 4. -/
  encoder : Int := 0
  /-- 16 bit, 13 R309: the ENC_ERROR count. spec: R404. -/
  encErrors : Nat := 0
deriving DecidableEq, Repr

/-- The `BRIGHT` input (13 R308). -/
structure Bright where
  /-- 1 bit, 13 R308: pulse mode. model 4. -/
  pulse : Bool := false
  /-- 13 R308: the last complete periods (length and high time in `CK_SYS` ticks), newest first. spec: R76. -/
  periods : List (Nat × Nat) := []
  /-- 13 R308: high time of the period under way, absent before its first edge. spec: R76. -/
  high : Option Nat := none
  /-- 1 bit, 13 R308: a rising edge has begun a period. spec: R76. -/
  started : Bool := false
  /-- 16 bit, 13 R308: the value held in pulse mode. model 4. -/
  value : Nat := 0
deriving DecidableEq, Repr

/-- One laser channel (14, 16). -/
structure Laser where
  /-- 12 bit, 14 R331: the level fired. spec: R24, off. -/
  level : Nat := 0
  /-- 12 bit, 14 R331: the sink code. spec: R24, off. -/
  code : Nat := 0
  /-- 2 bit, 11 R274: the port it is assigned to. spec: R330. -/
  assigned : Option Port := none
  /-- 1 bit, 11 R274: lit again only from its new port's next open frame boundary. spec: R274. -/
  waitBoundary : Bool := true
  /-- 1 bit, 16 R386: its thresholds have been loaded and read back. spec: R386. -/
  armed : Bool := false
  /-- 12 bit, 16 R384: the over-current threshold code. spec: R386. -/
  ocCode : Nat := 0
  /-- 1 bit, 14 R331: a clamp by `IMAX` occurred in the frame. spec: R76. -/
  clamped : Bool := false
  /-- 16 bit, 14 R331: codes clamped by `IMAX`. spec: R76. -/
  clamps : Nat := 0
  /-- 14 R333: the estimate of the sink voltage (mV); whether the channel was lit in the latest window; LD_HEADROOM has been
  reported in the frame. model 15: 0. -/
  sinkMv : Int := 0
  litWindow : Bool := false
  hrReported : Bool := false
  /-- 14 R337: measurements of photodiodes A and B (nW); absent while not valid. spec: R306. -/
  powerA : Option Int := none
  powerB : Option Int := none
deriving DecidableEq, Repr

/-- Lasers and photodiodes (14, 16). -/
structure Emit where
  /-- 14 R330: the four channels. -/
  lasers : List Laser := List.replicate 4 {}
  /-- 12 bit each, 14 R336: the dark samples of photodiodes A and B, newest first, at most 256. spec: R76. -/
  darkA : List Nat := []
  darkB : List Nat := []
  /-- 3 bit each, 16 R387: consecutive blind measurements. spec: R76. -/
  blindA : Nat := 0
  blindB : Nat := 0
  /-- 16 R385: the over-power thresholds in nA, without dark current. spec: R386. -/
  opA : Nat := 0
  opB : Nat := 0
  /-- 192 bytes, 12 R295, 14 R340: the cartridge calibration in force. spec: R76. -/
  cal : List Byte := []
  /-- 4 bit, 04 R84: the code of the calibration in force. spec: R76. -/
  calCode : Nat := 0
  /-- 1 bit each, 12 R289: port B has taken over, and its channels become assigned at its next latch point. spec: R76. -/
  takeover : Bool := false
  takeoverDue : Bool := false
  /-- 1 bit per port and per channel, 11 R273: the ports that fire in whole ticks because the master delay loop lost lock, and
  the channels that do because a trim is at its end. spec: R76. -/
  dllLost : List Port := []
  trimEnd : List Nat := []
  /-- 11 R273: schedule frames for which the master loop has held lock, and for which each trim has been within its range, up to 1,000.
  spec: R76. -/
  dllHeld : Nat := 0
  trimHeld : List Nat := [0, 0, 0, 0]
  /-- 5 bit each, 11 R272: the trims of the channels' delay lines. model 117: the middle of their range. -/
  trims : List Nat := [16, 16, 16, 16]
  /-- 11 R272: the direction and length of each channel's run of agreeing comparisons. spec: R76. -/
  trimRuns : List (Bool × Nat) := [(false, 0), (false, 0), (false, 0), (false, 0)]
deriving DecidableEq, Repr

/-- One lamp (14). -/
structure Lamp where
  /-- 14 R346: the forward-voltage estimate (mV). spec: R346, from the endpaper's bin. -/
  vf : Int := 2700
  /-- 4 bit each, 14 R352: consecutive counted probes that agree on open, or on short. spec: R357. -/
  openRun : Nat := 0
  shortRun : Nat := 0
  /-- 1 bit, 14 R352: a fault is latched. spec: R76. -/
  latched : Bool := false
  /-- 1 bit, 14 R353: dark because of an uncorrectable `LAMPCAL` error. spec: R76. -/
  eccDark : Bool := false
  /-- 14 bit each, 14 R348: the aimed and the displayed code. spec: R24, off. -/
  aimed : Nat := 0
  code : Nat := 0
deriving DecidableEq, Repr

/-- The lamp field (14). -/
structure LampField where
  /-- 1 bit, 14 R356: the field has started. spec: R356. -/
  running : Bool := false
  /-- 1 bit, 14 R357: held off by `KILL_N` until the first row-frame start after it. spec: R24. -/
  dark : Bool := true
  /-- 1 bit, 14 R351: a row slot of the row-frame has been cut short by a reset. spec: R76. -/
  cut : Bool := false
  /-- 7 and 6 bit, 14 R341: rows and columns in force. spec: R53, none. -/
  rows : Nat := 0
  cols : Nat := 0
  /-- 07 R156: the folios in force in the lamp engine since its latest row-frame start. spec: R141, the endpaper. -/
  fields : Store := []
  /-- 14 R341: the lamps by index. spec: R24. -/
  lamps : List Lamp := []
  /-- 14 R345: the lamp mask in force (pen number). spec: R345, none. -/
  mask : Option Nat := none
  /-- 13 and 3 bit, 15 R368: scale and plane drop held for Work, and the Signal scale. spec: R371. -/
  fWork : Nat := 0
  qWork : Nat := 0
  fSignal : Nat := 0
  /-- 4 bit each, 14 R352: consecutive probes on which a whole row read open. spec: R357. -/
  rowOpen : List (Nat × Nat) := []
  /-- 1 bit each, 14 R354: sinks turned off for the rest of the row slot. spec: R24. -/
  hot : List Nat := []
  /-- 14 R355: tracking estimates of the sinks (mV). model 15: 0. -/
  tracking : List Int := List.replicate 32 0
  /-- 1 bit each, 14 R355: sinks lit in the row-frame under way, and in the latest whole one. spec: R24, off. -/
  litNow : List Nat := []
  litLast : List Nat := []
  /-- 16 bit each: row-frames since LAMP_HEADROOM, LAMP_REPEAT count. spec: R404. -/
  sinceHeadroom : Nat := 100
  repeats : Nat := 0
  /-- 16 bit, 14 R354: SINK_HOT count. spec: R76. -/
  hotCount : Nat := 0
deriving DecidableEq, Repr

/-- The budget yard (15). Lists hold Guide, Work, Signal in that order. -/
structure Yard where
  /-- 1 bit, 15 R371: the yard has allocated. spec: R371. -/
  allocating : Bool := false
  /-- 16 bit, 15 R361: the budget B (mA). spec: R371. -/
  budget : Nat := 0
  /-- 2 bit, 15 R361: the term that set B: 0 none, 1 pack, 2 thermal, 3 cap. spec: Table 17-2. -/
  term : Nat := 0
  /-- 1 bit, 15 R364: the trigger order is in force. spec: R364. -/
  trigOrder : Bool := false
  /-- 16 bit each, 15 R365, R366: demands, targets, grants. spec: R371. -/
  demands : List Nat := [0, 0, 0]
  targets : List Nat := [0, 0, 0]
  grants : List Nat := [0, 0, 0]
  /-- 3 and 13 bit each, 15 R367: outcomes and granted fractions. spec: Table 15-1. -/
  outcomes : List Nat := [0, 0, 0]
  fractions : List Nat := [0, 0, 0]
  /-- 13 and 3 bit, 15 R368: scale and plane drop sent to the lamp field. spec: R371. -/
  fWork : Nat := 0
  qWork : Nat := 0
  fSignal : Nat := 0
  /-- 16 bit, 15 R361: the latest thermal headroom (mA). spec: R315. -/
  headroom : Nat := 65535
  /-- 1 bit each, 17 R401: a class was TRIMMED or REFUSED since the last capture. spec: R76. -/
  shortSince : List Bool := [false, false, false]
deriving DecidableEq, Repr

/-- ECC and scrubbing (16). -/
structure Integrity where
  /-- 14 bit, 16 R381: the burst the scrub walk is at, 0 to 8,575. model 4. -/
  walk : Nat := 0
  /-- 1 bit, 16 R381: the burst waits for its grant. spec: R227. -/
  burstWaits : Bool := false
  /-- 32 bit, 16 R381: yard tick at which the cycle began. spec: R76. -/
  cycleStart : Nat := 0
  /-- 1 bit, 16 R381: SCRUB_LATE has been reported for the cycle. spec: R76. -/
  lateReported : Bool := false
  /-- 16 R380: the write-back queue, and the addresses corrected in this cycle. spec: R76. -/
  writeBack : List Nat := []
  corrected : List Nat := []
  /-- 16 bit each, 17 Table 17-4 page 6. spec: R404. -/
  correctedWords : Nat := 0
  dropped : Nat := 0
deriving DecidableEq, Repr

/-- The laser safety path (16). The trip latch is powered from the always-on rail and survives a core reset (R390). -/
structure Safety where
  /-- 6 bit, 16 R383: the causes latched. model 4. -/
  causes : List TripCause := []
  /-- 1 bit, 16 R390: only a loss of `VIN` clears the latch. spec: R390. -/
  relock : Bool := false
  /-- 14 bit, 16 R390: yard ticks since the latest kill release, up to 10,000. spec: R390, none yet. -/
  sinceRelease : Option Nat := none
  /-- 3 bit, 16 R386: consecutive checks of the safety reference above 2 %. spec: R76. -/
  refRun : Nat := 0
  /-- 1 bit, 16 R390: a comparator has tripped since `KILL_N` fell. spec: R390. -/
  tripInKill : Bool := false
  /-- 8 bit, 03 R50: consecutive passes of `CODE_SAFE` that differ. spec: R76. -/
  safeDiffer : Nat := 0
deriving DecidableEq, Repr

/-- An entry of the event queue (17 R402). -/
structure EventEntry where
  code : Nat
  aux : Nat
  subject : Nat
  /-- Bits [31:8] of a longer value, which travel in an extension entry. -/
  ext : Option Nat := none
  /-- Its number. -/
  number : Nat := 0
deriving DecidableEq, Repr

/-- The record fields that a reset of `CK_SYS` changes (17 R405): `SHOWN`, `PENDING`, `GATHER`, its reason, the emitting ports
and the LOCK_BROKEN count. -/
structure ResetFields where
  shown : Nat := 255
  pending : Nat := 255
  gather : Nat := 0
  reason : Nat := 0
  emits : Nat := 0
  lockBroken : Nat := 0
deriving DecidableEq, Repr

/-- The beacon (17). -/
structure Beacon where
  /-- 32 entries, 17 R402: the event queue, oldest first. spec: R402. -/
  queue : List EventEntry := []
  /-- 16 bit, 17 R402: the next event number. spec: R402. -/
  nextEvent : Nat := 0
  /-- 16 bit, 17 R400: the next record's `SEQ`. spec: R400. -/
  seq : Nat := 0
  /-- 4 bit, 17 R404: the page of the record before. model 4. -/
  lastPage : Option Nat := none
  /-- 64 bytes, 17 R398: the record being sent. spec: R405, the line idles. -/
  sending : Option (List Byte) := none
  /-- 64 bytes, 17 R398: the last record sent whole. spec: R405. -/
  lastRecord : List Byte := []
  /-- 1 bit, 17 R399: a deferred trigger, and whether it was a frame's. spec: R399. -/
  deferred : Option Bool := none
  /-- 4 and 7 bit, 17 R399: frame boundaries, and yard ticks, since the last trigger. spec: R399. -/
  sinceFrame : Nat := 0
  sinceTimer : Nat := 0
  /-- 1 bit, 17 R399: the latest yard tick triggers a record. spec: R405. -/
  timerDue : Bool := false
  /-- 48 bit, 17 R405: the values at the start of the latest reset of `CK_SYS` of the fields that it changes. spec: R405. -/
  frozen : Option ResetFields := none
  /-- 1 bit, 17 R397: a `FAULT_N` pulse runs. spec: Table 2-3, high. -/
  pulse : Bool := false
  /-- 1 bit each, 03 R49: `FAULT_N` latches of CODE_CHANGED. spec: R76. -/
  codeLatch : Bool := false
  /-- 16 bit each, 17 Table 17-4 page 9. spec: R404. -/
  stitchIgnored : Nat := 0
  pstbIgnored : Nat := 0
  patternEmpty : Nat := 0
  codeDiffer : Nat := 0
  scheme3Bad : Nat := 0
deriving DecidableEq, Repr

/-- The test port's instruction. -/
inductive JtagInstr where
  | bypass | idcode | sample | extest
deriving DecidableEq, Repr

/-- The test port (00 R8, 18 R421). -/
structure Jtag where
  /-- 00 R8: the instruction in force. model 6. -/
  instr : JtagInstr := .idcode
  /-- 1 bit, 00 R8: the bypass register. model 6. -/
  bypass : Bool := false
  /-- 32 bit, 18 R421: the identification register. spec: R421. -/
  shift : BitVec 32 := 0x24032001#32
  /-- 02 R23: cells captured and cells preloaded, by ball number in the order of Table 2-3. model 6. -/
  captured : List (Nat × Bool) := []
  preloaded : List (Nat × Bool) := []
deriving DecidableEq, Repr

/-- The state of the TH4032 and the queue of its commands. -/
structure State where
  fuses : Fuses := {}
  supply : Supply := {}
  pins : Pins := {}
  aon : Aon := {}
  pack : Pack := {}
  safety : Safety := {}
  jtag : Jtag := {}
  core : Core := {}
  cart : Cart := {}
  keeper : Keeper := {}
  clocks : Clocks := {}
  mem : MemPort := {}
  binding : Binding := {}
  gather : Gather := {}
  codec : Codec := {}
  pens : Pens := {}
  matrix : Matrix := {}
  select : Select := {}
  canvas : Canvas := {}
  portA : PortState := {}
  portB : PortState := {}
  engine : Engine := {}
  bright : Bright := {}
  emit : Emit := {}
  lamp : LampField := {}
  yard : Yard := {}
  integrity : Integrity := {}
  beacon : Beacon := {}
  /-- The model's own counter of free values. model 5: DESIGN CHOICE 0; no statement rests on it. -/
  free : Nat := 0
  /-- The commands that wait, first in, first out. -/
  pending : List Instr := []
deriving DecidableEq, Repr

/-- The part without power: `VIN` is not valid, every register holds its reset value and no command waits. -/
def State.reset : State := {}

end Sys2Proof.Machine
end

