-- ==== Sys2Proof/Machine/Fields.lean ====
section
/-! DEFINITION. The fields of the folios (R147): place, range, endpaper value and class, as the folio tables of the owning
chapters give them, and the reading of a field in a configuration. -/

namespace Sys2Proof.Machine

open Sys2Proof

/-- The class of a folio field (07 R154): I swaps in, S is ramped, B needs a start-up. -/
inductive FieldClass where
  | i | s | b
deriving DecidableEq, Repr

/-- One field of a folio. -/
structure Field where
  folio : Nat
  /-- Byte offset in the folio, and the field's first bit there. -/
  off : Nat
  shift : Nat
  bits : Nat
  signed : Bool
  /-- The intervals that its range allows. -/
  ranges : List (Int × Int)
  /-- The endpaper value. -/
  dflt : Int
  cls : FieldClass
deriving DecidableEq, Repr

/-- A field of bits bits at a byte offset, with one range and perhaps further values. -/
def fld (folio off bits : Nat) (lo hi dflt : Int) (cls : FieldClass := .i) (signed : Bool := false)
    (also : List (Int × Int) := []) (shift : Nat := 0) : Field :=
  { folio, off, shift, bits, signed, ranges := (lo, hi) :: also, dflt, cls }

/-- A number of the given width read as two's complement. -/
def asSigned (bits n : Nat) : Int := if n < 2 ^ (bits - 1) then n else (n : Int) - 2 ^ bits

/-- A field's value in a folio's bytes (R2). -/
def Field.read (f : Field) (img : List Byte) : Int :=
  let n := (rd img f.off ((f.shift + f.bits + 7) / 8) >>> f.shift) % 2 ^ f.bits
  if f.signed then asSigned f.bits n else n

def Field.inRange (f : Field) (v : Int) : Bool := f.ranges.any fun r => r.1 ≤ v && v ≤ r.2

/-- The bytes of a folio, absent when the signature has none (R132). -/
def folioBytes (st : Store) (id : Nat) : Option (List Byte) := (st.find? (·.1 == id)).map (·.2)

/-- A field's value in a configuration: the endpaper value when the folio is absent (R132). -/
def fval (st : Store) (f : Field) : Int :=
  match folioBytes st f.folio with
  | some img => f.read img
  | none => f.dflt

/-- A field's value as a natural number. -/
def fnat (st : Store) (f : Field) : Nat := (fval st f).toNat

/-- A one-bit field. -/
def fbit (st : Store) (f : Field) : Bool := fval st f == 1

/-- The folio of a port: the second of a pair belongs to port B. -/
def portFolio (id : Nat) : Port → Nat
  | .a => id
  | .b => id + 1

/-! Folio `IDENT`. -/

def identCustomer : Field := fld 1 0 16 0 65535 0 (cls := .b)
def identVariant : Field := fld 1 2 16 0 65535 0
def identFields : List Field :=
    [identCustomer, identVariant]

/-! Folio `CLOCK`. -/

def clockTolPpm : Field := fld 2 0 16 50 500 150
def clockTrendPpm : Field := fld 2 2 16 5 500 20
def clockRefinKhz : Field := fld 2 4 16 10000 52000 0 (cls := .b) (also := [(0, 0)])
def clockSpread : Field := fld 2 6 2 0 3 3
def clockSpreadKhz : Field := fld 2 7 8 20 60 32
def clockSwitch : Field := fld 2 8 2 0 3 3
def clockFields : List Field :=
    [clockTolPpm, clockTrendPpm, clockRefinKhz, clockSpread, clockSpreadKhz, clockSwitch]

/-! Folio `GATHER`. -/

def gatherTimeout : Field := fld 3 0 16 100 60000 2000
def gatherBridgeMax : Field := fld 3 2 16 10 200 40
def gatherDecodeLimit : Field := fld 3 4 16 20 2000 300
def gatherBridgeMask : Field := fld 3 6 16 0 4095 65535 (also := [(65535, 65535)])
def gatherNoDark : Field := fld 3 8 1 0 1 0
def gatherFields : List Field :=
    [gatherTimeout, gatherBridgeMax, gatherDecodeLimit, gatherBridgeMask, gatherNoDark]

/-! Folio `CODEC`. -/

def codecWrBurst : Field := fld 4 0 8 1 16 16
def codecRdBurst : Field := fld 4 1 8 1 16 8
def codecQueueDepth : Field := fld 4 2 8 1 8 8
def codecFormats : Field := fld 4 3 3 0 7 7 (cls := .b)
def codecFields : List Field :=
    [codecWrBurst, codecRdBurst, codecQueueDepth, codecFormats]

/-! Folio `MATRIX`. -/

def matrixScanWater : Field := fld 5 0 16 64 448 128
def matrixScanCalm : Field := fld 5 2 16 80 512 256
def matrixScrubDefer : Field := fld 5 4 16 1000 65535 20000
def matrixLampWater : Field := fld 5 6 8 8 64 16
def matrixCanvasWater : Field := fld 5 7 8 8 31 24
def matrixLockMax : Field := fld 5 8 8 16 64 32
def matrixFields : List Field :=
    [matrixScanWater, matrixScanCalm, matrixScrubDefer, matrixLampWater, matrixCanvasWater, matrixLockMax]

/-! Folio `PENS`. -/

def pensPreload : Field := fld 6 0 64 0 18446744073709551615 0
def pensHeadroom : Field := fld 6 8 8 0 64 8
def pensEvict : Field := fld 6 9 1 0 1 1
def pensFields : List Field :=
    [pensPreload, pensHeadroom, pensEvict]

/-! Folio `LAYER`. -/

def layerLatch : Field := fld 9 0 16 12288 28672 16384
def layerCombine : Field := fld 9 2 1 0 1 0
def layerUnderrun : Field := fld 9 3 1 0 1 0
def layerGainG (n : Nat) : Field := fld 9 (4 + 2 * n) 16 0 4096 4096
def layerGainL (n : Nat) : Field := fld 9 (12 + 2 * n) 16 0 4096 4096
def layerGainS (n : Nat) : Field := fld 9 (20 + 2 * n) 16 0 4096 4096
def layerFields : List Field :=
    [layerLatch, layerCombine, layerUnderrun] ++
    (List.range 4).map layerGainG ++
    (List.range 4).map layerGainL ++
    (List.range 4).map layerGainS

/-! Folio `CANVAS`. -/

def canvasEnable : Field := fld 10 0 1 0 1 0
def canvasFormat : Field := fld 10 1 8 1 3 1
def canvasWidth : Field := fld 10 2 16 1 1280 1
def canvasHeight : Field := fld 10 4 16 1 720 1
def canvasX : Field := fld 10 6 16 0 1279 0
def canvasY : Field := fld 10 8 16 0 719 0
def canvasTimeout : Field := fld 10 10 16 100 50000 20000
def canvasAccept : Field := fld 10 12 2 0 3 3
def canvasFields : List Field :=
    [canvasEnable, canvasFormat, canvasWidth, canvasHeight, canvasX, canvasY, canvasTimeout, canvasAccept]

/-! Folio `WHEEL`. -/

def wheelLateLimit : Field := fld 11 0 16 0 65535 16
def wheelLateDark : Field := fld 11 2 1 0 1 0
def wheelSubtick : Field := fld 11 3 4 0 15 15
def wheelSkew (n : Nat) : Field := fld 11 (4 + 1 * n) 8 (-64) 63 0 (signed := true)
def wheelFields : List Field :=
    [wheelLateLimit, wheelLateDark, wheelSubtick] ++
    (List.range 4).map wheelSkew

/-! Folio `EMIT`. -/

def emitPort (n : Nat) : Field := fld 16 (0 + 1 * n) 8 0 2 0
def emitTarget (n : Nat) : Field := fld 16 (4 + 4 * n) 32 0 20000000 0
def emitPdRange : Field := fld 16 20 4 0 15 5
def emitPdSettle : Field := fld 16 21 8 5 100 20
def emitPdMinLevel : Field := fld 16 22 16 1 4095 512
def emitPdWindow : Field := fld 16 24 16 1 1000 16
def emitMonEn : Field := fld 16 26 4 0 15 15
def emitPdAge : Field := fld 16 27 8 1 255 40
def emitMonLevel : Field := fld 16 28 16 1 4095 1024
def emitMonStalls : Field := fld 16 30 16 8 512 64
def emitHrMin : Field := fld 16 32 16 1200 5000 1300
def emitFields : List Field :=
    [emitPdRange, emitPdSettle, emitPdMinLevel, emitPdWindow, emitMonEn, emitPdAge, emitMonLevel, emitMonStalls, 
     emitHrMin] ++
    (List.range 4).map emitPort ++
    (List.range 4).map emitTarget

/-! Folio `LAMP`. -/

def lampRows : Field := fld 17 0 8 1 64 16 (cls := .b)
def lampCols : Field := fld 17 1 8 1 32 32 (cls := .b)
def lampFrameHz : Field := fld 17 2 16 240 1920 480
def lampPlanes : Field := fld 17 4 8 8 14 8
def lampUnit : Field := fld 17 5 8 0 255 0
def lampBlank : Field := fld 17 6 8 24 255 48
def lampSettle : Field := fld 17 7 8 8 255 24
def lampISink : Field := fld 17 8 12 0 4095 2048
def lampWorkLevel : Field := fld 17 10 16 0 4096 1024
def lampSignalLevel : Field := fld 17 12 16 0 4096 4096
def lampBrightWork : Field := fld 17 14 1 0 1 0
def lampPairing : Field := fld 17 15 1 0 1 0
def lampCct : Field := fld 17 16 16 2700 6500 4000
def lampCctSrc : Field := fld 17 18 8 0 4 0
def lampFaultProbes : Field := fld 17 19 8 2 15 3
def lampSignalRows : Field := fld 17 20 64 0 18446744073709551615 0
def lampOpenMv : Field := fld 17 28 16 50 1000 150
def lampShortMv : Field := fld 17 30 16 100 2000 800
def lampFill : Field := fld 17 32 16 0 4096 1024
def lampBudgetGain : Field := fld 17 34 16 1 65535 4096
def lampHrMin : Field := fld 17 36 16 350 5000 400
def lampFields : List Field :=
    [lampRows, lampCols, lampFrameHz, lampPlanes, lampUnit, lampBlank, lampSettle, lampISink, lampWorkLevel, 
     lampSignalLevel, lampBrightWork, lampPairing, lampCct, lampCctSrc, lampFaultProbes, lampSignalRows, 
     lampOpenMv, lampShortMv, lampFill, lampBudgetGain, lampHrMin]

/-! Folio `LAMPCAL`. -/

def lampcalFluxTc (n : Nat) : Field := fld 18 (0 + 2 * n) 16 (-10000) 0 0 (signed := true)
def lampcalTcv (n : Nat) : Field := fld 18 (4 + 2 * n) 16 (-5000) (-500) (-2000) (signed := true)
def lampcalVfBase : Field := fld 18 8 16 1500 4000 2600
def lampcalVfStep : Field := fld 18 10 8 1 20 5
def lampcalKtMax : Field := fld 18 12 16 4096 8191 6144
def lampcalCctW (n : Nat) : Field := fld 18 (256 + 2 * n) 16 1500 10000 2700
def lampcalCctC (n : Nat) : Field := fld 18 (512 + 2 * n) 16 1500 10000 6500
def lampcalGain (n : Nat) : Field := fld 18 (1024 + 4 * n) 16 0 65535 32768
def lampcalChroma (n : Nat) : Field := fld 18 (1026 + 4 * n) 8 0 255 0
def lampcalVf (n : Nat) : Field := fld 18 (1027 + 4 * n) 8 0 255 20
def lampcalFields (lamps : Nat) : List Field :=
    [lampcalVfBase, lampcalVfStep, lampcalKtMax] ++
    (List.range 2).map lampcalFluxTc ++
    (List.range 2).map lampcalTcv ++
    (List.range 128).map lampcalCctW ++
    (List.range 128).map lampcalCctC ++
    (List.range lamps).map lampcalGain ++
    (List.range lamps).map lampcalChroma ++
    (List.range lamps).map lampcalVf

/-! Folio `BUDGET`. -/

def budgetCap : Field := fld 19 0 16 0 4000 300
def budgetGuideCap : Field := fld 19 2 16 0 4000 200
def budgetWorkFloor : Field := fld 19 4 16 0 4096 1024
def budgetWorkDepthAt : Field := fld 19 6 16 1 4096 2048
def budgetSlew : Field := fld 19 8 16 1 4000 250
def budgetIdleOrder : Field := fld 19 10 6 0 63 57
def budgetTrigOrder : Field := fld 19 11 6 0 63 57
def budgetFields : List Field :=
    [budgetCap, budgetGuideCap, budgetWorkFloor, budgetWorkDepthAt, budgetSlew, budgetIdleOrder, budgetTrigOrder]

/-! Folio `INTEGRITY`. -/

def integrityCrcCount : Field := fld 20 0 8 1 15 2
def integrityCrcAction : Field := fld 20 1 8 0 2 1
def integrityLiveStale : Field := fld 20 2 16 10 10000 0 (also := [(0, 0)])
def integrityLiveAction : Field := fld 20 4 1 0 1 0
def integrityCompStale : Field := fld 20 5 8 4 255 16
def integritySenseStale : Field := fld 20 6 16 16 4096 256
def integrityScrubPeriod : Field := fld 20 8 16 10 1000 50
def integrityScrubCycleMax : Field := fld 20 10 16 100 10000 2000
def integrityFields : List Field :=
    [integrityCrcCount, integrityCrcAction, integrityLiveStale, integrityLiveAction, integrityCompStale, 
     integritySenseStale, integrityScrubPeriod, integrityScrubCycleMax]

/-! Folio `SAFETY`. -/

def safetyOcLimit : Field := fld 21 0 16 256 384 282 (cls := .b)
def safetyOpLimit : Field := fld 21 2 16 192 256 256 (cls := .b)
def safetyOpFilter : Field := fld 21 4 2 0 3 1 (cls := .b)
def safetyBlindPct : Field := fld 21 5 8 10 90 25 (cls := .b)
def safetyRelease : Field := fld 21 6 1 0 1 0 (cls := .b)
def safetyReleaseMs : Field := fld 21 7 8 10 255 50 (cls := .b)
def safetyFields : List Field :=
    [safetyOcLimit, safetyOpLimit, safetyOpFilter, safetyBlindPct, safetyRelease, safetyReleaseMs]

/-! Folio `BEACON`. -/

def beaconPages : Field := fld 22 0 10 0 1023 1023
def beaconTimerMs : Field := fld 22 2 8 5 100 10
def beaconFrameDiv : Field := fld 22 3 8 1 8 1
def beaconFields : List Field :=
    [beaconPages, beaconTimerMs, beaconFrameDiv]

/-! Folio `PACK`. -/

def packPresentMv : Field := fld 23 0 16 3000 40000 6000
def packLimitAbsent : Field := fld 23 2 16 0 4000 400
def packLimitUnknown : Field := fld 23 4 16 0 4000 250
def packLimitFault : Field := fld 23 6 16 0 4000 0
def packS1Limit (n : Nat) : Field := fld 23 (8 + 2 * n) 16 0 4000 (nth [200, 300, 400, 500, 600, 700, 800, 900, 1000, 1200, 1400, 1600] n)
def packS2Limit (n : Nat) : Field := fld 23 (32 + 2 * n) 16 0 4000 (nth [200, 300, 400, 500, 600, 700, 800, 900, 1000, 1200, 1400, 1600] n)
def packNtcNominal : Field := fld 23 56 16 100 10000 1000
def packNtcB : Field := fld 23 58 16 2000 5000 3435
def packTCold : Field := fld 23 60 8 (-40) 20 (-20) (signed := true)
def packTDerate : Field := fld 23 61 8 0 100 45 (signed := true)
def packTStop : Field := fld 23 62 8 1 110 60 (signed := true)
def packColdPercent : Field := fld 23 63 8 0 100 50
def packVLowMv : Field := fld 23 64 16 3000 48000 16500
def packVCutMv : Field := fld 23 66 16 0 47000 14000
def packVFilter : Field := fld 23 68 8 1 64 16
def packS3Wait : Field := fld 23 69 8 60 255 120
def packS3Timeout : Field := fld 23 70 8 60 255 160
def packSchemes : Field := fld 23 71 3 0 7 7 (cls := .b)
def packFields : List Field :=
    [packPresentMv, packLimitAbsent, packLimitUnknown, packLimitFault, packNtcNominal, packNtcB, packTCold, 
     packTDerate, packTStop, packColdPercent, packVLowMv, packVCutMv, packVFilter, packS3Wait, packS3Timeout, 
     packSchemes] ++
    (List.range 12).map packS1Limit ++
    (List.range 12).map packS2Limit

/-! Folio `HOTPLUG`. -/

def hotplugRetry : Field := fld 25 0 16 50 10000 500
def hotplugChatterWindow : Field := fld 25 2 16 1000 60000 10000
def hotplugChatterCount : Field := fld 25 4 8 1 15 4
def hotplugQualTries : Field := fld 25 5 8 1 15 3
def hotplugPackRetry : Field := fld 25 6 16 50 10000 200
def hotplugPackChatterWindow : Field := fld 25 8 16 1000 60000 10000
def hotplugPackChatterCount : Field := fld 25 10 8 1 15 4
def hotplugThermAgree : Field := fld 25 11 8 1 30 5
def hotplugThermMin : Field := fld 25 12 8 (-40) 0 (-30) (signed := true)
def hotplugThermMax : Field := fld 25 13 8 40 125 90 (signed := true)
def hotplugPdAgree : Field := fld 25 14 8 2 50 10
def hotplugPdDarkMax : Field := fld 25 15 8 1 255 20
def hotplugProbeLevel : Field := fld 25 16 12 1 4095 64
def hotplugFields : List Field :=
    [hotplugRetry, hotplugChatterWindow, hotplugChatterCount, hotplugQualTries, hotplugPackRetry, hotplugPackChatterWindow, 
     hotplugPackChatterCount, hotplugThermAgree, hotplugThermMin, hotplugThermMax, hotplugPdAgree, hotplugPdDarkMax, 
     hotplugProbeLevel]

/-! Folio `MEMPORT`. -/

def memportHoldMax : Field := fld 26 0 16 1 10000 100
def memportBusyMax : Field := fld 26 2 16 1 10000 500
def memportCsHigh : Field := fld 26 4 8 2 31 4
def memportReadChunk : Field := fld 26 5 8 1 64 16
def memportDqsTrim : Field := fld 26 6 4 0 15 4
def memportDqsTimeout : Field := fld 26 7 8 8 64 32
def memportRetry : Field := fld 26 8 8 0 3 1
def memportFields : List Field :=
    [memportHoldMax, memportBusyMax, memportCsHigh, memportReadChunk, memportDqsTrim, memportDqsTimeout, 
     memportRetry]

/-! Folios `RASTER_A` and `RASTER_B`. -/

def rasterHsync (p : Port) : Field := fld (portFolio 7 p) 0 16 16 1024 64
def rasterHbp (p : Port) : Field := fld (portFolio 7 p) 2 16 0 1536 448
def rasterHact (p : Port) : Field := fld (portFolio 7 p) 4 16 512 4064 3072
def rasterHfp (p : Port) : Field := fld (portFolio 7 p) 6 16 16 1792 512
def rasterHpix (p : Port) : Field := fld (portFolio 7 p) 8 16 1 1280 1280
def rasterVsync (p : Port) : Field := fld (portFolio 7 p) 10 16 1 255 30 (cls := .s)
def rasterVbp (p : Port) : Field := fld (portFolio 7 p) 12 16 0 255 40 (cls := .s)
def rasterVact (p : Port) : Field := fld (portFolio 7 p) 14 16 1 720 720 (cls := .s)
def rasterVfp (p : Port) : Field := fld (portFolio 7 p) 16 16 0 255 10 (cls := .s)
def rasterLin (p : Port) : Field := fld (portFolio 7 p) 18 1 0 1 0
def rasterRevShift (p : Port) : Field := fld (portFolio 7 p) 19 8 (-128) 127 0 (signed := true)
def rasterFields (p : Port) : List Field :=
    [rasterHsync p, rasterHbp p, rasterHact p, rasterHfp p, rasterHpix p, rasterVsync p, rasterVbp p, 
     rasterVact p, rasterVfp p, rasterLin p, rasterRevShift p]

/-! Folios `MIRROR_A` and `MIRROR_B`. -/

def mirrorAmp (p : Port) : Field := fld (portFolio 12 p) 0 16 100 1500 800 (cls := .s)
def mirrorAmpSlew (p : Port) : Field := fld (portFolio 12 p) 2 16 5 1000 50
def mirrorSlowAmp (p : Port) : Field := fld (portFolio 12 p) 4 16 100 1500 500 (cls := .s)
def mirrorSlowSlew (p : Port) : Field := fld (portFolio 12 p) 6 16 5 1000 100
def mirrorDrivePhase (p : Port) : Field := fld (portFolio 12 p) 8 16 (-2048) 2047 0 (cls := .s) (signed := true)
def mirrorStartDrive (p : Port) : Field := fld (portFolio 12 p) 10 12 1 4095 1024
def mirrorSearchStep (p : Port) : Field := fld (portFolio 12 p) 12 16 100 20000 2000
def mirrorLockPeriods (p : Port) : Field := fld (portFolio 12 p) 14 16 64 1024 256
def mirrorFaultWindow (p : Port) : Field := fld (portFolio 12 p) 16 16 1000 60000 10000
def mirrorRestartMs (p : Port) : Field := fld (portFolio 12 p) 18 16 10 5000 100
def mirrorAmpTol (p : Port) : Field := fld (portFolio 12 p) 20 8 5 100 10
def mirrorSlowTol (p : Port) : Field := fld (portFolio 12 p) 21 8 5 100 20
def mirrorKickMs (p : Port) : Field := fld (portFolio 12 p) 22 8 1 20 4
def mirrorSearchTries (p : Port) : Field := fld (portFolio 12 p) 23 8 1 15 8
def mirrorRingMin (p : Port) : Field := fld (portFolio 12 p) 24 8 1 50 5
def mirrorStallPct (p : Port) : Field := fld (portFolio 12 p) 25 8 10 90 50
def mirrorOverPct (p : Port) : Field := fld (portFolio 12 p) 26 8 105 150 115
def mirrorSlowFault (p : Port) : Field := fld (portFolio 12 p) 27 8 1 50 10
def mirrorFaultTries (p : Port) : Field := fld (portFolio 12 p) 28 8 1 15 3
def mirrorRole (p : Port) : Field := fld (portFolio 12 p) 29 1 0 1 0
def mirrorPllBw (p : Port) : Field := fld (portFolio 12 p) 30 2 0 3 1
def mirrorSenseGain (p : Port) : Field := fld (portFolio 12 p) 31 2 0 3 1 (cls := .b)
def mirrorFields (p : Port) : List Field :=
    [mirrorAmp p, mirrorAmpSlew p, mirrorSlowAmp p, mirrorSlowSlew p, mirrorDrivePhase p, mirrorStartDrive p, 
     mirrorSearchStep p, mirrorLockPeriods p, mirrorFaultWindow p, mirrorRestartMs p, mirrorAmpTol p, 
     mirrorSlowTol p, mirrorKickMs p, mirrorSearchTries p, mirrorRingMin p, mirrorStallPct p, mirrorOverPct p, 
     mirrorSlowFault p, mirrorFaultTries p, mirrorRole p, mirrorPllBw p, mirrorSenseGain p]
/-! Folio `PATTERN` (Tables 10-9 and 10-10). `part` is 0 for X, 1 for Y, 2 for W and 3 for H. -/

def patternRect (p : Port) (r part : Nat) : Field :=
  fld 24 ((match p with | .a => 0 | .b => 256) + 8 * r + 2 * part) 16 0 65535 0
def patternEntry (n off bits : Nat) (lo hi dflt : Int) (also : List (Int × Int) := []) (shift : Nat := 0) : Field :=
  fld 24 (512 + 100 * n + off) bits lo hi dflt (also := also) (shift := shift)
def patternGuide (p : Port) (n : Nat) : Field :=
  patternEntry n (match p with | .a => 0 | .b => 2) 16 0 4095 65535 [(65535, 65535)]
def patternSignal (n : Nat) : Field := patternEntry n 4 16 0 4095 65535 [(65535, 65535)]
def patternMask (n : Nat) : Field := patternEntry n 6 16 0 4095 65535 [(65535, 65535)]
def patternUsed (n : Nat) : Field := patternEntry n 8 1 0 1 0
def patternSignalOn (p : Port) (n : Nat) : Field :=
  patternEntry n 8 1 0 1 0 (shift := match p with | .a => 1 | .b => 2)
def patternGuideX (n : Nat) : Field := patternEntry n 12 16 0 1279 0
def patternGuideY (n : Nat) : Field := patternEntry n 14 16 0 719 0
def patternSigX (n : Nat) : Field := patternEntry n 16 16 0 1279 0
def patternSigY (n : Nat) : Field := patternEntry n 18 16 0 719 0
def patternRsel (p : Port) (n k : Nat) : Field :=
  patternEntry n ((match p with | .a => 20 | .b => 28) + k) 8 0 31 255 [(255, 255)]
def patternCrc (p : Port) (n k : Nat) : Field :=
  patternEntry n ((match p with | .a => 36 | .b => 68) + 4 * k) 32 0 4294967295 0

/-- The fields of entry n. -/
def patternEntryFields (n : Nat) : List Field :=
  [patternGuide .a n, patternGuide .b n, patternSignal n, patternMask n, patternUsed n, patternSignalOn .a n,
    patternSignalOn .b n, patternGuideX n, patternGuideY n, patternSigX n, patternSigY n] ++
    (List.range 8).map (patternRsel .a n) ++ (List.range 8).map (patternRsel .b n) ++
    (List.range 8).map (patternCrc .a n) ++ (List.range 8).map (patternCrc .b n)

def patternRectFields : List Field :=
  (List.range 32).flatMap fun r => (List.range 4).flatMap fun k => [patternRect .a r k, patternRect .b r k]

/-! Folio `LOOP` (Tables 13-6 and 13-7). -/

def loopLaneTol : Field := fld 14 0 16 0 1023 0
def loopBrightMode : Field := fld 14 2 8 0 2 0
def loopEncCfg : Field := fld 14 3 2 0 3 0
def loopSpTau : Field := fld 14 4 16 0 10000 0
def loopEncZValue : Field := fld 14 8 32 (-2147483648) 2147483647 0 (signed := true)
def loopFields : List Field := [loopLaneTol, loopBrightMode, loopEncCfg, loopSpTau, loopEncZValue]

def slotFld (s off bits : Nat) (lo hi dflt : Int) (cls : FieldClass := .i) (signed : Bool := false)
    (also : List (Int × Int) := []) (shift : Nat := 0) : Field :=
  fld 14 (16 + 64 * s + off) bits lo hi dflt cls signed also shift
def slotEn (s : Nat) : Field := slotFld s 0 1 0 1 0
def slotWrap (s : Nat) : Field := slotFld s 0 1 0 1 0 (shift := 1)
def slotManual (s : Nat) : Field := slotFld s 0 1 0 1 0 (shift := 2)
def slotHr (s : Nat) : Field := slotFld s 0 1 0 1 0 (shift := 3)
def slotDir (s : Nat) : Field := slotFld s 0 1 0 1 0 (shift := 4)
def slotRate (s : Nat) : Field := slotFld s 1 8 0 10 0
def slotPhase (s : Nat) : Field := slotFld s 2 16 0 1023 0
/-- Table 13-8. -/
def slotDest (s : Nat) : Field := slotFld s 4 8 0 4 0 (also := [(8, 10), (12, 14), (16, 17)])
/-- The codes of Table 13-2. -/
def measCodes : List (Int × Int) :=
  [(1, 8), (16, 18), (24, 26), (28, 30), (32, 33), (40, 49), (56, 56)]
def slotMeas (s : Nat) : Field := slotFld s 5 8 0 0 0 (also := measCodes)
def slotAlt (s : Nat) : Field := slotFld s 6 8 0 0 255 (also := measCodes ++ [(255, 255)])
/-- The codes of Table 13-3. -/
def slotSpSrc (s : Nat) : Field := slotFld s 7 8 0 10 0
def slotSp (s : Nat) : Field := slotFld s 8 32 (-2147483648) 2147483647 0 (cls := .s) (signed := true)
def slotMantissa (s off : Nat) : Field := slotFld s off 16 (-32768) 32767 0 (signed := true)
def slotExponent (s off : Nat) : Field := slotFld s off 8 (-48) 15 0 (signed := true)
def slotSpGainM (s : Nat) : Field := slotMantissa s 12
def slotSpGainE (s : Nat) : Field := slotExponent s 14
def slotIExp (s : Nat) : Field := slotExponent s 15
def slotKpM (s : Nat) : Field := slotMantissa s 16
def slotKiM (s : Nat) : Field := slotMantissa s 18
def slotKaM (s : Nat) : Field := slotMantissa s 20
def slotMaM (s : Nat) : Field := slotMantissa s 22
def slotMbM (s : Nat) : Field := slotMantissa s 24
def slotKpE (s : Nat) : Field := slotExponent s 26
def slotKiE (s : Nat) : Field := slotExponent s 27
def slotKaE (s : Nat) : Field := slotExponent s 28
def slotMaE (s : Nat) : Field := slotExponent s 29
def slotMbE (s : Nat) : Field := slotExponent s 30
def slotVffSrc (s : Nat) : Field := slotFld s 31 8 0 0 0 (also := [(45, 48)])
def slotMc (s : Nat) : Field := slotFld s 32 32 (-2147483648) 2147483647 0 (signed := true)
/-- `U_MIN`, `U_MAX` and `SAFE_OUT` as stored; `slotOut` reads them in the destination's format. -/
def slotUMin (s : Nat) : Field := slotFld s 36 16 0 65535 0
def slotUMax (s : Nat) : Field := slotFld s 38 16 0 65535 0
def slotSafeOut (s : Nat) : Field := slotFld s 40 16 0 65535 0
def slotRamp (s : Nat) : Field := slotFld s 42 16 0 65535 0
def slotResTol (s : Nat) : Field := slotFld s 44 16 1 65535 65535
def slotResCount (s : Nat) : Field := slotFld s 46 8 0 64 0
def slotManSrc (s : Nat) : Field := slotFld s 47 8 0 5 0
def slotVNom (s : Nat) : Field := slotFld s 48 16 1000 48000 3600
def slotManSlew (s : Nat) : Field := slotFld s 50 16 1 65535 1000
def slotConvTol (s : Nat) : Field := slotFld s 52 16 0 65535 0
def slotHrGain (s : Nat) : Field := slotFld s 54 16 0 65535 0

/-- The fields of slot record s. -/
def slotFields (s : Nat) : List Field :=
  [slotEn s, slotWrap s, slotManual s, slotHr s, slotDir s, slotRate s, slotPhase s, slotDest s, slotMeas s, slotAlt s,
    slotSpSrc s, slotSp s, slotSpGainM s, slotSpGainE s, slotIExp s, slotKpM s, slotKiM s, slotKaM s, slotMaM s,
    slotMbM s, slotKpE s, slotKiE s, slotKaE s, slotMaE s, slotMbE s, slotVffSrc s, slotMc s, slotUMin s, slotUMax s,
    slotSafeOut s, slotRamp s, slotResTol s, slotResCount s, slotManSrc s, slotVNom s, slotManSlew s, slotConvTol s,
    slotHrGain s]

/-- The range of a destination (Table 13-8). -/
def destRange (d : Int) : Int × Int :=
  if 1 ≤ d && d ≤ 4 then (0, 65535)
  else if d == 8 || d == 12 then (0, 4095)
  else if d == 10 || d == 14 then (-2047, 2047)
  else if d == 16 || d == 17 then (-4096, 4095)
  else (-32768, 32767)

/-- An output field in the number format of the slot's destination (R328). -/
def slotOut (st : Store) (s : Nat) (f : Nat → Field) : Int :=
  if (destRange (fval st (slotDest s))).1 == 0 then fval st (f s) else asSigned 16 (fnat st (f s))

/-! Folio `HALTER` (Table 13-9). -/

def halterMember (h m : Nat) : Field := fld 15 (16 * h + m) 8 0 47 255 (also := [(255, 255)])
def halterCapClass (h : Nat) : Field := fld 15 (16 * h + 6) 8 0 3 0
def halterCapShare (h : Nat) : Field := fld 15 (16 * h + 8) 16 1 4096 4096
def halterCapGain (h : Nat) : Field := fld 15 (16 * h + 10) 16 1 65535 16
def halterFields : List Field :=
  (List.range 8).flatMap fun h =>
    (List.range 6).map (halterMember h) ++ [halterCapClass h, halterCapShare h, halterCapGain h]

/-- The fields of a folio by its ID; `lamps` is the number of lamps that `LAMPCAL` holds. -/
def folioFields (lamps id : Nat) : List Field :=
  match id with
  | 1 => identFields
  | 2 => clockFields
  | 3 => gatherFields
  | 4 => codecFields
  | 5 => matrixFields
  | 6 => pensFields
  | 7 => rasterFields .a
  | 8 => rasterFields .b
  | 9 => layerFields
  | 10 => canvasFields
  | 11 => wheelFields
  | 12 => mirrorFields .a
  | 13 => mirrorFields .b
  | 14 => loopFields ++ (List.range 48).flatMap slotFields
  | 15 => halterFields
  | 16 => emitFields
  | 17 => lampFields
  | 18 => lampcalFields lamps
  | 19 => budgetFields
  | 20 => integrityFields
  | 21 => safetyFields
  | 22 => beaconFields
  | 23 => packFields
  | 24 => patternRectFields ++ (List.range 64).flatMap patternEntryFields
  | 25 => hotplugFields
  | 26 => memportFields
  | _ => []

/-- The length of a folio by its ID (the owning chapters). -/
def folioLength (lamps id : Nat) : Nat :=
  match id with
  | 18 => 1024 + 4 * lamps
  | _ => nth [0, 8, 12, 12, 8, 12, 12, 24, 24, 32, 16, 16, 32, 32, 3088, 128, 40, 48, 0, 16, 16, 8, 8, 72, 6912, 20, 16]
      id

end Sys2Proof.Machine
end

