-- ==== Sys2Proof/Machine/Operands.lean ====
section
/-! DEFINITION. The readings that commands share: code bands and code meanings (03), straps, the live configuration, the
head's geometry and its parts, and the ports as pairs. -/

namespace Sys2Proof.Machine

open Sys2Proof

/-! Code bands (R44). -/

/-- The nominal ratios of codes 1 to 14, in units of 1/10,000 (Table 3-1). -/
def nominalRatios : List Nat :=
  [667, 1335, 1994, 2674, 3329, 3994, 4641, 5349, 6000, 6667, 7326, 8008, 8665, 9333]

/-- The ratio of a slot in units of 1/4,096: the mean of its four 10-bit conversions (R42). A count of n stands for n / 1,024.
DESIGN CHOICE of the converter's scale: log 112. -/
def ratioOf (slot : List Nat) : Nat := slot.sum

/-- The code of a ratio in units of 1/4,096, or none between bands (Table 3-1). -/
def codeOf (r : Nat) : Option Nat :=
  let x := 10000 * r
  if x < 4096 * 333 then some 0
  else if 4096 * 9667 < x then some 15
  else (nominalRatios.findIdx? fun n => 4096 * n ≤ x + 4096 * 200 && x ≤ 4096 * (n + 200)).map (· + 1)

/-- A `PACK_T` ratio within codes 1 to 14 (R62). -/
def packTGood (r : Nat) : Bool := 4096 * 467 ≤ 10000 * r && 10000 * r ≤ 4096 * 9533

/-- A `PACK_T` ratio of code 15 (R62). -/
def packTOpen (r : Nat) : Bool := 4096 * 9667 < 10000 * r

/-! Held codes. -/

def ballIndex : CodeBall → Nat
  | .toolH => 0
  | .toolL => 1
  | .lamp => 2
  | .clk => 3
  | .beacon => 4
  | .safe => 5
  | .cart => 6

def allBalls : List CodeBall := [.toolH, .toolL, .lamp, .clk, .beacon, .safe, .cart]

/-- The value taken at core release; none for a ball held unreadable. -/
def heldCode (s : State) (b : CodeBall) : Option Nat := s.core.held.getD (ballIndex b) none

/-- The codes that Tables 3-4 to 3-7 mark reserved. -/
def reservedCode : CodeBall → Nat → Bool
  | .lamp, c => c == 13 || c == 14
  | .clk, c => c == 12 || c == 13 || c == 14
  | .beacon, c => 10 ≤ c && c ≤ 14
  | .safe, c => c == 13 || c == 14
  | _, _ => false

/-- A held code that has its own meaning: readable and not reserved (R47). -/
def meaningCode (s : State) (b : CodeBall) : Option Nat :=
  (heldCode s b).filter fun c => !reservedCode b c

/-- The tool code (R52); 0xFF when a tool ball is unreadable (Table 3-3). -/
def toolCode (s : State) : Nat :=
  match heldCode s .toolH, heldCode s .toolL with
  | some h, some l => 16 * h + l
  | _, _ => 255

/-- Table 3-5's row: codes without a meaning behave as 15. -/
def clkCode (s : State) : Nat := (meaningCode s .clk).getD 15

/-- The fixed geometries of Table 3-4 (rows, columns). -/
def lampTable : List (Nat × Nat) :=
  [(0, 0), (4, 8), (4, 16), (8, 16), (8, 32), (16, 16), (16, 32), (32, 32), (64, 16), (64, 32), (1, 32), (2, 32),
    (12, 32)]

/-- Rows and columns in a configuration (R53, R341); none without a lamp field. -/
def geometry (s : State) (st : Store) : Option (Nat × Nat) :=
  match meaningCode s .lamp with
  | none => none
  | some 0 => none
  | some 15 => some (fnat st lampRows, fnat st lampCols)
  | some c => lampTable[c]?

/-- Lamps that `LAMPCAL` holds (R360). -/
def lampCount (s : State) (st : Store) : Nat :=
  match geometry s st with
  | some (r, c) => r * c
  | none => 0

/-- The line rate of Table 3-6; none with the beacon off. -/
def beaconBaud (s : State) : Option Nat :=
  match meaningCode s .beacon with
  | none => some 115200
  | some 15 => none
  | some c => [115200, 230400, 460800, 921600, 1000000, 1500000, 2000000, 3000000, 4000000, 6000000][c]?

/-- The per-channel and summed caps of Table 3-7 in nW; none with the lasers disabled. -/
def safeCaps (s : State) : Option (Nat × Nat) :=
  match meaningCode s .safe with
  | none => none
  | some 0 => none
  | some c =>
    [(390000, 390000), (500000, 800000), (800000, 1000000), (1000000, 1000000), (1000000, 2000000),
      (1000000, 3000000), (1000000, 4000000), (2000000, 4000000), (3000000, 5000000), (5000000, 5000000),
      (5000000, 10000000), (5000000, 20000000)][c - 1]?

/-! Straps (R59). -/

def strap (s : State) (k : Nat) : Bool := s.core.straps.getLsbD k

/-- PORTB_EN. -/
def portBEn (s : State) : Bool := strap s 0

/-- The copy that COPY_PREF names. -/
def copyPref (s : State) : Copy := if strap s 1 then .b else .a

/-- Two of three samples (R58). -/
def majority (a b c : BitVec 6) : BitVec 6 := (a &&& b) ||| (a &&& c) ||| (b &&& c)

/-! The live configuration. -/

/-- The folios in force. -/
def live (s : State) : Store := s.binding.live.folios

/-- The head runs an endpaper. -/
def onEndpaper (s : State) : Bool := s.binding.live.origin != .signature

/-- Lamp-only: the strap (R14), or an endpaper (R141). -/
def lampOnly (s : State) : Bool := strap s 2 || onEndpaper s

/-- `CODE_CART` is not read: `PSEL[2]` was last sampled high (R14, R43), or the head runs a flash endpaper, as if it had been (R141). -/
def cartUnread (s : State) : Bool := strap s 2 || s.binding.live.origin == .flashEndpaper

/-- Port B runs on this head (R59, R328). -/
def hasPortB (s : State) : Bool := portBEn s && !lampOnly s

/-- `BUDGET.CAP`, limited to the endpaper value on a flash endpaper (R141). -/
def budgetCapOf (c : Settings) : Nat :=
  if c.origin == .signature then fnat c.folios budgetCap else min (fnat c.folios budgetCap) 300

/-! Ports. -/

def otherPort : Port → Port
  | .a => .b
  | .b => .a

/-- The code of a port in events and folios: 0 for A, 1 for B. -/
def portNum : Port → Nat
  | .a => 0
  | .b => 1

def portOf (s : State) : Port → PortState
  | .a => s.portA
  | .b => s.portB

def setPort (s : State) : Port → PortState → State
  | .a, p => { s with portA := p }
  | .b, p => { s with portB := p }

/-- Change one port. -/
def updPort (s : State) (p : Port) (f : PortState → PortState) : State := setPort s p (f (portOf s p))

def updWheel (s : State) (p : Port) (f : Wheel → Wheel) : State :=
  updPort s p fun q => { q with wheel := f q.wheel }

/-- A port that is locked (R283). -/
def portIsLocked (q : PortState) : Bool := q.phase == .locked

/-- The stall period in 1/65,536 sub-tick (R269): the latest anchor less that 8,192 stalls earlier, divided by 8,192; positions are told
apart modulo 2^32. -/
def stallPeriod (w : Wheel) : Option Nat :=
  match w.anchors with
  | [] => none
  | a :: rest =>
    (rest.find? fun b => b.1 % 4294967296 == (a.1 + 4294967296 - 8192) % 4294967296).map fun b => (a.2 - b.2) * 8

/-- The locked fast-axis frequency in mHz (R232, R280): that of the edge timeline, once 8,192 stalls are measured, before then that of the
lock. A fast-axis period is 8,192 stalls, a sub-tick 156.25 ps. -/
def lockedHz (q : PortState) : Nat :=
  match stallPeriod q.wheel with
  | some t => (roundNear 51200000000000 t).toNat
  | none => q.fLock

/-- The frequency of the fast axis, which is locked or rings, in mHz (R283, R287). -/
def axisHz (q : PortState) : Nat := if portIsLocked q then lockedHz q else q.fRing

/-- The rate of a port's DCO in mHz (R280, R281): 8,192 times the mirror's frequency while it is locked, before then its preset. -/
def dcoRate (q : PortState) : Nat := if portIsLocked q then 8192 * lockedHz q else q.dco

/-! Lists as tables. -/

/-- Replace entry i. -/
def setAt {α : Type} (l : List α) (i : Nat) (v : α) : List α := l.set i v

/-- Change entry i. -/
def modAt {α : Type} (l : List α) (i : Nat) (f : α → α) : List α :=
  match l[i]? with
  | some v => l.set i (f v)
  | none => l

/-- A 16-bit counter that saturates. -/
def satInc (n : Nat) : Nat := min 65535 (n + 1)

def satAdd (n k : Nat) : Nat := min 65535 (n + k)

end Sys2Proof.Machine
end

