-- ==== Sys2Proof/Machine/Ops.lean ====
section
/-! DEFINITION. The operations that commands of every chapter share: events (17), recovery intervals (04 R93), the port gate
and coasting (11, 12), the core reset (04 R76). -/

namespace Sys2Proof.Machine

open Sys2Proof

abbrev Out := Host.Outcome State Fault Refusal

/-- An event whose condition does not hold has no effect (log entry 1). -/
def when (c : Bool) (s t : State) : State := if c then t else s

/-- The outcome of a command whose condition must hold. -/
def guarded (c : Bool) (s t : State) : Out := .next (when c s t)

/-! The event codes of Table 17-3. -/

def evCodeUnreadable : Nat := 0x01
def evCodeReserved : Nat := 0x02
def evCodeChanged : Nat := 0x03
def evStrapReserved : Nat := 0x04
def evPackRemoved : Nat := 0x08
def evPackSilent : Nat := 0x09
def evPackTFault : Nat := 0x0A
def evPackChatter : Nat := 0x0B
def evCartRemoved : Nat := 0x10
def evCartQualified : Nat := 0x11
def evCartUncalibrated : Nat := 0x12
def evQualFailed : Nat := 0x13
def evCartChatter : Nat := 0x14
def evDomainReset : Nat := 0x18
def evDomainQuarantined : Nat := 0x19
def evKeeperRestart : Nat := 0x1A
def evRecoveryOverlap : Nat := 0x1B
def evRefSwitch : Nat := 0x20
def evRefFailed : Nat := 0x21
def evRefSpareFailed : Nat := 0x22
def evRefNoMajority : Nat := 0x23
def evRefTrend : Nat := 0x24
def evRefSuspect : Nat := 0x25
def evRefLost : Nat := 0x26
def evRefConfig : Nat := 0x27
def evRefStartFallback : Nat := 0x28
def evAonDrift : Nat := 0x29
def evVrefSwitch : Nat := 0x2A
def evVrefSpareFailed : Nat := 0x2B
def evVrefNoMajority : Nat := 0x2C
def evSigFallback : Nat := 0x30
def evMemCopySwitch : Nat := 0x31
def evMemReadError : Nat := 0x32
def evMemBusy : Nat := 0x33
def evHoldLong : Nat := 0x34
def evMemModeClamped : Nat := 0x35
def evMemSupply : Nat := 0x36
def evGathering : Nat := 0x37
def evCodecError : Nat := 0x38
def evNoRoom : Nat := 0x39
def evPreloadSkipped : Nat := 0x3A
def evLockError : Nat := 0x3B
def evLockBroken : Nat := 0x3C
def evPatternEmpty : Nat := 0x40
def evRasterRate : Nat := 0x41
def evCanvasDiscard : Nat := 0x42
def evLiveStale : Nat := 0x43
def evWheelLate : Nat := 0x44
def evDllCoarse : Nat := 0x45
def evMirrorStartFailed : Nat := 0x48
def evAmpClamped : Nat := 0x49
def evPortTakeover : Nat := 0x4A
def evMirrorFailed : Nat := 0x4B
def evFastStall : Nat := 0x4C
def evPhaseSlip : Nat := 0x4D
def evOverExcursion : Nat := 0x4E
def evSenseLost : Nat := 0x4F
def evSlowTrack : Nat := 0x50
def evCoilOvercurrent : Nat := 0x51
def evSenseFrozen : Nat := 0x52
def evLaneTakeover : Nat := 0x58
def evLaneJoined : Nat := 0x59
def evFeedbackSwitch : Nat := 0x5A
def evLoopFailed : Nat := 0x5B
def evLdImaxLimit : Nat := 0x60
def evLdHeadroom : Nat := 0x61
def evTargetClamped : Nat := 0x62
def evPdBlind : Nat := 0x63
def evLampOpen : Nat := 0x68
def evLampShort : Nat := 0x69
def evRowOpen : Nat := 0x6A
def evSinkHot : Nat := 0x6B
def evLampRepeat : Nat := 0x6C
def evLampHeadroom : Nat := 0x6D
def evBudgetFloor : Nat := 0x6E
def evCrcMismatch : Nat := 0x70
def evComposeStale : Nat := 0x71
def evEccStuck : Nat := 0x72
def evEccUncorrectable : Nat := 0x73
def evScrubLate : Nat := 0x74
def evSafetyTrip : Nat := 0x78
def evSafetyRelock : Nat := 0x79
def evKill : Nat := 0x7A

/-- The events marked quiet (Table 17-3); GATHERING is quiet for COMMITTED (1) and CANCELLED (4). -/
def quietEvent (code subject : Nat) : Bool :=
  code == evCartQualified || code == evPatternEmpty || code == evCanvasDiscard || code == evLaneJoined ||
    code == evBudgetFloor || code == evKill || (code == evGathering && (subject == 1 || subject == 4))

/-- The places an entry takes in the queue: two with its extension (R402). -/
def entryPlaces (e : EventEntry) : Nat := if e.ext.isSome then 2 else 1

def queuePlaces (q : List EventEntry) : Nat := (q.map entryPlaces).sum

/-- An event enters the queue (R402): merged with an equal entry still there, dropped but numbered when the queue is full. A
new event that is not quiet pulses `FAULT_N` (R397). -/
def reportX (code aux subject : Nat) (ext : Option Nat) (s : State) : State :=
  if s.beacon.queue.any (fun e => e.code == code && e.subject == subject) then s
  else
    let e : EventEntry := { code, aux, subject, ext, number := s.beacon.nextEvent }
    let room := queuePlaces s.beacon.queue + entryPlaces e ≤ 32
    { s with beacon :=
      { s.beacon with
        queue := if room then s.beacon.queue ++ [e] else s.beacon.queue
        nextEvent := (s.beacon.nextEvent + 1) % 65536
        pulse := s.beacon.pulse || !quietEvent code subject } }

/-- An event without an extension. -/
def report (code aux subject : Nat) (s : State) : State := reportX code aux subject none s

/-- An event of the always-on domain: while the core is in reset it waits for the core's release (log entry 13). -/
def reportAon (code aux subject : Nat) (s : State) : State :=
  if s.core.inReset then { s with aon := { s.aon with waiting := s.aon.waiting ++ [(code, aux, subject)] } }
  else report code aux subject s

/-- The `SUBJECT` and number of a reset domain (Table 17-3). -/
def domainNum : Domain → Nat
  | .edge => 0
  | .sys => 1
  | .mem => 2
  | .cvs => 3
  | .mirA => 4
  | .mirB => 5
  | .lamp => 6
  | .loopA => 7
  | .loopB => 8

def allDomains : List Domain := [.edge, .sys, .mem, .cvs, .mirA, .mirB, .lamp, .loopA, .loopB]

/-- The longer of an interval and a number of schedule frames; none when nothing is left. -/
def longer (r : Option Nat) (n : Nat) : Option Nat :=
  if max (r.getD 0) n = 0 then none else some (max (r.getD 0) n)

/-- A recovery interval is open (R93). -/
def recovering (s : State) : Bool := s.keeper.recovery.isSome || s.keeper.readRecovery.isSome

/-- A covered fault with its recovery interval in schedule frames (R93), 0 for a fault that has none (Table 4-4): one inside an
earlier interval is reported, and the later of the two ends the recovery. -/
def coverFault (frames subject : Nat) (s : State) : State :=
  let t := { s with keeper := { s.keeper with recovery := longer s.keeper.recovery frames } }
  if recovering s then report evRecoveryOverlap 0 subject t else t

/-- A memory-port read error as a covered fault: its interval does not count hold time (06 R126). -/
def coverRead (frames : Nat) (s : State) : State :=
  let t := { s with keeper := { s.keeper with readRecovery := longer s.keeper.readRecovery frames } }
  if recovering s then report evRecoveryOverlap 0 255 t else t

/-- One schedule frame less; none at the end. -/
def countDown (r : Option Nat) : Option Nat := r.bind fun n => if n ≤ 1 then none else some (n - 1)

/-- A schedule frame passes for the open recovery intervals: while the bus is the host's, the read error's stands still. -/
def passRecovery (s : State) : State :=
  { s with keeper :=
    { s.keeper with recovery := countDown s.keeper.recovery
                    readRecovery := if s.mem.ackLow then s.keeper.readRecovery else countDown s.keeper.readRecovery } }

/-- The core runs: events of the core have an effect. -/
def running (s : State) : Bool := s.supply.vin && !s.core.inReset

/-- The core runs and is neither waking nor halted. -/
def awake (s : State) : Bool := running s && s.core.service && !s.core.halted

/-! Lasers and gates. -/

/-- Put out the channels assigned to a port. -/
def darkChannels (p : Port) (s : State) : State :=
  let off := fun (l : Laser) => if l.assigned == some p then { l with level := 0, code := 0 } else l
  { s with emit := { s.emit with lasers := s.emit.lasers.map off } }

/-- Put out every channel. -/
def darkAllChannels (s : State) : State :=
  let off := fun (l : Laser) => { l with level := 0, code := 0 }
  { s with emit := { s.emit with lasers := s.emit.lasers.map off } }

/-- Close a port's gate (R268): its channels are driven at level 0. -/
def closeGate (p : Port) (s : State) : State :=
  darkChannels p (updPort s p fun q => { q with gateWhole := false, wheel := { q.wheel with gate := false } })

/-- Close both gates. -/
def closeGates (s : State) : State := closeGate .b (closeGate .a s)

/-- A port's frame reading ends: it counts as having stopped fetching every pen (R211). -/
def stopReading (p : Port) (s : State) : State :=
  let pass := fun (q : Pen) =>
    match p with
    | .a => { q with waitA := false }
    | .b => { q with waitB := false }
  { s with pens := { s.pens with list := s.pens.list.map fun e => (e.1, pass e.2) } }

/-- The wheel of a port that loses lock (R276): its position and its render stage stop and its ring is cleared. -/
def stopWheel (w : Wheel) : Wheel :=
  { w with ring := [], lateSlots := [], held := [], queue := [], clearing := true, timeline := false, anchors := [],
           complete := [], staleRun := 0, gate := false, lateDark := false, fresh := false, frameDrops := 0,
           lateReported := false }

/-- The live pens of a port that stops: it has none (R254). Their blocks return to the live reserve. -/
def dropLivePens (p : Port) (s : State) : State :=
  let gone := s.pens.list.filter fun e => e.2.kind == .live && e.2.port == p
  { s with pens :=
    { s.pens with
      list := s.pens.list.filter fun e => !(e.2.kind == .live && e.2.port == p)
      reserve := s.pens.reserve ++ gone.flatMap (·.2.blocks) } }

/-- Coast a port (R279) that loses lock: the gate closes, the raster stops and the ring is cleared (R292). -/
def coastPort (p : Port) (s0 : State) : State :=
  let lead := (portOf s0 p).raster && (p == .a || !s0.portA.raster)
  let s := if lead then { s0 with beacon := { s0.beacon with sinceFrame := 0 } } else s0
  dropLivePens p (stopReading p (darkChannels p (updPort s p fun q =>
    { q with
      phase := if q.phase == .off then .off else .coast
      driveW := 0, driveP := 0, driveSlow := 0, raster := false, frames := 0, checkPassed := false, qualified := false,
      shown := none, taken := none, guideTaken := none, signalTaken := none,
      gateWhole := false, swapHold := false, liveShown := none, liveTaken := none, liveSeen := false,
      liveStale := false, liveEmpty := false, lines := [], fbLine := 0, nextFb := 0, vact := 0, pastLatch := false, wheel := stopWheel q.wheel })))

def coastBoth (s : State) : State := coastPort .b (coastPort .a s)

/-! The core reset (R76). -/

/-- A code ball's sensing when the core's runs of R49 are discarded (R76). -/
def forgetRun (b : BallState) : BallState := { b with differ := 0, reported := false }

/-- Hold the core in reset: everything held in the core is discarded, the runs of R49 with it. The always-on domain, the pack, the trip
latch, the supplies, the test port and the last strap sampling (R43) go on; the model's own counters of free values and of switches do not
start again. -/
def coreReset (s : State) : State :=
  { State.reset with
    fuses := s.fuses, supply := s.supply, pins := s.pins, aon := { s.aon with balls := s.aon.balls.map forgetRun }
    pack := s.pack, jtag := s.jtag,
    safety := { s.safety with refRun := 0, safeDiffer := 0 },
    keeper := { State.reset.keeper with restarted := s.keeper.restarted },
    core := { State.reset.core with straps := s.core.straps }, clocks := { State.reset.clocks with switches := s.clocks.switches }
    free := s.free + 1, pending := s.pending }

/-! Free values. -/

/-- Whether a pulse between the two limits of a filter is seen, and the state with the counter advanced. -/
def pulse (s : State) (len never always : Nat) : Bool × State :=
  if always ≤ len then (true, s)
  else if len < never then (false, s)
  else (Config.pulseSeen s.free, { s with free := s.free + 1 })

end Sys2Proof.Machine
end

