-- ==== Sys2Proof/Machine/Validate.lean ====
section
/-! DEFINITION. Validation of a spine copy (R128, R129) and of a signature copy (R130 to R138): each check as a function that
answers the reason code of Table 6-7, 0 for a pass. -/

namespace Sys2Proof.Machine

open Sys2Proof

/-! The reason codes of Table 6-7 that the checks answer. -/

def rMemRead : Nat := 0x01
def rEntryEmpty : Nat := 0x07
def rFolioReserved : Nat := 0x24
def rFolioRange : Nat := 0x25
def rConsistency : Nat := 0x26
def rLeafCheck : Nat := 0x30
def rLeafSeal : Nat := 0x31
def rCalCheck : Nat := 0x32
def rCalSeal : Nat := 0x33

/-- The first check that fails gives the reason; every later one is not made. -/
def firstFail : List (Bool × Nat) → Nat
  | [] => 0
  | (ok, r) :: rest => if ok then firstFail rest else r

/-- The first reason that is not 0. -/
def firstReason : List Nat → Nat
  | [] => 0
  | r :: rest => if r = 0 then firstReason rest else r

/-! The spine. -/

def entryAddr (e : List Byte) : Copy → Nat
  | .a => rd e 0 4
  | .b => rd e 4 4

/-- The region of a copy in bytes (Table 6-4). -/
def entrySize (e : List Byte) : Copy → Nat
  | .a => 4096 * rd e 8 2
  | .b => 4096 * rd e 10 2

/-- An empty entry (R128). -/
def entryEmpty (e : List Byte) : Bool := e.all (· == 0) || e.all (· == 255)

/-- Two spans of bytes share none. -/
def disjoint (a la b lb : Nat) : Bool := a + la ≤ b || b + lb ≤ a

/-- An entry in range (R128). -/
def entryInRange (sizeLog2 : Nat) (e : List Byte) : Bool :=
  let a := entryAddr e .a
  let b := entryAddr e .b
  let la := entrySize e .a
  let lb := entrySize e .b
  a % 4096 == 0 && b % 4096 == 0 && 4096 ≤ la && 4096 ≤ lb && 8192 ≤ a && 8192 ≤ b && a + la ≤ 2 ^ sizeLog2 &&
    b + lb ≤ 2 ^ sizeLog2 && disjoint a la b lb

/-- The reason of a spine copy (R129). -/
def spineReason (bs : List Byte) : Nat :=
  firstFail
    [(slice bs 0 4 == [0x4E, 0x52, 0x4E, 0x53] && rd bs 6 2 == 256, 0x02),
      (rd bs 4 1 == 1, 0x03),
      (crc32c (bs.take 4092) == rd bs 4092 4, 0x04),
      (zeros (slice bs 16 240) && zeros (slice bs 3328 764), 0x05),
      (1 ≤ rd bs 8 4 && rd bs 8 4 ≤ 0xFFFFFFFE && 20 ≤ rd bs 12 1 && rd bs 12 1 ≤ 28 && rd bs 13 1 ≤ 2 &&
        25 ≤ rd bs 14 2 && rd bs 14 2 ≤ 200, 0x06),
      ((List.range 256).all fun n =>
        let e := slice bs (256 + 12 * n) 12
        entryEmpty e || entryInRange (rd bs 12 1) e, 0x08)]

/-- The spine that a valid copy spells. -/
def spineOf (bs : List Byte) : Spine :=
  { gen := rd bs 8 4, sizeLog2 := rd bs 12 1, memMode := rd bs 13 1, memMhz := rd bs 14 2,
    entries := (List.range 256).map fun n => slice bs (256 + 12 * n) 12 }

/-- Generation g1 is later than g2 (R133). -/
def later (g1 g2 : Nat) : Bool :=
  let d := (g1 + 2 ^ 32 - g2 % 2 ^ 32) % 2 ^ 32
  1 ≤ d && d ≤ 2 ^ 31 - 1

/-! The signature header (Table 6-5). -/

def hdrTool (h : List Byte) : Nat := rd h 8 1
def hdrCopy (h : List Byte) : Nat := rd h 9 1
def hdrSealed (h : List Byte) : Bool := rd h 11 1 % 2 == 1
def hdrGen (h : List Byte) : Nat := rd h 12 4
def hdrDirLen (h : List Byte) : Nat := rd h 16 4
def hdrFolioTable (h : List Byte) : Nat := rd h 20 4
def hdrFolioCount (h : List Byte) : Nat := rd h 24 2
def hdrLeafCount (h : List Byte) : Nat := rd h 26 2
def hdrLeafTable (h : List Byte) : Nat := rd h 28 4
def hdrCalTable (h : List Byte) : Nat := rd h 32 4
def hdrCalCount (h : List Byte) : Nat := rd h 36 1
def hdrBuild (h : List Byte) : Nat := rd h 40 4

/-- A span lies after the header and inside the directory. -/
def inDirectory (h : List Byte) (off len : Nat) : Bool := 128 ≤ off && off + len ≤ hdrDirLen h

/-- The header layout checks of R131. -/
def headerLayout (h : List Byte) (region : Nat) : Bool :=
  let ft := hdrFolioTable h
  let lt := hdrLeafTable h
  let ct := hdrCalTable h
  let fl := 8 * hdrFolioCount h
  let ll := 16 * hdrLeafCount h
  let cl := 16 * hdrCalCount h
  hdrDirLen h % 4 == 0 && ft % 4 == 0 && lt % 4 == 0 && ct % 4 == 0 && hdrFolioCount h ≤ 26 &&
    hdrLeafCount h ≤ 4096 && hdrCalCount h ≤ 14 && inDirectory h ft fl && inDirectory h lt ll && inDirectory h ct cl &&
    disjoint ft fl lt ll && disjoint ft fl ct cl && disjoint lt ll ct cl && hdrDirLen h + 32 ≤ region

/-- The number of a copy in a header. -/
def copyNum : Copy → Nat
  | .a => 0
  | .b => 1

def otherCopy : Copy → Copy
  | .a => .b
  | .b => .a

/-- The header checks of R138. -/
def headerReason (h : List Byte) (n : Nat) (c : Copy) (region : Nat) : Nat :=
  firstFail
    [(slice h 0 4 == [0x4E, 0x53, 0x49, 0x47] && rd h 6 2 == 128, 0x10),
      (rd h 4 1 == 1, 0x11),
      (hdrTool h == n && hdrCopy h == copyNum c, 0x12),
      (1 ≤ hdrGen h && hdrGen h ≤ 0xFFFFFFFE, 0x13),
      (rd h 10 1 ≤ 0xB1, 0x14),
      (zeros (slice h 37 3) && zeros (slice h 44 84) && rd h 11 1 < 2, 0x16),
      (headerLayout h region, 0x15)]

/-! The directory and the colophon. -/

/-- The bytes with the header's `COPY` byte taken as 0 (R136). -/
def copyCleared (d : List Byte) : List Byte := d.set 9 0

/-- The colophon checks of R136. -/
def colophonReason (dir col : List Byte) : Nat :=
  firstFail
    [(slice col 0 4 == [0x4E, 0x43, 0x4F, 0x4C] && zeros (slice col 4 4) && zeros (slice col 12 4) &&
        crc32c (copyCleared dir) == rd col 8 4 && (hdrSealed dir || zeros (slice col 16 16)), 0x17)]

/-- The seal checks of R6 and R137. -/
def sealReason (fu : Fuses) (dir col : List Byte) : Nat :=
  if hdrSealed dir then
    match fu.key with
    | none => 0x1A
    | some k => if cmac k (dir ++ col.take 16) == slice col 16 16 then 0 else 0x19
  else if fu.sealRequired then 0x18 else 0

/-- A folio table entry (R132): ID, version, length and offset. -/
def folioEntries (dir : List Byte) : List (Nat × Nat × Nat × Nat) :=
  (List.range (hdrFolioCount dir)).map fun i =>
    let o := hdrFolioTable dir + 8 * i
    (rd dir o 1, rd dir (o + 1) 1, rd dir (o + 2) 2, rd dir (o + 4) 4)

/-- The leaf table (R134). -/
def leafEntries (dir : List Byte) : List LeafEntry :=
  (List.range (hdrLeafCount dir)).map fun i =>
    let o := hdrLeafTable dir + 16 * i
    { offset := rd dir o 4, length := rd dir (o + 4) 4, crc := rd dir (o + 8) 4, kind := rd dir (o + 12) 1 }

/-- The calibration table (R135). -/
def calEntries (dir : List Byte) : List CalEntry :=
  (List.range (hdrCalCount dir)).map fun i =>
    let o := hdrCalTable dir + 16 * i
    { code := rd dir o 1, offset := rd dir (o + 4) 4, length := rd dir (o + 8) 4, crc := rd dir (o + 12) 4 }

/-- No two spans of a list overlap. -/
def allDisjoint : List (Nat × Nat) → Bool
  | [] => true
  | (o, l) :: rest => rest.all (fun q => disjoint o l q.1 q.2) && allDisjoint rest

/-- The placement checks of R131 with the size limits of R132. -/
def placementOk (dir : List Byte) (region : Nat) : Bool :=
  let fs := folioEntries dir
  let spans := fs.map fun e => (e.2.2.2, e.2.2.1)
  let tables := [(hdrFolioTable dir, 8 * hdrFolioCount dir), (hdrLeafTable dir, 16 * hdrLeafCount dir),
    (hdrCalTable dir, 16 * hdrCalCount dir)]
  let trailer := if hdrSealed dir then 16 else 0
  let loose := (leafEntries dir).map (fun e => (e.offset, e.length + trailer)) ++
    (calEntries dir).map fun e => (e.offset, e.length + trailer)
  spans.all (fun q => q.1 % 4 == 0 && inDirectory dir q.1 q.2) && allDisjoint (tables ++ spans) &&
    loose.all (fun q => q.1 % 4 == 0 && hdrDirLen dir + 32 ≤ q.1 && q.1 + q.2 ≤ region) && allDisjoint loose &&
    ((fs.filter (·.1 != 18)).map (·.2.2.1)).sum ≤ 16384 && ((fs.filter (·.1 == 18)).map (·.2.2.1)).sum ≤ 32768

/-! Folio checks. -/

/-- The bits that fields cover, as a mask over the folio's little-endian number. -/
def fieldMask (fs : List Field) : Nat :=
  fs.foldl (fun m f => m ||| ((2 ^ f.bits - 1) <<< (8 * f.off + f.shift))) 0

/-- Every reserved bit of a folio is zero (R4). -/
def reservedOk (lamps id : Nat) (img : List Byte) : Bool :=
  let n := leNat img
  n &&& fieldMask (folioFields lamps id) == n

/-- The fields of a folio that take part in range checks: entries not used and slots not enabled do not (R258, R328). -/
def rangedFields (lamps id : Nat) (st : Store) : List Field :=
  match id with
  | 14 => loopFields ++ ((List.range 48).filter fun s => fbit st (slotEn s)).flatMap slotFields
  | 24 => patternRectFields ++ ((List.range 64).filter fun n => fbit st (patternUsed n)).flatMap patternEntryFields
  | _ => folioFields lamps id

/-- The lines of a frame (R232). -/
def vTotal (st : Store) (p : Port) : Nat :=
  fnat st (rasterVsync p) + fnat st (rasterVbp p) + fnat st (rasterVact p) + fnat st (rasterVfp p)

/-- The slow-axis rate lies within 30 Hz to 120 Hz at a fast-axis frequency in mHz (R232). -/
def slowRateOk (st : Store) (p : Port) (fMilli : Nat) : Bool :=
  30000 * vTotal st p ≤ 2 * fMilli && 2 * fMilli ≤ 120000 * vTotal st p

/-- No pixel spans less than one stall (R236). With `LIN` 0 the pixel at the field's centre is the narrowest. -/
def pixelsWide (st : Store) (p : Port) : Bool :=
  let sa := fnat st (rasterHsync p) + fnat st (rasterHbp p)
  let hact := fnat st (rasterHact p)
  let hpix := fnat st (rasterHpix p)
  if fbit st (rasterLin p) then hpix ≤ hact
  else
    let width := fieldPos (32 * (sa + hact)) - fieldPos (32 * sa)
    if hpix % 2 = 0 then (fieldPos 65568 - fieldPos 65536) * hpix ≤ width
    else 2 * (fieldPos 65552 - fieldPos 65536) * hpix ≤ width

/-- The rules between a raster folio's fields (R231, R232, R236). -/
def rasterRules (st : Store) (p : Port) : Bool :=
  let sync := fnat st (rasterHsync p) + fnat st (rasterHbp p)
  sync + fnat st (rasterHact p) + fnat st (rasterHfp p) == 4096 && sync == fnat st (rasterHfp p) &&
    vTotal st p % 2 == 0 && 300 ≤ vTotal st p && vTotal st p ≤ 2666 && pixelsWide st p

/-- Planes of a pixel format (Table 8-2): 4 for Q8. -/
def formatPlanes (f : Nat) : Nat := if f = 3 then 4 else 1

/-- Bytes of a sample in a pen (Table 8-2): 2 for L12. -/
def formatBytes (f : Nat) : Nat := if f = 2 then 2 else 1

/-- The row slot S of R342. -/
def rowSlot (st : Store) (rows : Nat) : Nat := 48000000 / (fnat st lampFrameHz * rows)

/-- The plane unit U of R344: 0 where none fits. -/
def planeUnit (st : Store) (rows : Nat) : Nat :=
  let used := fnat st lampBlank + fnat st lampSettle + 48
  let s := rowSlot st rows
  let planes := 2 ^ fnat st lampPlanes - 1
  if s < used then 0
  else if fnat st lampUnit = 0 then min 255 ((s - used) / planes)
  else if used + planes * fnat st lampUnit ≤ s then fnat st lampUnit else 0

/-- The classes that an order names, first to last (R372). -/
def orderOf (v : Nat) : List Nat := [v % 4, v / 4 % 4, v / 16 % 4]

def orderOk (v : Nat) : Bool :=
  let o := orderOf v
  o.contains 1 && o.contains 2 && o.contains 3

/-- The rules between the fields of one enabled slot (R328). -/
def slotRules (st : Store) (s : Nat) : Bool :=
  let d := destRange (fval st (slotDest s))
  let lo := slotOut st s slotUMin
  let hi := slotOut st s slotUMax
  let safe := slotOut st s slotSafeOut
  fnat st (slotPhase s) < 2 ^ fnat st (slotRate s) && d.1 ≤ lo && hi ≤ d.2 && lo < hi && lo ≤ safe && safe ≤ hi

/-- The rules between fields of one folio that its range step makes, beside the fields' own ranges. At a stitch a raster
folio is also tested at its port's locked frequency (R256). -/
def folioRules (s : State) (stitch : Bool) (st : Store) (id : Nat) : Bool :=
  match id with
  | 5 => fnat st matrixScanWater < fnat st matrixScanCalm
  | 7 => rasterRules st .a && (!stitch || !portIsLocked s.portA || slowRateOk st .a (lockedHz s.portA))
  | 8 => rasterRules st .b && (!stitch || !portIsLocked s.portB || slowRateOk st .b (lockedHz s.portB))
  | 10 =>
    let f := fnat st canvasFormat
    fnat st canvasWidth * fnat st canvasHeight * formatPlanes f * formatBytes f ≤ 262144 &&
      (fnat st codecFormats).testBit (f - 1)
  | 12 => !fbit st (mirrorRole .a)
  | 14 => ((List.range 48).filter fun k => fbit st (slotEn k)).all (slotRules st)
  | 17 =>
    match geometry s st with
    | none => true
    | some (rows, _) => 1 ≤ planeUnit st rows
  | 19 => orderOk (fnat st budgetIdleOrder) && orderOk (fnat st budgetTrigOrder)
  | 23 =>
    fval st packTDerate < fval st packTStop && fval st packTCold < fval st packTDerate &&
      fnat st packVCutMv < fnat st packVLowMv
  | 25 => fval st hotplugThermMin < fval st hotplugThermMax
  | _ => true

/-- The checks of one folio (R138): order, id, version, length, reserved, range. -/
def folioReason (s : State) (stitch : Bool) (st : Store) (prev : Nat) (e : Nat × Nat × Nat × Nat) : Nat :=
  let id := e.1
  let lamps := lampCount s st
  let img := (folioBytes st id).getD []
  firstFail
    [(prev < id || (prev == 0 && id == 0), 0x20),
      (1 ≤ id && id ≤ 26, 0x21),
      (e.2.1 == 1, 0x22),
      (e.2.2.1 == folioLength lamps id, 0x23),
      (reservedOk lamps id img, 0x24),
      ((rangedFields lamps id st).all (fun f => f.inRange (f.read img)) && folioRules s stitch st id, 0x25)]

/-- The folio checks in table order. -/
def folioReasons (s : State) (stitch : Bool) (st : Store) : Nat → List (Nat × Nat × Nat × Nat) → Nat
  | _, [] => 0
  | prev, e :: rest =>
    let r := folioReason s stitch st prev e
    if r = 0 then folioReasons s stitch st e.1 rest else r

/-- The checks of the leaf and calibration table entries (R134, R135). -/
def tableReason (dir : List Byte) : Nat :=
  firstReason
    ((List.range (hdrLeafCount dir)).map (fun i =>
      let o := hdrLeafTable dir + 16 * i
      firstFail [(zeros (slice dir (o + 13) 3), 0x24), (rd dir (o + 12) 1 ≤ 2, 0x25)]) ++
    (List.range (hdrCalCount dir)).map fun i =>
      let o := hdrCalTable dir + 16 * i
      firstFail [(zeros (slice dir (o + 1) 3), 0x24),
        (1 ≤ rd dir o 1 && rd dir o 1 ≤ 14 && rd dir (o + 8) 4 == 192, 0x25)])

/-! Consistency. -/

/-- A leaf reference that is none, or names a leaf of the kind its use needs. -/
def leafRefOk (leaves : List LeafEntry) (kind : Nat) (ref : Int) : Bool :=
  ref == 65535 ||
    match leaves[ref.toNat]? with
    | some e => e.kind == kind
    | none => false

/-- A rectangle of `PATTERN` as X, Y, W, H. -/
def rectOf (st : Store) (p : Port) (r : Nat) : Nat × Nat × Nat × Nat :=
  (fnat st (patternRect p r 0), fnat st (patternRect p r 1), fnat st (patternRect p r 2), fnat st (patternRect p r 3))

/-- The rectangles that an entry's checks select, with the check number. -/
def selectedRects (st : Store) (p : Port) (n : Nat) : List (Nat × Nat) :=
  (List.range 8).filterMap fun k =>
    let v := fnat st (patternRsel p n k)
    if v = 255 then none else some (k, v)

/-- Two rectangles share a pixel. -/
def overlaps (x y w h x' y' w' h' : Nat) : Bool := x < x' + w' && x' < x + w && y < y' + h' && y' < y + h

/-- A selected rectangle is not empty, lies in its port's active area, and clear of the live window (R258, R376). -/
def rectOk (st : Store) (p : Port) (r : Nat) : Bool :=
  let (x, y, w, h) := rectOf st p r
  1 ≤ w && 1 ≤ h && x + w ≤ fnat st (rasterHpix p) && y + h ≤ fnat st (rasterVact p) &&
    !(fbit st canvasEnable &&
      overlaps x y w h (fnat st canvasX) (fnat st canvasY) (fnat st canvasWidth) (fnat st canvasHeight))

/-- The rules of a used pattern entry (R258, R376). -/
def entryOk (st : Store) (leaves : List LeafEntry) (n : Nat) : Bool :=
  leafRefOk leaves 0 (fval st (patternGuide .a n)) && leafRefOk leaves 0 (fval st (patternGuide .b n)) &&
    leafRefOk leaves 1 (fval st (patternSignal n)) && leafRefOk leaves 2 (fval st (patternMask n)) &&
    (selectedRects st .a n).all (fun q => rectOk st .a q.2) && (selectedRects st .b n).all (fun q => rectOk st .b q.2)

/-- What the head has, by the straps and the held `CODE_LAMP` (R328); a flash endpaper runs lamp-only (R141). -/
def hasCart (s : State) (tool : Nat) : Bool := !strap s 2 && tool != 255
def hasB (s : State) (tool : Nat) : Bool := hasCart s tool && portBEn s

/-- A source code names a part that the head has (R328). -/
def sourceOk (s : State) (tool : Nat) (st : Store) (c : Int) : Bool :=
  if (1 ≤ c && c ≤ 18) || (24 ≤ c && c ≤ 26) || c == 32 then hasCart s tool
  else if 28 ≤ c && c ≤ 30 then hasB s tool
  else if c == 33 then (geometry s st).isSome
  else true

/-- A destination code names a part that the head has (R328). -/
def destOk (s : State) (tool : Nat) (st : Store) (c : Int) : Bool :=
  if (1 ≤ c && c ≤ 10) || c == 16 then hasCart s tool
  else if 12 ≤ c && c ≤ 14 then hasB s tool
  else if c == 17 then (geometry s st).isSome
  else true

def isLaserDest (d : Int) : Bool := 1 ≤ d && d ≤ 4
def isCoilDest (d : Int) : Bool := (8 ≤ d && d ≤ 10) || (12 ≤ d && d ≤ 14)

/-- The enabled slots. -/
def enabledSlots (st : Store) : List Nat := (List.range 48).filter fun k => fbit st (slotEn k)

/-- The member slots of a halter. -/
def members (st : Store) (h : Nat) : List Nat :=
  (List.range 6).filterMap fun m =>
    let v := fnat st (halterMember h m)
    if v = 255 then none else some v

/-- The halter that holds a slot. -/
def halterOf (st : Store) (k : Nat) : Option Nat := (List.range 8).find? fun h => (members st h).contains k

/-- The rules of the `LOOP` folio with others (R285, R312, R314, R318, R319, R328). -/
def loopOk (s : State) (tool : Nat) (st : Store) : Bool :=
  let en := enabledSlots st
  en.all (fun k =>
    let d := fval st (slotDest k)
    destOk s tool st d && sourceOk s tool st (fval st (slotMeas k)) &&
      (fval st (slotAlt k) == 255 || sourceOk s tool st (fval st (slotAlt k))) &&
      (!isLaserDest d || ((halterOf st k).any (fun h => fval st (halterCapClass h) == 1) &&
        slotOut st k slotSafeOut == 0)) &&
      (!(isLaserDest d || isCoilDest d) || 1 ≤ fnat st (slotResCount k)) &&
      (d == 0 || en.all fun k' => k' == k || fval st (slotDest k') != d ||
        ((halterOf st k).isSome && halterOf st k == halterOf st k'))) &&
    (!hasCart s tool || [24, 25, 26].all fun m => en.any fun k => fval st (slotMeas k) == m) &&
    (!hasB s tool || [28, 29, 30].all fun m => en.any fun k => fval st (slotMeas k) == m)

/-- The rules of the `HALTER` folio (R329). -/
def halterOk (st : Store) : Bool :=
  (List.range 8).all fun h =>
    let ms := members st h
    ms.all (fun k => fbit st (slotEn k) && fval st (slotDest k) == fval st (slotDest (ms.headD 0)) &&
      (List.range 8).all fun h' => h' == h || !(members st h').contains k) &&
      (fval st (halterCapClass h) == 0 || !ms.isEmpty)

/-- Columns 2j and 2j + 1 hold one warm and one cool lamp (R359). -/
def pairsOk (s : State) (st : Store) : Bool :=
  match geometry s st with
  | none => true
  | some (rows, cols) =>
    cols % 2 == 0 && (List.range (rows * cols / 2)).all fun j =>
      fnat st (lampcalChroma (2 * j)) / 128 != fnat st (lampcalChroma (2 * j + 1)) / 128

/-- The channels to which `EMIT.PORT` assigns a port. -/
def assignedChannels (st : Store) : List Nat := (List.range 4).filter fun c => fval st (emitPort c) != 0

/-- The sum of the targets stays within the summed cap (R388). No cap applies with the lasers disabled. -/
def targetsOk (s : State) (st : Store) : Bool :=
  match safeCaps s with
  | none => true
  | some (_, psum) =>
    256 * ((assignedChannels st).map fun c => fnat st (emitTarget c)).sum ≤ psum * fnat st safetyOpLimit

/-- The rules between folios and tables. -/
def consistent (s : State) (c : Settings) : Bool :=
  let st := c.folios
  let used := (List.range 64).filter fun n => fbit st (patternUsed n)
  leafRefOk c.leaves 2 (fval st gatherBridgeMask) &&
    (List.range 64).all (fun n => !(fnat st pensPreload).testBit n || used.contains n) &&
    (!portBEn s || (fval st (rasterHpix .a) == fval st (rasterHpix .b) &&
      fval st (rasterVact .a) == fval st (rasterVact .b))) &&
    fnat st canvasX + fnat st canvasWidth ≤ fnat st (rasterHpix .a) &&
    fnat st canvasY + fnat st canvasHeight ≤ fnat st (rasterVact .a) &&
    loopOk s c.tool st && halterOk st &&
    (portBEn s || (List.range 4).all fun k => fval st (emitPort k) != 2) &&
    (!fbit st lampPairing || pairsOk s st) && targetsOk s st && used.all (entryOk st c.leaves) &&
    (c.cals.map (·.code)).Nodup

/-- The configuration that a copy's directory spells. -/
def settingsOf (dir col : List Byte) : Settings :=
  { origin := if hdrTool dir == 255 then .flashEndpaper else .signature, tool := hdrTool dir,
    copy := if hdrCopy dir == 0 then .a else .b, gen := hdrGen dir, dirCrc := rd col 8 4, build := hdrBuild dir,
    dirLen := hdrDirLen dir,
    isSealed := hdrSealed dir,
    folios := (folioEntries dir).map fun e => (e.1, slice dir e.2.2.2 e.2.2.1),
    leaves := leafEntries dir, cals := calEntries dir }

/-- The checks of R138 on the bytes of the directory followed by the colophon. -/
def copyReason (s : State) (stitch : Bool) (dir col : List Byte) (region : Nat) : Nat :=
  let c := settingsOf dir col
  firstReason
    [colophonReason dir col, sealReason s.fuses dir col, if placementOk dir region then 0 else 0x15,
      folioReasons s stitch c.folios 0 (folioEntries dir), tableReason dir,
      if consistent s c then 0 else rConsistency,
      if fnat c.folios identCustomer == s.fuses.customer then 0 else 0x27]

/-! Photodiode thresholds (R385, R388). -/

/-- The full scale of a photodiode range in nA (Table 14-4). -/
def pdFullScale (range : Nat) : Nat := nth [25000, 100000, 400000, 1600000] range

/-- The over-power threshold in nA, rounded up, without dark current (R385), for the largest gain given. -/
def opThreshold (opLimit psum gmax : Nat) : Nat :=
  if gmax = 0 then 0 else ceilDiv (opLimit * psum * 6400 * 1000) (256 * gmax * 4095)

/-- A threshold with the worst dark current fits the receiver (R388): compared without rounding. -/
def thresholdFits (st : Store) (psum gmax pd : Nat) : Bool :=
  let fs := pdFullScale (fnat st emitPdRange / 4 ^ pd % 4)
  let dark := 10 * fnat st hotplugPdDarkMax
  gmax == 0 || fnat st safetyOpLimit * psum * 6400 * 1000 + dark * (256 * gmax * 4095) ≤ fs * (256 * gmax * 4095)

end Sys2Proof.Machine
end

