-- ==== Sys2Proof/Machine/Pens.lean ====
section
/-! DEFINITION. Pens, blocks and leaf references (09 R208 to R213, R252, 10 R238): which leaves an entry needs, which pen
holds a leaf, allocation, retirement and the live reserve; and PEN_FREED. -/

namespace Sys2Proof.Machine

open Sys2Proof

/-! Leaf references. -/

/-- A leaf reference of a configuration: none at 0xFFFF, and none on an endpaper (R141). -/
def leafRef (c : Settings) (f : Field) : Option Nat :=
  if c.origin != .signature || fval c.folios f == 65535 then none else some (fnat c.folios f)

/-- The ports that a head may run under a configuration (R59, R14, R141). -/
def portsOf (s : State) (c : Settings) : List Port :=
  if strap s 2 || c.origin != .signature then [] else if portBEn s then [.a, .b] else [.a]

/-- An entry's `USED` bit. -/
def entryUsed (c : Settings) (n : Nat) : Bool := n < 64 && fbit c.folios (patternUsed n)

/-- The guide leaf of an entry for a port (Table 10-3, R246). -/
def guideLeaf (c : Settings) (n : Nat) : Port → Option Nat
  | .a => leafRef c (patternGuide .a n)
  | .b => (leafRef c (patternGuide .b n)).or (leafRef c (patternGuide .a n))

/-- The signal leaf of an entry for a port. -/
def signalLeaf (c : Settings) (n : Nat) (p : Port) : Option Nat :=
  if fbit c.folios (patternSignalOn p n) then leafRef c (patternSignal n) else none

/-- The lamp-mask leaf of an entry, on a head with a lamp field. -/
def maskLeaf (s : State) (c : Settings) (n : Nat) : Option Nat :=
  if (geometry s c.folios).isSome then leafRef c (patternMask n) else none

/-- The leaves of an entry that a port shows. -/
def portLeaves (c : Settings) (n : Nat) (p : Port) : List Nat := (guideLeaf c n p).toList ++ (signalLeaf c n p).toList

/-- Every leaf of a used entry that the head shows, each once. -/
def entryLeaves (s : State) (c : Settings) (n : Nat) : List Nat :=
  if entryUsed c n then ((portsOf s c).flatMap (portLeaves c n) ++ (maskLeaf s c n).toList).eraseDups else []

/-- The leaf table entry of an index. -/
def leafOf (c : Settings) (i : Nat) : LeafEntry := c.leaves.getD i {}

/-- A leaf's size bound (R184, R238): an upper bound on width and height, or the exact size of a lamp mask. -/
structure LeafBound where
  width : Nat
  height : Nat
  exact : Bool
deriving DecidableEq, Repr

/-- The bound that a layer at an origin gives on a port. -/
def layerBound (st : Store) (p : Port) (x y : Field) : LeafBound :=
  { width := fnat st (rasterHpix p) - fnat st x, height := fnat st (rasterVact p) - fnat st y, exact := false }

/-- The bounds of a leaf as an entry uses it. -/
def leafBounds (s : State) (c : Settings) (n i : Nat) : List LeafBound :=
  let st := c.folios
  if (leafOf c i).kind = 2 then
    match geometry s st with
    | some (rows, cols) => [{ width := cols, height := rows, exact := true }]
    | none => []
  else
    (portsOf s c).flatMap fun p =>
      (if guideLeaf c n p == some i then [layerBound st p (patternGuideX n) (patternGuideY n)] else []) ++
        if signalLeaf c n p == some i then [layerBound st p (patternSigX n) (patternSigY n)] else []

def boundWidthOk (bs : List LeafBound) (w : Nat) : Bool := bs.all fun b => if b.exact then w == b.width else w ≤ b.width
def boundHeightOk (bs : List LeafBound) (h : Nat) : Bool :=
  bs.all fun b => if b.exact then h == b.height else h ≤ b.height

/-! Pens by number and by content. -/

def penOf (s : State) (i : Nat) : Option Pen := (s.pens.list.find? (·.1 == i)).map (·.2)

def updPen (s : State) (i : Nat) (f : Pen → Pen) : State :=
  { s with pens := { s.pens with list := s.pens.list.map fun e => if e.1 == i then (e.1, f e.2) else e } }

/-- A pen kind that holds a decoded leaf. -/
def leafPen : PenKind → Bool
  | .guide => true
  | .signal => true
  | .lampMask => true
  | _ => false

/-- A pen in STANDBY or SHOWN holds the leaf of a table entry (R203). -/
def holdsLeaf (e : LeafEntry) (q : Pen) : Bool :=
  leafPen q.kind && (q.state == .standby || q.state == .shown) && q.leafLength == e.length && q.crc == e.crc &&
    q.leafKind == e.kind

/-- The pen that holds a leaf, the newest first. -/
def penWith (s : State) (e : LeafEntry) : Option Nat := ((s.pens.list.filter fun q => holdsLeaf e q.2).getLast?).map (·.1)

/-- Every leaf of the list is held. -/
def leavesHeld (s : State) (c : Settings) (l : List Nat) : Bool := l.all fun i => (penWith s (leafOf c i)).isSome

/-! The pen map (R208). -/

/-- The quad and the bank of a block. -/
def quadOf (b : Nat) : Nat := b / 32
def bankOf (b : Nat) : Nat := b / 16

/-- The frame-store address of an offset in a pen; none behind its blocks. -/
def penAddr (q : Pen) (off : Nat) : Option Nat := q.blocks[off / 16384]?.map fun b => 16384 * b + off % 16384

/-- The pen that holds an address of the frame store, with its number and the offset in it. -/
def penAt (s : State) (a : Nat) : Option (Nat × Pen × Nat) :=
  s.pens.list.findSome? fun (e : Nat × Pen) =>
    (e.2.blocks.findIdx? (· == a / 16384)).map fun k => (e.1, e.2, 16384 * k + a % 16384)

/-- A transaction that addresses the pen is outstanding (R211): a burst over one of its blocks holds a path. -/
def busyPen (s : State) (q : Pen) : Bool :=
  s.matrix.arbiters.any fun a => a.burst.any fun b => b.request.addr < 0x00200000 && q.blocks.contains (b.request.addr / 16384)

/-! Blocks (R208, R213). -/

def usedBlocks (q : Pens) : List Nat := q.list.flatMap (·.2.blocks) ++ q.reserve

/-- The FREE blocks, in ascending order. -/
def freeBlocks (q : Pens) : List Nat := (List.range 128).filter fun b => !(usedBlocks q).contains b

/-- Blocks of RETIRING pens that are not live pens. -/
def retiringBlocks (q : Pens) : Nat :=
  ((q.list.filter fun e => e.2.state == .retiring && e.2.kind != .live).map (·.2.blocks.length)).sum

/-- The blocks that a room test counts (R212). -/
def roomBlocks (q : Pens) : Nat := (freeBlocks q).length + retiringBlocks q

def inQuad (free : List Nat) (k : Nat) : List Nat := free.filter fun b => quadOf b == k

/-- The quad with the most FREE blocks; the lowest of equals. -/
def fullestQuad (free : List Nat) : Nat :=
  [1, 2, 3].foldl (fun k j => if (inQuad free k).length < (inQuad free j).length then j else k) 0

/-- The next quad after k, in the order T0, T1, T2, T3, T0, that has a FREE block. -/
def nextQuad (free : List Nat) (k : Nat) : Nat :=
  ([1, 2, 3, 4].map fun d => (k + d) % 4).find? (fun j => !(inQuad free j).isEmpty) |>.getD k

/-- Take n blocks, the first from quad k. -/
def takeBlocks : Nat → Nat → List Nat → List Nat
  | 0, _, _ => []
  | n + 1, k, free =>
    match inQuad free k with
    | [] => []
    | b :: _ =>
      let rest := free.erase b
      b :: takeBlocks n (nextQuad rest k) rest

/-- The blocks of a new pen of n blocks (R213), which must fit. -/
def allocBlocks (q : Pens) (n : Nat) : List Nat := takeBlocks n (fullestQuad (freeBlocks q)) (freeBlocks q)

/-- Add a pen; it gets the next number. -/
def addPen (q : Pen) (s : State) : Nat × State :=
  (s.pens.next, { s with pens := { s.pens with list := s.pens.list ++ [(s.pens.next, q)], next := s.pens.next + 1 } })

/-- Remove a pen; its blocks are FREE. -/
def removePen (i : Nat) (s : State) : State :=
  { s with pens := { s.pens with list := s.pens.list.filter fun e => e.1 != i } }

/-! The live reserve (R209, R252). -/

/-- The live pen size in blocks. -/
def livePenSize (st : Store) : Nat :=
  let f := fnat st canvasFormat
  max 1 (ceilDiv (fnat st canvasWidth * fnat st canvasHeight * formatPlanes f * formatBytes f) 16384)

/-- The blocks that the live reserve and the live pens hold together. -/
def reserveTarget (s : State) (st : Store) : Nat := 2 * livePenSize st * (if portBEn s then 2 else 1)

/-- Bring the reserve to its size: growth comes from FREE blocks as far as there are any. -/
def fitReserve (s : State) : State :=
  let inPens := ((s.pens.list.filter fun e => e.2.kind == .live).map (·.2.blocks.length)).sum
  let want := reserveTarget s (live s) - inPens
  let have_ := s.pens.reserve.length
  if want ≤ have_ then { s with pens := { s.pens with reserve := s.pens.reserve.take want } }
  else
    { s with pens := { s.pens with
      reserve := s.pens.reserve ++ allocBlocks s.pens (min (want - have_) (freeBlocks s.pens).length) } }

/-! Retirement (R210, R211). -/

/-- A port that is fetching pens: its raster runs and it is not held dark by a bridge, after a RESTORE or after a swap. -/
def fetching (s : State) (p : Port) : Bool :=
  (portOf s p).raster && !s.gather.bridge && !s.gather.relight && !(portOf s p).swapHold

/-- A port shows a pen. -/
def showsPen (q : PortState) (i : Nat) : Bool :=
  q.guideShown == some i || q.signalShown == some i || q.liveShown == some i

/-- A pen passes to RETIRING; the readers that fetch it must pass a boundary first. A port
whose lasers are held dark by a bridge or after a swap counts as having stopped. -/
def retirePen (i : Nat) (s : State) : State :=
  let w := fun p => fetching s p && showsPen (portOf s p) i
  updPen s i fun q =>
    { q with state := .retiring, waitA := w .a, waitB := w .b, waitLamp := s.lamp.running && s.lamp.mask == some i }

def retirePens (l : List Nat) (s : State) : State := l.foldl (fun t i => retirePen i t) s

/-- A retiring pen that no reader waits for and no transaction addresses. -/
def freeable (s : State) (q : Pen) : Bool := q.state == .retiring && !q.waitA && !q.waitB && !q.waitLamp && !busyPen s q

/-- A pen becomes FREE; a live pen's blocks return to the reserve, which is brought to its size. -/
def freePen (i : Nat) (s : State) : State :=
  match penOf s i with
  | none => s
  | some q =>
    let t := removePen i s
    fitReserve (if q.kind == .live then { t with pens := { t.pens with reserve := t.pens.reserve ++ q.blocks } } else t)

/-- A port passes a frame boundary (R211). -/
def passBoundary (p : Port) (s : State) : State := stopReading p s

/-- The lamp engine passes a row-frame start (R211). -/
def passRowFrame (s : State) : State :=
  { s with pens := { s.pens with list := s.pens.list.map fun e => (e.1, { e.2 with waitLamp := false }) } }

/-- PEN_FREED (R211). -/
def execPenFreed (pen : Nat) (s : State) : Out :=
  guarded (running s && (penOf s pen).any (freeable s)) s (freePen pen s)

/-! The shown entry. -/

/-- The lead port (07 R163). -/
def leadPort (s : State) : Option Port :=
  if s.portA.raster then some .a else if s.portB.raster then some .b else none

/-- The entry shown by the lead port, or last shown when no port runs (07 R160). -/
def shownOrLast (s : State) : Option Nat :=
  match leadPort s with
  | some p => (portOf s p).shown
  | none => s.select.lastShown

/-! What is wanted (R210). -/

/-- The table entries of an entry's leaves. -/
def entryKeys (s : State) (n : Nat) : List LeafEntry :=
  (entryLeaves s s.binding.live n).map (leafOf s.binding.live)

def pendingKeys (s : State) : List LeafEntry := (s.select.pending.toList).flatMap (entryKeys s)

def preloadEntries (s : State) : List Nat := (List.range 64).filter fun n => (fnat (live s) pensPreload).testBit n

def preloadKeys (s : State) : List LeafEntry := (preloadEntries s).flatMap (entryKeys s)

def bridgeKeys (s : State) : List LeafEntry :=
  ((leafRef s.binding.live gatherBridgeMask).toList).map (leafOf s.binding.live)

/-- The leaves that a RESTORE decode has still to show (07 R169). -/
def restoreKeys (s : State) : List LeafEntry :=
  if s.gather.restoreFailed || s.gather.reshowDue then (shownOrLast s).toList.flatMap (entryKeys s) else []

def matchesKey (q : Pen) (e : LeafEntry) : Bool := holdsLeaf e q

def wanted (s : State) (q : Pen) : Bool :=
  (pendingKeys s ++ preloadKeys s ++ bridgeKeys s ++ restoreKeys s).any (matchesKey q)

/-- A pen that a leaf or a calibration block fills; the others are wanted for as long as they stand. -/
def decodedPen (k : PenKind) : Bool := leafPen k || k == .calibration

/-- After a gathering outcome, STANDBY pens that are no longer wanted pass to RETIRING (R210). -/
def dropUnwanted (s : State) : State :=
  let t := { s with pens :=
    { s.pens with list := s.pens.list.map fun e => (e.1, { e.2 with stitch := false, forStitch := false }) } }
  retirePens ((t.pens.list.filter fun e => decodedPen e.2.kind && e.2.state == .standby && !wanted t e.2).map (·.1)) t

/-- The pens filled for a stitch that is rolled back are freed (07 R162, R169). -/
def freeStitch (s : State) : State :=
  retirePens ((s.pens.list.filter fun e => e.2.forStitch && e.2.state == .standby).map (·.1)) s

/-- Insert a pen number before those shown later. -/
def insertShown (x : Nat × Pen) : List (Nat × Pen) → List (Nat × Pen)
  | [] => [x]
  | y :: ys => if x.2.shownAt < y.2.shownAt then x :: y :: ys else y :: insertShown x ys

/-- Least recently shown first. -/
def sortShown : List (Nat × Pen) → List (Nat × Pen)
  | [] => []
  | x :: xs => insertShown x (sortShown xs)

/-- The pens that a request outside a stitch may reclaim, in order (R213). -/
def reclaimable (s : State) : List (Nat × Pen) :=
  let c := s.pens.list.filter fun e => leafPen e.2.kind && e.2.state == .standby && !e.2.stitch &&
    !(pendingKeys s).any (matchesKey e.2)
  let loose := c.filter fun e => !wanted s e.2
  let pre := c.filter fun e => wanted s e.2 && !(bridgeKeys s ++ restoreKeys s).any (matchesKey e.2)
  sortShown loose ++ if fbit (live s) pensEvict then sortShown pre else []

/-- Retire reclaimable pens until n blocks are counted, or none is left. -/
def reclaim (n : Nat) : List (Nat × Pen) → State → State
  | [], s => s
  | e :: rest, s => if n ≤ roomBlocks s.pens then s else reclaim n rest (retirePen e.1 s)

end Sys2Proof.Machine
end

