-- ==== Sys2Proof/Machine/Flags.lean ====
section
/-! DEFINITION. The status that the part shows, as functions of its state: the conditions of guide light (01 R13), the lead
port and the shown entry (07 R163, 10 R244), `STAT`, `READY` and `FAULT_N` (17 R394 to R397), and the domains that are held. -/

namespace Sys2Proof.Machine

open Sys2Proof

/-! Domains. -/

def domainOf (s : State) (d : Domain) : DomainState := s.keeper.domains.getD (domainNum d) {}

def updDomain (s : State) (d : Domain) (f : DomainState → DomainState) : State :=
  { s with keeper := { s.keeper with domains := modAt s.keeper.domains (domainNum d) f } }

/-- A domain that is held in reset or quarantined (R77, R78). -/
def domainHeld (s : State) (d : Domain) : Bool := (domainOf s d).held || (domainOf s d).quarantined

/-- The core runs with `CK_SYS` alive and is not halted. -/
def sysRuns (s : State) : Bool := running s && !s.core.halted && !domainHeld s .sys

/-- Lamp-only service has begun and `CK_SYS` is alive. -/
def serving (s : State) : Bool := sysRuns s && s.core.service

/-! Guide light. -/

/-- The conditions of R13 under which guide light is allowed. -/
def guideAllowed (s : State) : Bool :=
  !lampOnly s && s.cart.present && s.cart.qualified && !s.cart.uncalibrated && s.safety.causes.isEmpty && !s.pins.killLow

/-- The ports that the head may run. -/
def headPorts (s : State) : List Port := portsOf s s.binding.live

/-- The Guide class is present: R13 allows it, `VMIR` is in range (R32), and a port is in service (10 R232); with every port in a
fault, until one has qualified again, it is absent (12, "What if both ports fault?"). -/
def guidePresent (s : State) : Bool :=
  guideAllowed s && s.supply.vmir &&
    (headPorts s).any fun p => !(portOf s p).down && !(portOf s p).outOfService

/-- A port runs its raster. -/
def portRuns (s : State) (p : Port) : Bool := (portOf s p).raster

/-- The shown entry (R244): the lead port's, or, only on a head whose ports cannot run, the entry last taken by the lamp engine. -/
def shownEntry (s : State) : Option Nat :=
  match leadPort s with
  | some p => (portOf s p).shown
  | none => if lampOnly s then s.select.lastShown else none

/-- A port that could serve guide light: locked, qualified and in service. -/
def portServes (s : State) (p : Port) : Bool :=
  let q := portOf s p
  portIsLocked q && q.qualified && !q.outOfService && !q.failedLatch

/-- A port's gate is open. -/
def gateOpen (s : State) (p : Port) : Bool := (portOf s p).wheel.gate

/-- A port emits guide light: its gate is open, it is not blanked (16 R375), and a channel is assigned to it (a spare port has
none, 12 R288). -/
def portEmits (s : State) (p : Port) : Bool := gateOpen s p && !(portOf s p).blanked && s.emit.lasers.any fun l => l.assigned == some p

/-! `STAT`. -/

/-- A condition of R145. -/
def copyDegraded (s : State) : Bool :=
  s.binding.readCopy != s.binding.live.copy || s.binding.spineFailed || s.binding.laterFailed

/-- The reference that Table 3-5 names for the held code. -/
def namedRef (s : State) : RefSource := if 8 ≤ clkCode s && clkCode s ≤ 11 then .refin else .crystal

/-- A SHOWN pen holds an uncorrectable error (Table 4-5). -/
def penBad (s : State) : Bool := s.pens.list.any fun e => e.2.bad

/-- The conditions of R395, one for each rule that it names. -/
def degraded (s : State) : Bool :=
  (s.yard.outcomes.any fun o => o == 2 || o == 4) ||
    (s.keeper.domains.any fun d => d.quarantined) ||
    ((s.cart.qualified || s.cart.step != .idle) && (s.cart.therm != .both || s.cart.pd != .both)) ||
    (s.core.folios && s.clocks.selected != namedRef s) ||
    s.clocks.vrefB || s.clocks.vrefAFailed || s.clocks.vrefBFailed ||
    s.gather.restoreFailed || s.gather.reshowDue ||
    !s.emit.dllLost.isEmpty || !s.emit.trimEnd.isEmpty ||
    s.emit.takeover ||
    (hasPortB s && ((s.portB.down && portServes s .a) || (s.portA.down && portServes s .b))) ||
    ((s.engine.slotsA ++ s.engine.slotsB).any fun k => k.onAlt) ||
    s.engine.tookOver || s.engine.tableErrA || s.engine.tableErrB ||
    (s.lamp.lamps.any fun l => l.latched || l.eccDark) ||
    s.portA.mismatchHeld || s.portB.mismatchHeld ||
    4 ≤ s.emit.blindA || 4 ≤ s.emit.blindB ||
    penBad s || s.binding.unreadable

/-- At least one port's gate is open for guide light. -/
def guideLit (s : State) : Bool := gateOpen s .a || gateOpen s .b

/-- `STAT[2:0]` by rank (Table 17-1); 0 while the core is in reset. -/
def stat (s : State) : Nat :=
  if !running s then 0
  else if s.core.halted then 7
  else if !s.safety.causes.isEmpty then 6
  else if s.gather.bridge then 4
  else if s.gather.state != .closed then 3
  else if !s.core.service then 0
  else if degraded s then 5
  else if guideLit s then (if copyDegraded s then 5 else 2)
  else 1

/-- A stitch request has been seen and its outcome is not yet reached (R155). -/
def stitchUnderWay (s : State) : Bool :=
  match s.gather.state with
  | .closed => false
  | .opened => false
  | .restore => s.gather.backReason != 0x42
  | _ => true

/-- `READY` (R396). An abort's rollback does not hold it (R177). -/
def ready (s : State) : Bool :=
  running s && stat s != 0 && stat s != 7 && s.core.service && !stitchUnderWay s && !s.gather.aborting &&
    !(domainOf s .sys).held

/-- A latched fault holds (R397). -/
def faultLatched (s : State) : Bool :=
  s.beacon.codeLatch || s.clocks.crystalFailed || s.clocks.refinFailed || s.clocks.vrefAFailed ||
    s.clocks.vrefBFailed || s.clocks.vrefNoMajority || s.cart.failedLatch || s.cart.chatter || s.cart.packChatter ||
    (s.keeper.domains.any fun d => d.quarantined) || s.portA.failedLatch || s.portB.failedLatch ||
    s.engine.loopFailed || !s.safety.causes.isEmpty || s.lamp.lamps.any fun l => l.latched

/-- `FAULT_N` is low: a latched fault holds, or a pulse runs, while the core runs. -/
def faultLow (s : State) : Bool := running s && (faultLatched s || s.beacon.pulse)



/-- A bit of a field. -/
def bit (b : Bool) (k : Nat) : Nat := if b then 2 ^ k else 0

/-! Record fields that a reset of `CK_SYS` changes (17 R405). -/

/-- The state number of `GATHER` (Table 17-2). -/
def gatherNum : GatherState → Nat
  | .closed => 0
  | .opened => 1
  | .validate => 2
  | .decode => 3
  | .darkDecode => 4
  | .ramp => 5
  | .swapWait => 6
  | .restore => 7

/-- The values now. -/
def resetFieldsNow (s : State) : ResetFields :=
  { shown := (shownEntry s).getD 255, pending := s.select.pending.getD 255
    gather := s.gather.outcome + 16 * gatherNum s.gather.state, reason := s.gather.reason
    emits := bit (portEmits s .a) 2 + bit (portEmits s .b) 3, lockBroken := s.matrix.lockBroken }

/-- What a record shows: while `CK_SYS` is in reset, the values at the start of the reset. -/
def resetFields (s : State) : ResetFields :=
  if domainHeld s .sys then s.beacon.frozen.getD (resetFieldsNow s) else resetFieldsNow s

/-- `BEACON` idles high: no record is being sent (R398). -/
def beaconIdle (s : State) : Bool := s.beacon.sending.isNone

/-! The bus. -/

/-- A binding read may be issued: the flash bus is the part's own, no status poll is due (R122, R124), and `VDDIO_M` was not missing at
start-up (02 R31). -/
def busFree (s : State) : Bool :=
  !s.core.noBinding && !s.mem.ackLow && !s.mem.statusDue && s.mem.flashReset == .done && !domainHeld s .mem

/-- The opcode of a read in the mode in force, with its extension (Table 6-1). -/
def readOpcode (m : MemMode) : Nat :=
  match m with
  | .s1 => 0x0C
  | .s4 => 0x6C
  | .d8 => 0xEE11

/-- The opcode of a read status. -/
def statusOpcode (m : MemMode) : Nat :=
  match m with
  | .d8 => 0x05FA
  | _ => 0x05

/-- The read-status command (Table 6-1, R124): in 8D-8D-8D with four zero address bytes. -/
def statusCommand (m : MemMode) : FlashCommand :=
  { opcode := statusOpcode m, addr := if m == .d8 then some 0 else none, len := 1 }

/-- The bytes of a command as they go out: the opcode, with its extension, and the address, most significant byte first (Table 6-1). -/
def commandBytes (c : FlashCommand) : List Byte :=
  (if c.opcode < 256 then [byteOf c.opcode] else [byteOf (c.opcode / 256), byteOf c.opcode]) ++
    c.addr.elim [] fun a => (leBytes 4 a).reverse

/-- The span that a read covers: in 8D-8D-8D from an even address and of an even length (R116). -/
def evenSpan (m : MemMode) (e : Nat × Nat) : Nat × Nat :=
  if m == .d8 then (e.1 - e.1 % 2, (e.1 + e.2 + 1) / 2 * 2 - (e.1 - e.1 % 2)) else e

/-- The bytes of an item out of those that its span gave: the first and the last are discarded where the span was widened (R116). -/
def trimSpan (m : MemMode) (e : Nat × Nat) (bytes : List Byte) : List Byte :=
  (bytes.drop (e.1 - (evenSpan m e).1)).take e.2

/-- Commands of at most limit bytes each that cover a span; the fuel is the span's length (R117). -/
def splitSpan (opcode limit : Nat) : Nat → Nat → Nat → List FlashCommand
  | 0, _, _ => []
  | fuel + 1, a, n =>
    if n = 0 then []
    else { opcode, addr := some a, len := min limit n } :: splitSpan opcode limit fuel (a + limit) (n - limit)

/-- The read commands of an item's spans in a mode, each of at most `READ_CHUNK` × 64 bytes (R115 to R117). -/
def readCommands (m : MemMode) (chunk : Nat) (spans : List (Nat × Nat)) : List FlashCommand :=
  spans.flatMap fun e =>
    let w := evenSpan m e
    splitSpan (readOpcode m) (64 * chunk) (w.2 / (64 * chunk) + 1) w.1 w.2

/-- Spans without their first n bytes. -/
def dropSpans : Nat → List (Nat × Nat) → List (Nat × Nat)
  | _, [] => []
  | n, e :: rest => if n < e.2 then (e.1 + n, e.2 - n) :: rest else dropSpans (n - e.2) rest

/-- A command is issued to the flash. -/
def issue (c : FlashCommand) (s : State) : State := { s with mem := { s.mem with issued := [c] } }

/-- The read commands of spans are issued; `READ_CHUNK` is the live signature's (R117). -/
def issueReads (spans : List (Nat × Nat)) (s : State) : State :=
  { s with mem :=
    { s.mem with unread := spans, issued := readCommands s.mem.mode (fnat (live s) memportReadChunk) spans } }

/-- A read is in progress: an item's of the binding reader, or the running leaf job's. -/
def readUnderWay (s : State) : Bool := s.mem.reading.isSome || s.codec.running.any (·.started)

/-- A read that was ended is made up by new commands from the first unread address, when the bus is free again (R121). -/
def resumeRead (s : State) : State := if readUnderWay s && busFree s then issueReads s.mem.unread s else s

/-! Where the items lie (R127, R130 to R135). -/

/-- The flash offset of a copy of a tool code's entry. -/
def copyBase (sp : Option Spine) (tool : Nat) (c : Copy) : Nat :=
  entryAddr ((sp.map fun k => k.entries.getD tool []).getD []) c

/-- The spine in use at a selection: the later valid copy, or the preferred one of equals (R129). -/
def chosenSpine (s : State) : Option Spine :=
  let r := s.binding.reader
  match r.spineA, r.spineB with
  | some a, some b => if later a.gen b.gen then some a else if later b.gen a.gen then some b
      else if copyPref s == .a then some a else some b
  | some a, none => some a
  | none, b => b

/-- The header of a copy as read by the selection. -/
def headerOf (r : Reader) : Copy → Option (List Byte)
  | .a => r.headerA
  | .b => r.headerB

/-- A loose item of a configuration: its copy's offset and its own, with the tag trailer of a sealed signature (R137). -/
def looseSpan (sp : Option Spine) (c : Settings) (copy : Copy) (off len : Nat) : Nat × Nat :=
  (copyBase sp c.tool copy + off, len + if c.isSealed then 16 else 0)

/-- The spans of an item. A twin's colophon is looked for where the live directory's length puts it; for a word of the shadow folios
the directory is read. -/
def itemSpans (s : State) : MemItem → List (Nat × Nat)
  | .spine .a => [(0, 4096)]
  | .spine .b => [(4096, 4096)]
  | .header c => [(copyBase (chosenSpine s) s.binding.reader.n c, 128)]
  | .directory c =>
    [(copyBase (chosenSpine s) s.binding.reader.n c, ((headerOf s.binding.reader c).map hdrDirLen).getD 0 + 32)]
  | .twinColophon c =>
    [(copyBase (chosenSpine s) s.binding.reader.n c + ((headerOf s.binding.reader c).map hdrDirLen).getD 0, 32)]
  | .leafHeader i =>
    (s.binding.reader.found.toList).map fun c => (copyBase (chosenSpine s) c.tool c.copy + (c.leaves.getD i {}).offset, 16)
  | .calBlock code =>
    (s.binding.reader.found.toList).flatMap fun c =>
      ((c.cals.find? fun e => e.code == code).toList).map fun e => looseSpan (chosenSpine s) c c.copy e.offset e.length
  | .twinCheck c =>
    let k := s.binding.live
    let a := copyBase s.binding.spine k.tool c
    [(a, 128), (a + k.dirLen, 32)]
  | .shadowFolio =>
    ((s.gather.shadow.or s.binding.reader.found).toList).map fun c =>
      (copyBase (s.gather.shadowSpine.or (chosenSpine s)) c.tool c.copy, c.dirLen + 32)

/-- The spans of a leaf-lane job's item: from the reading copy, or once from the twin (R144), or from the copy of the configuration that
it was requested under. -/
def jobSpans (s : State) (j : Job) : List (Nat × Nat) :=
  let c := j.src
  let copy := if j.shadow || c != s.binding.live then c.copy else s.binding.readCopy
  let sp := if j.shadow then s.gather.shadowSpine else s.binding.spine
  if j.kind == 3 then
    ((c.cals.find? fun e => e.code == j.leaf).toList).map fun e => looseSpan sp c copy e.offset e.length
  else
    let e := c.leaves.getD j.leaf {}
    [looseSpan sp c copy e.offset e.length]

/-- The next read that waits begins as soon as the bus is free and no read is in progress. -/
def pumpReads (s : State) : State :=
  if s.mem.reading.isSome || !busFree s then s
  else
    match s.mem.waiting with
    | m :: rest => issueReads (itemSpans s m) { s with mem := { s.mem with reading := some m, waiting := rest } }
    | [] => s

end Sys2Proof.Machine
end

