-- ==== Sys2Proof/Machine/Leaf.lean ====
section
/-! DEFINITION. The leaf codec's bitstream (08 R182 to R199): the header checks, the block and sample codes, the check value
and the errors with their byte offsets. -/

namespace Sys2Proof.Machine

open Sys2Proof

/-! Errors (Table 8-4): a code and the byte offset of Table 8-8. -/

abbrev CodecError := Nat × Nat

def cIllegal : Nat := 1
def cDistance : Nat := 2
def cOverrun : Nat := 3
def cCheck : Nat := 4
def cSpace : Nat := 5
def cTruncated : Nat := 6

/-! The header (Table 8-1). -/

def leafFormat (h : List Byte) : Nat := rd h 3 1
def leafWidth (h : List Byte) : Nat := rd h 4 2
def leafHeight (h : List Byte) : Nat := rd h 6 2
def leafBlockRows (h : List Byte) : Nat := rd h 8 1
def leafOutSpace (h : List Byte) : Nat := rd h 10 2
def leafCodedLen (h : List Byte) : Nat := rd h 12 4

/-- The sample width B of a format. -/
def formatBits (f : Nat) : Nat := if f = 2 then 12 else 8

/-- Bytes of an image (R183). -/
def imageSize (f w h : Nat) : Nat := w * h * formatPlanes f * formatBytes f

/-- What a job's requester bounds. -/
structure LeafLimits where
  /-- `FORMAT` is known, allowed for the job's kind and accepted by `CODEC.FORMATS`. -/
  formatOk : Nat → Bool
  widthOk : Nat → Bool
  heightOk : Nat → Bool
  /-- The live pen size, for a canvas job. -/
  maxSpace : Option Nat

/-- The formats of Table 8-2 that a leaf kind allows: 2 is a lamp mask, 1 a signal leaf. -/
def kindFormat (kind f : Nat) : Bool :=
  match kind with
  | 2 => f == 1
  | 1 => f == 1 || f == 3
  | _ => 1 ≤ f && f ≤ 3

/-- The first check of a list that fails. -/
def firstError : List (Bool × CodecError) → Option CodecError
  | [] => none
  | (ok, e) :: rest => if ok then firstError rest else some e

/-- The header checks of R184, in field order, for a job whose input is len bytes long. -/
def leafHeaderError (lim : LeafLimits) (h : List Byte) (len : Nat) : Option CodecError :=
  let f := leafFormat h
  let w := leafWidth h
  let t := leafHeight h
  let o := leafOutSpace h
  firstError
    [(16 ≤ len && 16 ≤ h.length, (cTruncated, 0)),
      (slice h 0 2 == [0x4C, 0x46], (cIllegal, 0)),
      (rd h 2 1 == 1, (cIllegal, 2)),
      (lim.formatOk f, (cIllegal, 3)),
      (1 ≤ w && w ≤ 1280 && lim.widthOk w, (cIllegal, 4)),
      (1 ≤ t && t ≤ 720 && lim.heightOk t, (cIllegal, 6)),
      (1 ≤ leafBlockRows h && leafBlockRows h ≤ 64, (cIllegal, 8)),
      (rd h 9 1 == 0, (cIllegal, 9)),
      (1 ≤ o && o ≤ 128 && imageSize f w t ≤ o * 16384, (cSpace, 10)),
      (lim.maxSpace.all fun m => o ≤ m, (cSpace, 10)),
      (1 ≤ leafCodedLen h, (cIllegal, 12)),
      (20 + leafCodedLen h ≤ len, (cTruncated, 12)),
      (len ≤ 20 + leafCodedLen h, (cIllegal, 12))]

/-! Bits (R185). -/

/-- The bits of a byte, most significant first. -/
def byteBits (b : Byte) : List Bool := (List.range 8).map fun i => b.getLsbD (7 - i)

/-- The bits that a bitstream holds. -/
def streamBits (bs : List Byte) : List Bool := bs.flatMap byteBits

/-- The number that bits spell, most significant first. -/
def bitsToNat (l : List Bool) : Nat := l.foldl (fun n b => 2 * n + b.toNat) 0

/-- The bitstream with its length, so that a place can be named. -/
structure Reader8 where
  total : Nat
  bits : List Bool
deriving DecidableEq, Repr

/-- The byte offset of the next bit, from the start of the leaf. -/
def Reader8.offset (r : Reader8) : Nat := 16 + (r.total - r.bits.length) / 8

/-- The error of a bit needed beyond `CODED_LEN`. -/
def Reader8.short (r : Reader8) : CodecError := (cTruncated, 16 + r.total / 8)

/-- Read n bits. -/
def Reader8.take (r : Reader8) (n : Nat) : Except CodecError (Nat × Reader8) :=
  if r.bits.length < n then .error r.short
  else .ok (bitsToNat (r.bits.take n), { r with bits := r.bits.drop n })

/-- Zero bits up to a 1, which is consumed; none when the limit is reached. -/
inductive Zeros where
  | found (z : Nat) (rest : List Bool)
  | tooMany
  | short

def countZeros (limit z : Nat) : List Bool → Zeros
  | [] => .short
  | true :: rest => .found z rest
  | false :: rest => if z + 1 = limit then .tooMany else countZeros limit (z + 1) rest

/-- Count zero bits; at the limit the error stands at the byte of the sample's code. -/
def Reader8.zeros (r : Reader8) (limit start : Nat) : Except CodecError (Nat × Reader8) :=
  match countZeros limit 0 r.bits with
  | .found z rest => .ok (z, { r with bits := rest })
  | .tooMany => .error (cIllegal, start)
  | .short => .error r.short

/-- A length by R194. -/
def Reader8.length (r : Reader8) (start : Nat) : Except CodecError (Nat × Reader8) := do
  let (n, r1) ← r.zeros 12 start
  let (t, r2) ← r1.take n
  return (2 ^ n + t, r2)

/-! A plane. -/

/-- A plane under decode: finished lines and the current one, newest first, and the adaptation state of R191. -/
structure Plane where
  rows : List (List Nat) := []
  cur : List Nat := []
  ctx : List (Nat × Nat)
deriving DecidableEq, Repr

/-- The reset adaptation state (R191). -/
def freshContexts (b : Nat) : List (Nat × Nat) := List.replicate 16 (2 ^ (b - 6), 1)

/-- Add samples, in order, to a plane of width w. -/
def Plane.push (w : Nat) (p : Plane) (l : List Nat) : Plane :=
  l.foldl (fun q v =>
    let cur := v :: q.cur
    if cur.length = w then { q with rows := cur.reverse :: q.rows, cur := [] } else { q with cur }) p

/-- The neighbours a, b, c, d of the next sample (R188). -/
def Plane.neighbours (w : Nat) (p : Plane) : Nat × Nat × Nat × Nat :=
  let x := p.cur.length
  match p.rows with
  | [] =>
    let a := p.cur.headD 0
    (a, a, a, a)
  | prev :: _ =>
    let b := nth prev x
    let a := if x = 0 then b else p.cur.headD 0
    let c := if x = 0 then b else nth prev (x - 1)
    let d := if x = w - 1 then b else nth prev (x + 1)
    (a, b, c, d)

/-- The median edge predictor (R189). -/
def predict (a b c : Nat) : Nat :=
  if max a b ≤ c then min a b else if c ≤ min a b then max a b else a + b - c

/-- T[1] to T[15] of Table 8-3. -/
def contextSteps (b : Nat) : List Nat :=
  if b = 12 then [16, 32, 48, 64, 96, 128, 176, 240, 320, 432, 576, 768, 1024, 1440, 2048]
  else [1, 2, 3, 4, 6, 8, 11, 15, 20, 27, 36, 48, 64, 90, 128]

def absDiff (a b : Nat) : Nat := (a - b) + (b - a)

/-- The context of R190. -/
def contextOf (bits a b c d : Nat) : Nat :=
  let s := absDiff d b + absDiff b c + absDiff c a
  ((contextSteps bits).filter (· ≤ s)).length

/-- The Rice parameter (R191); the fuel is the sample width. -/
def riceParam (a n : Nat) : Nat → Nat → Nat
  | 0, k => k
  | fuel + 1, k => if n <<< k < a then riceParam a n fuel (k + 1) else k

/-- The update of R191. -/
def updateContext (m : Nat) (c : Nat × Nat) : Nat × Nat :=
  if c.2 + 1 = 64 then ((c.1 + m) / 2, 32) else (c.1 + m, c.2 + 1)

/-- The sample of a mapped residue (R192). -/
def residueSample (bits p m : Nat) : Nat :=
  let e : Int := if m % 2 = 0 then ((m / 2 : Nat) : Int) else -(((m + 1) / 2 : Nat) : Int)
  ((p + e) % 2 ^ bits).toNat

/-- One code of a PREDICTED block (R193 to R196). -/
def decodeCode (bits w : Nat) (r : Reader8) (p : Plane) : Except CodecError (Reader8 × Plane) := do
  let start := r.offset
  let (a, b, c, d) := p.neighbours w
  let i := contextOf bits a b c d
  let cx := p.ctx.getD i (0, 1)
  let k := riceParam cx.1 cx.2 (bits - 1) 0
  let left := w - p.cur.length
  let (z, r1) ← r.zeros 17 start
  if z = 14 then
    let (l, r2) ← r1.length start
    if left < l then .error (cOverrun, start) else return (r2, p.push w (List.replicate l a))
  else if z = 15 then
    let (dm, r2) ← r1.take 6
    if p.rows.length < dm + 1 then .error (cDistance, start)
    else
      let (l, r3) ← r2.length start
      if left < l then .error (cOverrun, start)
      else return (r3, p.push w (((p.rows.getD dm []).drop p.cur.length).take l))
  else
    let (v, r2) ← r1.take (if z = 16 then bits else k)
    let m := if z = 16 then v else (z <<< k) ||| v
    return (r2, { p.push w [residueSample bits (predict a b c) m] with ctx := modAt p.ctx i (updateContext m) })

/-- Codes of a PREDICTED block until the plane holds `until` lines; each code gives at least one sample. -/
def decodePredicted (bits w untilRow : Nat) : Nat → Reader8 → Plane → Except CodecError (Reader8 × Plane)
  | 0, r, p => .ok (r, p)
  | fuel + 1, r, p =>
    if untilRow ≤ p.rows.length then .ok (r, p)
    else do
      let (r', p') ← decodeCode bits w r p
      decodePredicted bits w untilRow fuel r' p'

/-- The samples of a STORED block. -/
def decodeStored (bits w : Nat) : Nat → Reader8 → Plane → Except CodecError (Reader8 × Plane)
  | 0, r, p => .ok (r, p)
  | n + 1, r, p => do
    let (v, r') ← r.take bits
    decodeStored bits w n r' (p.push w [v])

/-- The flush code and the pad bits (R187). -/
def endBlock (r : Reader8) : Except CodecError Reader8 := do
  let start := r.offset
  let (v, r1) ← r.take 4
  if v != 5 then .error (cIllegal, start)
  else
    let pad := r1.bits.length % 8
    if (r1.bits.take pad).any id then .error (cIllegal, r1.offset) else return { r1 with bits := r1.bits.drop pad }

/-- One block of n lines (R186). -/
def decodeBlock (bits w n : Nat) (r : Reader8) (p : Plane) : Except CodecError (Reader8 × Plane) := do
  let start := r.offset
  let (mode, r1) ← r.take 2
  if mode = 3 then .error (cIllegal, start)
  else
    let (rst, r2) ← r1.take 1
    let q := if rst = 1 then { p with ctx := freshContexts bits } else p
    let (r3, q') ←
      if mode = 0 then decodePredicted bits w (p.rows.length + n) (n * w) r2 q
      else if mode = 1 then decodeStored bits w (n * w) r2 q
      else do
        let (v, r') ← r2.take bits
        pure (r', q.push w (List.replicate (n * w) v))
    let r4 ← endBlock r3
    return (r4, q')

/-- The blocks of a plane of h lines, blockRows lines each. -/
def decodePlane (bits w blockRows : Nat) : Nat → Nat → Reader8 → Plane → Except CodecError (Reader8 × Plane)
  | 0, _, r, p => .ok (r, p)
  | fuel + 1, left, r, p =>
    if left = 0 then .ok (r, p)
    else do
      let n := min blockRows left
      let (r', p') ← decodeBlock bits w n r p
      decodePlane bits w blockRows fuel (left - n) r' p'

/-- The planes of an image, in component order; the adaptation state starts reset in each. -/
def decodePlanes (bits w h blockRows : Nat) : Nat → Reader8 → List Nat → Except CodecError (Reader8 × List Nat)
  | 0, r, acc => .ok (r, acc)
  | n + 1, r, acc => do
    let (r', p) ← decodePlane bits w blockRows h h r { ctx := freshContexts bits }
    decodePlanes bits w h blockRows n r' (acc ++ p.rows.reverse.flatten)

/-- The bytes of an image in pen order (R183). -/
def imageBytes (i : Image) : List Byte := i.samples.flatMap (leBytes (formatBytes i.format))

/-- Decode a whole leaf (R184 to R198). -/
def decodeLeaf (lim : LeafLimits) (leaf : List Byte) : Except CodecError Image := do
  match leafHeaderError lim leaf leaf.length with
  | some e => .error e
  | none =>
    let f := leafFormat leaf
    let w := leafWidth leaf
    let h := leafHeight leaf
    let n := leafCodedLen leaf
    let r : Reader8 := { total := 8 * n, bits := streamBits (slice leaf 16 n) }
    let (r', samples) ← decodePlanes (formatBits f) w h (leafBlockRows leaf) (formatPlanes f) r []
    if !r'.bits.isEmpty then .error (cIllegal, r'.offset)
    else
      let img : Image := { format := f, width := w, height := h, samples }
      if crc32c (imageBytes img) == rd leaf (16 + n) 4 then return img else .error (cCheck, 16 + n)

/-! Reads of loose items (R121, R137). -/

/-- The 8-byte suffix of a tag trailer: tool code, item kind, index or code, generation. -/
def tagSuffix (c : Settings) (kind index : Nat) : List Byte :=
  leBytes 1 c.tool ++ leBytes 1 kind ++ leBytes 2 index ++ leBytes 4 c.gen

/-- The reason with which the read of a loose item fails, 0 when it passes: the read itself, the check value, the tag. -/
def itemReason (fu : Fuses) (c : Settings) (kind index crc : Nat) (data trailer : List Byte) (readOk : Bool) : Nat :=
  if !readOk then rMemRead
  else if crc32c data != crc then (if kind = 0 then rLeafCheck else rCalCheck)
  else if c.isSealed && !(fu.key.any fun k => cmac k (data ++ tagSuffix c kind index) == trailer) then
    (if kind = 0 then rLeafSeal else rCalSeal)
  else 0

end Sys2Proof.Machine
end

