-- ==== Sys2Proof/Machine/Queue.lean ====
section
/-! DEFINITION. The leaf lane's requests (08 R181, R203, 09 R214): queueing, joining, preload rounds, and what a requester is
told. -/

namespace Sys2Proof.Machine

open Sys2Proof

/-- The table entry of a job's leaf. -/
def jobKey (j : Job) : LeafEntry := { length := j.leafLength, crc := j.crc, kind := j.kind }

/-- The job of a calibration load: kind 3, the code in place of a leaf index. -/
def isCalJob (j : Job) : Bool := j.kind == 3

/-- Two jobs decode the same leaf (R203). -/
def sameLeaf (a b : Job) : Bool :=
  !isCalJob a && !isCalJob b && a.leafLength == b.leafLength && a.crc == b.crc && a.kind == b.kind

/-- Every job that the leaf lane knows, the preload queue apart. -/
def laneJobs (s : State) : List Job := s.codec.running.toList ++ s.codec.queue ++ s.codec.atRequester

/-- Jobs that wait at their requesters take the places that have freed, in request order. -/
def promote (s : State) : State :=
  let n := s.codec.depth - s.codec.queue.length
  { s with codec := { s.codec with
    queue := s.codec.queue ++ s.codec.atRequester.take n, atRequester := s.codec.atRequester.drop n } }

/-- A job enters the queue, or waits at its requester while the queue is full (R181): behind every job requested before it. -/
def enqueue (j : Job) (s : State) : State :=
  promote { s with codec := { s.codec with atRequester := s.codec.atRequester ++ [j] } }

/-- Add a request to a job that it joins. -/
def joinJob (j : Job) (r : Requester) (n : Nat) (k : Job) : Job :=
  if sameLeaf j k then { k with joined := k.joined ++ [(r, n)] } else k

/-- Hold a pen for a stitch or a RESTORE decode (R213). -/
def holdPen (r : Requester) (i : Nat) (s : State) : State :=
  if r == .stitch || r == .restore then updPen s i fun q => { q with stitch := true } else s

/-- One request for a leaf of a configuration (R203): given a pen that holds it, joined to a job for it, or queued. -/
def requestLeaf (shadow : Bool) (c : Settings) (r : Requester) (n : Nat) (i : Nat) (s : State) : State :=
  let e := leafOf c i
  let j : Job := { leaf := i, leafLength := e.length, crc := e.crc, kind := e.kind, requester := r, entry := n, shadow, src := c }
  match penWith s e with
  | some p =>
    if r != .recheck then holdPen r p s
    else if (laneJobs s).any (sameLeaf j) then s
    else enqueue j s
  | none =>
    if (laneJobs s).any (sameLeaf j) then
      { s with codec :=
        { s.codec with
          running := s.codec.running.map (joinJob j r n)
          queue := s.codec.queue.map (joinJob j r n)
          atRequester := s.codec.atRequester.map (joinJob j r n) } }
    else if s.codec.preload.any (sameLeaf j) then
      enqueue j { s with codec := { s.codec with preload := s.codec.preload.filter fun k => !sameLeaf j k } }
    else enqueue j s

/-- Requests for every leaf of an entry. -/
def requestEntry (shadow : Bool) (c : Settings) (r : Requester) (n : Nat) (s : State) : State :=
  (entryLeaves s c n).foldl (fun t i => requestLeaf shadow c r n i t) s

/-- One preload job, unless a pen holds the leaf; a job already queued or running is joined. -/
def preloadLeaf (n i : Nat) (s : State) : State :=
  let c := s.binding.live
  let e := leafOf c i
  let j : Job := { leaf := i, leafLength := e.length, crc := e.crc, kind := e.kind, requester := .preload, entry := n, src := c }
  if (penWith s e).isSome || s.codec.preload.any (sameLeaf j) then s
  else if (laneJobs s).any (sameLeaf j) then requestLeaf false c .preload n i s
  else { s with codec := { s.codec with preload := s.codec.preload ++ [j] } }

/-- The leaf of the committed `GATHER.BRIDGE_MASK`, on a head with a lamp field. -/
def bridgeLeaf (s : State) : Option Nat :=
  if (geometry s (live s)).isSome then leafRef s.binding.live gatherBridgeMask else none

/-- A preload round (R214): the jobs of an earlier one that have not started are dropped. While `ABORT_N` is low the round
waits. Behind the entries, the round decodes the bridge mask, which the manual has wanted (R210) and shown (07 R165) without naming the
job that fills it; entry 255 stands for it in PRELOAD_SKIPPED. DESIGN CHOICE: log 97. -/
def preloadRound (s : State) : State :=
  let t := { s with codec := { s.codec with preload := [], preloadDue := s.pins.abortLow } }
  if s.pins.abortLow then t
  else
    let u := (preloadEntries t).foldl (fun u n => (entryLeaves u u.binding.live n).foldl (fun v i => preloadLeaf n i v) u) t
    (bridgeLeaf u).toList.foldl (fun v i => preloadLeaf 255 i v) u

/-- The request of a joined requester begins afresh, for the leaf of the live configuration with the job's key. -/
def rejoin (j : Job) (q : Requester × Nat) (s : State) : State :=
  match s.binding.live.leaves.findIdx? fun e => e.length == j.leafLength && e.crc == j.crc && e.kind == j.kind with
  | some i => requestLeaf false s.binding.live q.1 q.2 i s
  | none => s

/-- Drop every job of a kind of requester that has not published; their pens become FREE. Requests of another kind that had
joined such a job begin afresh. -/
def dropJobs (r : Requester → Bool) (s : State) : State :=
  let gone := (laneJobs s).filter fun j => r j.requester
  let t := (gone.filterMap (·.pen)).foldl (fun u i => removePen i u) s
  let keep := fun (j : Job) => !r j.requester
  let trim := fun (j : Job) => { j with joined := j.joined.filter fun q => !r q.1 }
  let u := promote { t with codec :=
    { t.codec with running := (t.codec.running.filter keep).map trim, queue := (t.codec.queue.filter keep).map trim,
                   atRequester := (t.codec.atRequester.filter keep).map trim } }
  gone.foldl (fun v j => (j.joined.filter fun q => !r q.1).foldl (fun w q => rejoin j q w) v) u

/-- The latest job that ended without publishing, for the report of R201. -/
def endedJob (r : Option Requester) (leaf err : Nat) (s : State) : State :=
  { s with codec := { s.codec with lastEnd := some (r, leaf, err) } }

/-- Drop every job of the leaf lane, preload jobs included (R176, R204). -/
def dropAllJobs (s : State) : State :=
  let t := (laneJobs s).filterMap (·.pen) |>.foldl (fun u i => removePen i u) s
  { t with codec := { t.codec with running := none, queue := [], atRequester := [], preload := [] } }

/-- A pending selection ends (R201): its pens are no longer wanted. -/
def refusePending (n : Nat) (s : State) : State :=
  if s.select.pending == some n then { s with select := { s.select with pending := none } } else s

/-- A selection of an entry (R243, R244): it becomes pending and its leaves are requested. -/
def selectEntry (n : Nat) (s : State) : State :=
  requestEntry false s.binding.live .pattern n { s with select := { s.select with pending := some n } }

/-- Resolve a pending selection afresh after a gathering's outcome (R172). -/
def resolvePending (s : State) : State :=
  match s.select.pending with
  | none => s
  | some n =>
    if !entryUsed s.binding.live n then
      report evPatternEmpty 0 n
        { s with select := { s.select with pending := none },
                 beacon := { s.beacon with patternEmpty := satInc s.beacon.patternEmpty } }
    else if shownEntry s == some n then { s with select := { s.select with pending := none } }
    else requestEntry false s.binding.live .pattern n s

end Sys2Proof.Machine
end

