-- ==== Sys2Proof/Machine/Cal.lean ====
section
/-! DEFINITION. The cartridge calibration block (12 R295, 14 R340), the thermistors (14 R339), the thresholds of the laser
safety path (16 R384 to R386) and the trip latch (16 R389, R390). -/

namespace Sys2Proof.Machine

open Sys2Proof

/-! The mirror section (Table 12-5). -/

def mirrorBase : Port → Nat
  | .a => 0
  | .b => 32

def calFNom (b : List Byte) (p : Port) : Nat := rd b (mirrorBase p) 4
def calTempco (b : List Byte) (p : Port) : Int := asSigned 16 (rd b (mirrorBase p + 4) 2)
def calTRef (b : List Byte) (p : Port) : Int := asSigned 8 (rd b (mirrorBase p + 6) 1)
def calPhaseOfs (b : List Byte) (p : Port) : Int := asSigned 8 (rd b (mirrorBase p + 7) 1)
def calAmpScale (b : List Byte) (p : Port) : Nat := rd b (mirrorBase p + 8) 2
def calSlowScale (b : List Byte) (p : Port) : Nat := rd b (mirrorBase p + 10) 2
def calAmpMax (b : List Byte) (p : Port) : Nat := rd b (mirrorBase p + 12) 2
def calSlowMax (b : List Byte) (p : Port) : Nat := rd b (mirrorBase p + 14) 2
def calDriveMax (b : List Byte) (p : Port) : Nat := rd b (mirrorBase p + 16) 2
def calSlowDriveMax (b : List Byte) (p : Port) : Nat := rd b (mirrorBase p + 18) 2

/-- The mirror section of a port is in range (R295); a section with `F_NOM` 0 is not range-checked. -/
def mirrorCalOk (b : List Byte) (p : Port) : Bool :=
  let f := calFNom b p
  zeros (slice b (mirrorBase p + 20) 12) && calDriveMax b p < 4096 && calSlowDriveMax b p < 4096 &&
    (f == 0 ||
      (18000000 ≤ f && f ≤ 40000000 && (-500) ≤ calTempco b p && calTempco b p ≤ 500 && (-20) ≤ calTRef b p &&
        calTRef b p ≤ 60 && 1 ≤ calAmpScale b p && 1 ≤ calSlowScale b p && 100 ≤ calAmpMax b p && calAmpMax b p ≤ 1500 &&
        100 ≤ calSlowMax b p && calSlowMax b p ≤ 1500 && 1 ≤ calDriveMax b p && 1 ≤ calSlowDriveMax b p &&
        calSlowDriveMax b p ≤ 2047))

/-! The laser section (Table 14-1). -/

def calIth (b : List Byte) (c : Nat) : Nat := rd b (64 + 16 * c) 2
def calImax (b : List Byte) (c : Nat) : Nat := rd b (66 + 16 * c) 2
def calGainA (b : List Byte) (c : Nat) : Nat := rd b (68 + 16 * c) 2
def calGainB (b : List Byte) (c : Nat) : Nat := rd b (70 + 16 * c) 2
def calSlope (b : List Byte) (c : Nat) : Nat := rd b (72 + 16 * c) 2
def calThermNom (b : List Byte) (t : Nat) : Nat := rd b (128 + 4 * t) 2
def calThermB (b : List Byte) (t : Nat) : Nat := rd b (130 + 4 * t) 2

/-- A channel's fields are in range under a configuration; only its reserved bits count when it has no port (R340). -/
def laserCalOk (st : Store) (b : List Byte) (c : Nat) : Bool :=
  calIth b c < 4096 && calImax b c < 4096 && zeros (slice b (74 + 16 * c) 6) &&
    (fval st (emitPort c) == 0 || (1 ≤ calImax b c && 1 ≤ calGainA b c && 1 ≤ calGainB b c && 1 ≤ calSlope b c))

/-- A thermistor's constants are in range. -/
def thermCalOk (b : List Byte) (t : Nat) : Bool :=
  100 ≤ calThermNom b t && calThermNom b t ≤ 10000 && 2000 ≤ calThermB b t && calThermB b t ≤ 5000

/-- The range checks of a calibration block under a configuration (R295, R340). -/
def calRangeOk (st : Store) (b : List Byte) : Bool :=
  b.length == 192 && mirrorCalOk b .a && mirrorCalOk b .b && (List.range 4).all (laserCalOk st b) &&
    (List.range 2).all (thermCalOk b) && zeros (slice b 136 56)

/-- The largest gain of a photodiode over the channels with a port (R385). -/
def gainMax (st : Store) (b : List Byte) (pd : Nat) : Nat :=
  ((assignedChannels st).map fun c => if pd = 0 then calGainA b c else calGainB b c).foldl max 0

/-- Both over-power thresholds fit their receivers (R388); no threshold applies with the lasers disabled. -/
def calFits (s : State) (st : Store) (b : List Byte) : Bool :=
  match safeCaps s with
  | none => true
  | some (_, psum) => thresholdFits st psum (gainMax st b 0) 0 && thresholdFits st psum (gainMax st b 1) 1

/-- The over-current threshold code of a channel (R384). -/
def ocThreshold (s : State) (b : List Byte) (c : Nat) : Nat :=
  let pc := ((safeCaps s).map (·.1)).getD 0
  min 4095 (calIth b c + ceilDiv (pc * fnat (live s) safetyOcLimit) (256 * calSlope b c * 10))

/-- A channel that the folios give a port of the head (R330). -/
def channelPort (s : State) (st : Store) (c : Nat) : Option Port :=
  let v := fval st (emitPort c)
  if v == 1 then some .a else if v == 2 && portBEn s then some .b else none

/-- The port to which a channel is assigned (R274, R288 to R290): a spare port B's channels are assigned to no port until a
takeover, and then port A's are. -/
def assignment (s : State) (c : Nat) : Option Port :=
  let spare := fbit (live s) (mirrorRole .b)
  match channelPort s (live s) c with
  | some .a => if spare && s.emit.takeover then none else some .a
  | some .b => if spare && (!s.emit.takeover || s.emit.takeoverDue) then none else some .b
  | none => none

/-- Bring every channel's assignment up to date: a channel whose assignment changes is set to level 0 and waits for a frame
boundary of its new port (R274). -/
def assignChannels (s : State) : State :=
  let one := fun (e : Laser × Nat) =>
    let p := if lampOnly s then none else assignment s e.2
    if e.1.assigned == p then e.1 else { e.1 with assigned := p, level := 0, code := 0, waitBoundary := true }
  { s with emit := { s.emit with lasers := s.emit.lasers.zipIdx.map one } }

/-- Compute, load and read back the thresholds of the calibration in force (R386). A read-back mismatch is its own command,
a trip with cause THRESHOLD. -/
def loadThresholds (s : State) : State :=
  let b := s.emit.cal
  let st := live s
  let psum := ((safeCaps s).map (·.2)).getD 0
  let one := fun (e : Laser × Nat) => { e.1 with armed := true, ocCode := ocThreshold s b e.2 }
  { s with emit :=
    { s.emit with
      lasers := s.emit.lasers.zipIdx.map one
      opA := opThreshold (fnat st safetyOpLimit) psum (gainMax st b 0)
      opB := opThreshold (fnat st safetyOpLimit) psum (gainMax st b 1) } }

/-- A calibration block is placed in force; its pen is SHOWN and the one before it retires (Table 9-2). -/
def calInForce (pen : Nat) (block : List Byte) (code : Nat) (s : State) : State :=
  let old := (s.pens.list.filter fun e => e.2.kind == .calibration && e.2.state == .shown && e.1 != pen).map (·.1)
  let t := updPen (retirePens old s) pen fun q => { q with state := .shown }
  loadThresholds { t with emit := { t.emit with cal := block, calCode := code } }

/-! Thermistors (R339). -/

/-- The temperature of a thermistor in 0.01 °C, absent when out of range. -/
def thermTemp (s : State) (t : Nat) : Option Int :=
  let r := if t = 0 then s.engine.rt0 else s.engine.rt1
  if r = 0 || s.emit.cal.isEmpty then none
  else
    let v := ntcTemp 100 r 1 (10 * calThermNom s.emit.cal t) (calThermB s.emit.cal t)
    if (-4000) ≤ v && v ≤ 15000 then some v else none

/-- The cartridge temperature: the mean of the serving thermistors that give a reading (R282). -/
def cartTemp (s : State) : Option Int :=
  let v0 := if s.cart.therm == .onlyB then none else thermTemp s 0
  let v1 := if s.cart.therm == .onlyA then none else thermTemp s 1
  match v0, v1 with
  | some a, some b => some ((a + b) / 2)
  | some a, none => some a
  | none, v => v

/-! The trip latch. -/

/-- The code of a trip cause (Table 16-2). -/
def causeCode : TripCause → Nat
  | .overCurrent => 1
  | .overPower => 2
  | .pdBlind => 3
  | .threshold => 4
  | .safeRef => 5
  | .codeSafe => 6

/-- The causes that a kill release may clear (Table 16-2). -/
def releasable : TripCause → Bool
  | .overCurrent => true
  | .overPower => true
  | .pdBlind => true
  | _ => false

/-- A trip within 10 s after a kill release (R390). -/
def relockNow (s : State) : Bool := s.safety.sinceRelease.any fun n => n < 10000

/-- The latch trips (R389): the lasers are extinguished and both gates close; SAFETY_TRIP carries the cause, the channel or
photodiode, and the time in yard ticks. A further decision for a cause that is latched reports nothing new. -/
def trip (cause : TripCause) (which : Nat) (s : State) : State :=
  let new := !s.safety.causes.contains cause
  let re := new && relockNow s
  let t := closeGates (darkAllChannels
    { s with safety :=
      { s.safety with
        causes := if new then s.safety.causes ++ [cause] else s.safety.causes
        relock := s.safety.relock || re
        tripInKill := s.safety.tripInKill || s.pins.killLow } })
  let u := if new then reportX evSafetyTrip (causeCode cause) which (some (s.keeper.ticks % 2 ^ 24)) t else t
  if re then report evSafetyRelock (causeCode cause) which u else u

end Sys2Proof.Machine
end

