-- ==== Sys2Proof/Machine/Sense.lean ====
section
/-! DEFINITION. The always-on sensing of the codes and the pack (03): CODE_PASS, CODE_CHANGED, the pack's presence, its
scheme, its limit and its identity frames. -/

namespace Sys2Proof.Machine

open Sys2Proof

/-! Codes (R42 to R51). -/

/-- The slots of a pass (R43). -/
inductive Slot43 where
  | code (b : CodeBall)
  | packId
  | packT
deriving DecidableEq, Repr

/-- The nine slots in their order, two `CK_AON` ticks each. -/
def slotOrder : List Slot43 := allBalls.map .code ++ [.packId, .packT]

/-- The pack line is a signal: a Scheme 3 pack is listened to or is identified (R43, R62). -/
def packLineSignal (p : Pack) : Bool := p.candidate || p.scheme == 3

/-- The slot under way switches its bias (R43): not that of `CODE_CART` after `PSEL[2]` was sampled high, or on a head that has
become lamp-only by a flash endpaper, as if it had (06 R141), and not that of `PACK_ID` while the pack line is a signal. -/
def slotSwitches (s : State) : Slot43 → Bool
  | .code .cart => !cartUnread s
  | .packId => !packLineSignal s.pack
  | _ => true

/-- The reference resistor of a ball is on: in its own slot, and on `PACK_ID` all the while a Scheme 3 pack is listened to or
identified (R62, R64). Otherwise the ball is high-impedance (R42). -/
def biasOn (s : State) (now ball : Slot43) : Bool :=
  (now == ball && slotSwitches s now) || (ball == .packId && packLineSignal s.pack)

/-- The ratio of a code ball in a pass. -/
def passRatio (r : PassReadings) : CodeBall → Nat
  | .toolH => ratioOf r.toolH
  | .toolL => ratioOf r.toolL
  | .lamp => ratioOf r.lamp
  | .clk => ratioOf r.clk
  | .beacon => ratioOf r.beacon
  | .safe => ratioOf r.safe
  | .cart => ratioOf r.cart

/-- A pass differs from the held value (R49): a ball held unreadable agrees with a reading between bands. -/
def differs (held now : Option Nat) : Bool :=
  match held with
  | some _ => now != held
  | none => now.isSome

/-- The value accepted: a pair of passes that agrees on a band while the core is in reset (R46, R48). -/
def acceptPair (inReset : Bool) (b : BallState) (now : Option Nat) : Option Nat :=
  if inReset && now.isSome && b.last == some now then now else b.accepted

/-- One ball's pass. -/
def ballPass (inReset : Bool) (held : Option Nat) (b : BallState) (now : Option Nat) : BallState :=
  let d := !inReset && differs held now
  { last := some now, accepted := acceptPair inReset b now,
    differ := if d then satInc b.differ else 0, reported := d && b.reported }

/-- The readings of the seven code balls; a `CODE_CART` whose bias stays off keeps its state. -/
def codesPass (r : PassReadings) (s : State) : State :=
  let step := fun b =>
    let old := s.aon.balls.getD (ballIndex b) {}
    if !slotSwitches s (.code b) then old
    else ballPass s.core.inReset (heldCode s b) old (codeOf (passRatio r b))
  let watched := [CodeBall.toolH, .toolL, .lamp, .clk, .beacon, .safe]
  let n := if s.core.inReset || s.core.halted then 0
    else (watched.filter fun b => differs (heldCode s b) (codeOf (passRatio r b))).length
  let safeD := !s.core.inReset && differs (heldCode s .safe) (codeOf (ratioOf r.safe))
  { s with
    aon := { s.aon with passes := s.aon.passes + 1, balls := allBalls.map step }
    safety := { s.safety with safeDiffer := if safeD then satInc s.safety.safeDiffer else 0 }
    beacon := { s.beacon with codeDiffer := satAdd s.beacon.codeDiffer n } }

/-- A band that denotes a cartridge (R57). -/
def cartBand : Option Nat → Option Nat
  | some c => if 1 ≤ c && c ≤ 14 then some c else none
  | none => none

/-- `CODE_CART`: out-of-band passes (R51), and the band on which the latest two passes agree (R82); none of either while the ball is not
read. -/
def cartPass (r : PassReadings) (s : State) : State :=
  if !slotSwitches s (.code .cart) then { s with aon := { s.aon with cartOob := 0, cartAgree := none } }
  else
    let now := cartBand (codeOf (ratioOf r.cart))
    let before := (s.aon.balls.getD 6 {}).last
    { s with
      aon :=
        { s.aon with
          cartOob := if now.isNone then satInc s.aon.cartOob else 0
          cartAgree := if now.isSome && before == some now then now else none } }

/-- CODE_CHANGED (R49): eight consecutive differing passes; `FAULT_N` latches. -/
def execCodeChanged (ball : CodeBall) (s : State) : Out :=
  let b := s.aon.balls.getD (ballIndex ball) {}
  let ok := running s && ballIndex ball < 5 && 8 ≤ b.differ && !b.reported
  let aux := ((b.last.getD none).getD 255)
  guarded ok s
    (report evCodeChanged aux (ballIndex ball + 1)
      { s with
        aon := { s.aon with balls := modAt s.aon.balls (ballIndex ball) fun q => { q with reported := true } }
        beacon := { s.beacon with codeLatch := true } })

/-! The pack limit (R63, R66, R67). -/

/-- The pack temperature in 0.1 °C from the `PACK_T` ratio in units of 1/4,096 (R63). -/
def packTemp (st : Store) (r : Nat) : Int :=
  ntcTemp 10 (10000 * r) (4096 - r) (10 * fnat st packNtcNominal) (fnat st packNtcB)

/-- The temperature factor in permille (R66). -/
def tempFactor (st : Store) (t : Int) : Nat :=
  let stop := 10 * fval st packTStop
  let derate := 10 * fval st packTDerate
  if t < 10 * fval st packTCold then 10 * fnat st packColdPercent
  else if t ≤ derate then 1000
  else if t < stop then (1000 * (stop - t) / (stop - derate)).toNat
  else 0

/-- The voltage factor in permille, of the mean over the filter's passes (R66). -/
def voltFactor (st : Store) (mv : List Nat) : Nat :=
  let h := mv.take (fnat st packVFilter)
  let v := h.sum / max 1 h.length
  let lo := fnat st packVCutMv
  let hi := fnat st packVLowMv
  if hi ≤ v then 1000 else if lo < v then 1000 * (v - lo) / (hi - lo) else 0

/-- The base limit of the identity (R63, R64). -/
def packBase (st : Store) (p : Pack) : Nat :=
  match p.scheme with
  | 1 => fnat st (packS1Limit (p.band - 1))
  | 2 => fnat st (packS2Limit (p.band - 1))
  | 3 => 8 * (p.ident3 % 256)
  | _ => 0

/-- The pack limit of a pass (R66, R67, R88). -/
def packLimitOf (st : Store) (chatter : Bool) (p : Pack) : Nat :=
  let vf := voltFactor st p.mvHistory
  let plain := packBase st p * vf / 1000
  if chatter then fnat st packLimitUnknown
  else if !p.present then fnat st packLimitAbsent
  else if p.unidentified || (p.scheme == 3 && p.silent) then fnat st packLimitUnknown
  else if !p.identRead then fnat st packLimitAbsent
  else if p.scheme == 3 && p.ident3 / 256 % 4 == 3 then fnat st packLimitFault
  else if p.scheme == 2 then
    if p.tFault then min plain (fnat st packLimitUnknown)
    else packBase st p * tempFactor st (p.temp.getD 0) / 1000 * vf / 1000
  else plain

/-- Compute the pack limit afresh. -/
def packLimit (s : State) : State :=
  { s with pack := { s.pack with limit := packLimitOf (live s) s.cart.packChatter s.pack } }

/-- The scheme is accepted by `PACK.SCHEMES` (R62). -/
def schemeAccepted (st : Store) (k : Nat) : Bool := (fnat st packSchemes).testBit (k - 1)

/-- The identity is decided as a scheme, or the pack is unidentified when its scheme is not accepted (R62). -/
def identify (st : Store) (scheme : Nat) (p : Pack) : Pack :=
  if schemeAccepted st scheme then { p with detecting := false, candidate := false, scheme, identRead := true }
  else { p with detecting := false, candidate := false, unidentified := true }

/-- One pair of passes of scheme detection (R62). -/
def detectPair (s : State) : State :=
  let p := s.pack
  let st := live s
  if !p.detecting || p.candidate then s
  else
    let same := p.idPrev == some p.idNow
    if p.edge || (same && p.idNow == some 15) then { s with pack := { p with candidate := true, lastFrame := none } }
    else if same && (p.idNow == some 0 || p.idNow == some 13 || p.idNow == some 14) then
      { s with pack := { p with detecting := false, unidentified := true } }
    else if same && (cartBand p.idNow).isSome then
      let band := p.idNow.getD 0
      if packTOpen p.tPrev && packTOpen p.tNow then { s with pack := { identify st 1 p with band } }
      else if packTGood p.tPrev && packTGood p.tNow then
        { s with pack := { identify st 2 p with band, temp := some (packTemp st p.tNow) } }
      else reportAon evPackTFault band 2 { s with pack := { identify st 2 p with band, tFault := true } }
    else s

/-- The identity is forgotten; detection is idle. -/
def forgetPack (p : Pack) : Pack :=
  { p with detecting := false, candidate := false, scheme := 0, identRead := false, unidentified := false, band := 0,
           ident3 := 0, lastFrame := none, silent := false, tFault := false, tBadRun := 0, tGoodRun := 0, bandRun := 0,
           temp := none }

/-- Scheme detection starts afresh (R62). The pair of the two latest passes is judged at once, even where they were measured before a
retry timer's end: R62 asks for two consecutive passes and does not say that they must follow the start. DESIGN CHOICE: log 112. -/
def startDetection (s : State) : State :=
  detectPair { s with pack := { forgetPack s.pack with detecting := true, retry := false } }

/-- The pack slots of a pass: presence runs (R61), the voltage mean (R66), `PACK_ID` (R62, R68) and `PACK_T` (R67). On one pass
whose `PACK_T` is out of range, which R67 does not yet count as a fault, the limit goes on from the temperature before it.
DESIGN CHOICE: log 112. -/
def packPass (r : PassReadings) (s : State) : State :=
  let p := s.pack
  let st := live s
  let above := fnat st packPresentMv ≤ r.vpackMv
  let now := codeOf (ratioOf r.packId)
  let off := packLineSignal p
  let resistor := p.scheme == 1 || p.scheme == 2
  let good := packTGood (ratioOf r.packT)
  let goodRun := if good then satInc p.tGoodRun else 0
  { s with
    pack :=
      { p with
        aboveRun := if above then satInc p.aboveRun else 0
        belowRun := if above then 0 else satInc p.belowRun
        mv := r.vpackMv
        mvHistory := (r.vpackMv :: p.mvHistory).take (if p.present then 64 else 2)
        idPrev := if off then none else some p.idNow
        idNow := if off then none else now
        edge := r.packEdge
        tPrev := p.tNow
        tNow := ratioOf r.packT
        bandRun := if resistor && now != some p.band then satInc p.bandRun else 0
        tBadRun := if good then 0 else satInc p.tBadRun
        tGoodRun := goodRun
        tFault := p.tFault && goodRun < 2
        temp := if p.scheme == 2 && good then some (packTemp st (ratioOf r.packT)) else p.temp } }

/-! Pack events. -/

/-- PACK_PRESENT (R61): identified at once while the core is in reset (R74); otherwise the retry timer starts (R88). -/
def execPackPresent (s : State) : Out :=
  let s' := { s with pack := { s.pack with present := true, mvHistory := s.pack.mvHistory.take 2 } }
  let t :=
    if s.cart.packChatter then s'
    else if s.pack.retry then s'
    else if s.core.inReset then startDetection s'
    else { s' with pack := { s'.pack with retry := true } }
  guarded (s.supply.aonUp && 2 ≤ s.pack.aboveRun && !s.pack.present) s (packLimit t)

/-- Removals of a history inside a window, in yard ticks (R87, R88). -/
def recent (window now : Nat) (h : List Nat) : List Nat := h.filter fun t => now < t + window

/-- PACK_REMOVED (R61, R68, R88), with PACK_CHATTER. -/
def execPackRemoved (s : State) : Out :=
  let st := live s
  let gone := 2 ≤ s.pack.belowRun
  let swapped := (s.pack.scheme == 1 || s.pack.scheme == 2) && 4 ≤ s.pack.bandRun
  let now := s.keeper.ticks
  let h := if s.core.inReset then [] else now :: recent (fnat st hotplugPackChatterWindow) now s.cart.packHistory
  let chatter := fnat st hotplugPackChatterCount < h.length
  let p := forgetPack s.pack
  let s1 := reportAon evPackRemoved s.pack.band s.pack.scheme
    { s with pack := { p with present := !gone, retry := !chatter, expiredDue := false }, cart := { s.cart with packHistory := h } }
  let s2 := if s.core.inReset then s1 else coverFault 2000 255 s1
  let s3 :=
    if chatter && !s.cart.packChatter then
      report evPackChatter s.pack.band s.pack.scheme { s2 with cart := { s2.cart with packChatter := true } }
    else s2
  let s4 := if s.cart.packChatter then { s3 with pack := { s3.pack with retry := false } } else s3
  guarded (s.supply.aonUp && s.pack.present && (gone || swapped)) s (packLimit s4)

/-- The pack retry timer has expired: detection starts afresh with the pack present; otherwise the part waits. -/
def packRetryEnds (s : State) : State :=
  let s' := { s with pack := { s.pack with retry := false, expiredDue := false } }
  if s.pack.present && !s.cart.packChatter then packLimit (startDetection s') else s'

/-- PACK_RETRY_EXPIRED (R88); a timer that falls due while `ABORT_N` is low waits (R178). -/
def execPackRetryExpired (s : State) : Out :=
  guarded (s.supply.aonUp && s.pack.retry) s
    (if running s && s.pins.abortLow then { s with pack := { s.pack with retry := false, expiredDue := true } }
     else packRetryEnds s)

/-- PACK_T_FAULT (R67). -/
def execPackTFault (s : State) : Out :=
  guarded (s.supply.aonUp && s.pack.scheme == 2 && 2 ≤ s.pack.tBadRun && !s.pack.tFault) s
    (packLimit (reportAon evPackTFault s.pack.band 2 { s with pack := { s.pack with tFault := true } }))

/-! Scheme 3 frames (R64). -/

/-- The half-bits of the segments after the first low; the last half may merge with the idle line. -/
def halfBits : List (Bool × Nat) → List Bool → Option (List Bool)
  | [], acc => some acc
  | (lvl, us) :: rest, acc =>
    if acc.length ≥ 32 then some acc
    else if acc.length = 31 && lvl && 350 ≤ us then some (acc ++ [true])
    else if 350 ≤ us && us ≤ 650 then halfBits rest (acc ++ [lvl])
    else if 700 ≤ us && us ≤ 1300 then halfBits rest (acc ++ [lvl, lvl])
    else none

/-- The bits of pairs of half-bits: high to low is 0, low to high is 1; without a transition the frame is invalid. -/
def pairBits : List Bool → Option (List Bool)
  | [] => some []
  | [_] => none
  | a :: b :: rest =>
    if a == b then none
    else (pairBits rest).map fun t => b :: t

/-- The number that bits spell, least significant first. -/
def bitsNat : List Bool → Nat
  | [] => 0
  | b :: bs => b.toNat + 2 * bitsNat bs

/-- The contents of a frame: at least 5 ms of idle high, a first low that holds the sync alone or with the first half of a
1, and sixteen bits, of which bit 15 is ignored (Table 3-9). A first low after less idle time gives no valid frame. -/
def scheme3Decode (idleUs : Nat) : List (Bool × Nat) → Option Nat
  | (false, us) :: rest =>
    let first := if 1200 ≤ us && us ≤ 1800 then some [] else if 1800 < us && us ≤ 2450 then some [false] else none
    match first with
    | none => none
    | some acc =>
      if idleUs < 5000 then none
      else
        match halfBits rest acc with
        | some h => if h.length = 32 then (pairBits h).map fun l => bitsNat l % 32768 else none
        | none => none
  | _ => none

/-- SCHEME3_FRAME (R62, R64, R65): an identity is accepted on the second of two consecutive equal valid frames. A sync after too
little idle is counted as an invalid frame, and an invalid frame between two equal valid ones does not part them: the manual leaves
both open. DESIGN CHOICE: log 112. -/
def execScheme3Frame (idleUs : Nat) (segs : List (Bool × Nat)) (s : State) : Out :=
  let p := s.pack
  let t :=
    match scheme3Decode idleUs segs with
    | none =>
      if s.core.inReset || s.core.halted then s
      else { s with beacon := { s.beacon with scheme3Bad := satInc s.beacon.scheme3Bad } }
    | some f =>
      if p.lastFrame == some f then
        let q := if p.scheme == 3 then p else identify (live s) 3 p
        packLimit { s with pack := { q with ident3 := f, silent := false } }
      else { s with pack := { p with lastFrame := some f } }
  guarded (s.supply.aonUp && p.present && (p.candidate || p.scheme == 3)) s t

/-- PACK_S3_WAIT_EXPIRED (R62): listening lasts for up to `PACK.S3_WAIT`, so that a pack whose identity has not been accepted by then
is unidentified, one that has sent a single valid frame included. DEDUCED: log 121. -/
def execPackS3WaitExpired (s : State) : Out :=
  guarded (s.supply.aonUp && s.pack.detecting) s
    (packLimit { s with pack := { s.pack with detecting := false, candidate := false, unidentified := true } })

/-- PACK_SILENT (R65). -/
def execPackSilent (s : State) : Out :=
  guarded (s.supply.aonUp && s.pack.present && s.pack.scheme == 3 && !s.pack.silent) s
    (packLimit (reportAon evPackSilent 0 3 { s with pack := { s.pack with silent := true, lastFrame := none } }))

end Sys2Proof.Machine
end

