-- ==== Sys2Proof/Machine/Cartridge.lean ====
section
/-! DEFINITION. Cartridge hot plug (04 R80 to R87): presence, removal, the retry timer, qualification up to the mirror start,
the photodiode cross-check, and the failures; with CODE_PASS and CODE_SAFE_CHANGE, whose readings it uses (03 R43 to R51). -/

namespace Sys2Proof.Machine

open Sys2Proof

/-- The number of a qualification step (Table 4-3). -/
def stepNumber : QualStep → Nat
  | .idle => 0
  | .code => 1
  | .calibration => 2
  | .thermistors => 3
  | .mirror => 4
  | .photodiodes => 5

def setStep (q : QualStep) (s : State) : State :=
  { s with cart := { s.cart with step := q, reached := stepNumber q } }

/-- Calibration loads of a qualification end; their pens become FREE. -/
def dropCalJobs (s : State) : State := dropJobs (fun r => r == .calibration) s

/-- A cartridge that may qualify: no latch, and a head that runs ports (R14, R86, R87). -/
def mayQualify (s : State) : Bool := !s.cart.failedLatch && !s.cart.chatter && !s.cart.uncalibrated && !lampOnly s

/-- Start the retry timer, unless CART_CHATTER has stopped it (R87). -/
def startRetry (s : State) : State :=
  if s.cart.chatter then s else { s with cart := { s.cart with retry := true } }

/-- A step failed (R86). A failure by an abort is not counted and its timer waits for `ABORT_N` (R178). -/
def failQual (counted : Bool) (s : State) : State :=
  let n := stepNumber s.cart.step
  let fails := s.cart.fails + 1
  let latch := counted && fnat (live s) hotplugQualTries ≤ fails
  let t := dropCalJobs (coastBoth
    { s with cart :=
      { s.cart with
        step := .idle, qualified := false, fails := if counted then fails else s.cart.fails
        failedLatch := s.cart.failedLatch || latch, retryDue := !counted } })
  let u := report evQualFailed n s.cart.code t
  if counted && !latch then startRetry u else u

/-- Give up a qualification because the signature holds no calibration for the code (R84). -/
def stopUncalibrated (s : State) : State :=
  report evCartUncalibrated 2 s.cart.code
    { s with cart := { s.cart with step := .idle, qualified := false, uncalibrated := true } }

/-! The thermistor step. -/

/-- A thermistor within `HOTPLUG.THERM_MIN` to `HOTPLUG.THERM_MAX`. -/
def thermInside (s : State) (t : Nat) : Bool :=
  (thermTemp s t).any fun v => 100 * fval (live s) hotplugThermMin ≤ v && v ≤ 100 * fval (live s) hotplugThermMax

/-- Both thermistors agree. -/
def thermsAgree (s : State) : Bool :=
  match thermTemp s 0, thermTemp s 1 with
  | some a, some b => (a - b).natAbs ≤ 100 * fnat (live s) hotplugThermAgree
  | _, _ => false

/-- The ports before a qualification's mirror starts: what an earlier start or fault left behind does not count. -/
def freshPorts (s : State) : State :=
  let one := fun (q : PortState) =>
    { q with failedPhase := 0, restartDue := false, restarting := false, down := false, served := false }
  updPort (updPort s .a one) .b one

/-- A port that cannot lock in this qualification. -/
def portLost (s : State) (p : Port) : Bool :=
  let q := portOf s p
  q.failedPhase != 0 || q.outOfService || q.failedLatch

/-- Qualification goes on with the port that remains, or fails when every enabled port has failed (R85, R86). -/
def portFailsQual (s : State) : State :=
  if (s.cart.step == .mirror || s.cart.step == .photodiodes) && (headPorts s).all (portLost s) then
    failQual true (setStep .mirror s)
  else s

/-- The thermistor step (R83, R85); a pass goes on to the mirror start, which fails at once where no port can start. -/
def thermStep (s : State) : State :=
  let t := setStep .thermistors s
  let next := fun (v : Serving) => portFailsQual (setStep .mirror (freshPorts { t with cart := { t.cart with therm := v } }))
  match thermInside t 0, thermInside t 1 with
  | true, true => if thermsAgree t then next .both else failQual true t
  | true, false => next .onlyA
  | false, true => next .onlyB
  | false, false => failQual true t

/-- The calibration held in pens may be used again: the code is that of the last cartridge to qualify, and the live generation has not
changed since (R84); the block of that code is in force. -/
def calReusable (code : Nat) (s : State) : Bool :=
  s.cart.lastCode == code && !s.cart.genChanged && s.emit.calCode == code && code != 0 &&
    s.pens.list.any fun e => e.2.kind == .calibration && e.2.state == .shown

/-- The calibration entry of a code. -/
def calEntry (c : Settings) (code : Nat) : Option CalEntry := c.cals.find? fun e => e.code == code

/-- The job of a calibration load. -/
def calJob (r : Requester) (shadow : Bool) (c : Settings) (e : CalEntry) : Job :=
  { leaf := e.code, leafLength := e.length, crc := e.crc, kind := 3, requester := r, shadow, src := c }

/-- The calibration step (R84): reuse, load, or stop. A load that is needed after `CK_MEM` has been quarantined waits for a read that is
never made: the manual gives the step no other end. DESIGN CHOICE: log 112. -/
def calStep (code : Nat) (s : State) : State :=
  let t := setStep .calibration { s with cart := { s.cart with code } }
  if calReusable code t then thermStep (loadThresholds { t with cart := { t.cart with reused := true } })
  else
    let u := { t with cart := { t.cart with reused := false } }
    match calEntry u.binding.live code with
    | none => stopUncalibrated u
    | some e => if u.pins.abortLow then failQual false u else enqueue (calJob .calibration false u.binding.live e) u

/-- Qualification begins (R82, R83): the code is read afresh. -/
def beginQual (s : State) : State :=
  setStep .code { s with cart := { s.cart with codePasses := 0, therm := .both, pd := .both } }

/-- The code step takes one pass (R83): two new passes must agree on a band from 1 to 14. A pass that decides a removal (R51, R80)
cancels the qualification uncounted, which CART_REMOVED does (R86). -/
def codeStepPass (r : PassReadings) (s : State) : State :=
  if s.cart.step != .code || 2 ≤ s.aon.cartOob then s
  else
    let now := cartBand (codeOf (ratioOf r.cart))
    if s.cart.codePasses = 0 then { s with cart := { s.cart with codePasses := 1, code := now.getD 0 } }
    else if now.isSome && now == some s.cart.code then calStep s.cart.code s
    else failQual true s

/-- The retry timer has ended (R82). -/
def retryEnds (s : State) : State :=
  let t := { s with cart := { s.cart with retry := false, expiredDue := false } }
  if t.cart.present && mayQualify t then beginQual t else t

/-! Commands. -/

/-- CODE_PASS (R43, R46, R48, R61 to R68): the codes, the cartridge band, the pack and the pack limit. -/
def execCodePass (r : PassReadings) (s : State) : Out :=
  let t := packLimit (detectPair (packPass r (codesPass r (cartPass r s))))
  guarded (s.supply.vin && s.supply.aonUp) s (if serving t then codeStepPass r t else t)

/-- CODE_SAFE_CHANGE (R50): dark-safe with cause CODE_SAFE, and CODE_CHANGED for the ball. -/
def execCodeSafeChange (s : State) : Out :=
  let b := s.aon.balls.getD 5 {}
  let ok := running s && 3 ≤ s.safety.safeDiffer && !s.safety.causes.contains .codeSafe
  guarded ok s (report evCodeChanged ((b.last.getD none).getD 255) 6 (trip .codeSafe 0 s))

/-- What a removal clears: a failed calibration and the run of failures end, a qualification under way is cancelled (R84,
R86), and the temperatures of the cartridge that leaves are not those of the next (12 R282). -/
def removeCart (s : State) : State :=
  dropCalJobs (coastBoth
    { s with cart :=
      { s.cart with present := false, qualified := false, step := .idle, uncalibrated := false, fails := 0,
                    retryDue := false, expiredDue := false, lastTemp := none, hasQualified := false } })

/-- CART_REMOVED (R80, R81, R87), by the detect ball or by two out-of-band passes, with CART_CHATTER. -/
def execCartRemoved (byDet : Bool) (s : State) : Out :=
  let st := live s
  let now := s.keeper.ticks
  let h := now :: recent (fnat st hotplugChatterWindow) now s.cart.history
  let chatter := fnat st hotplugChatterCount < h.length
  let t := report evCartRemoved 0 s.cart.code
    (let u := removeCart (darkAllChannels s)
     { u with cart := { u.cart with history := h, retry := !chatter && !u.cart.chatter } })
  let v := coverFault 2000 255 t
  let w := if chatter && !v.cart.chatter then
      report evCartChatter 0 h.length { v with cart := { v.cart with chatter := true, retry := false } }
    else v
  guarded (running s && s.cart.present && !cartUnread s && (byDet || 2 ≤ s.aon.cartOob)) s w

/-- CART_PRESENCE_NOTED (R82): the timer starts when none runs. -/
def execCartPresenceNoted (s : State) : Out :=
  let t := { s with cart := { s.cart with present := true } }
  guarded (running s && !cartUnread s && !s.cart.present && s.aon.cartAgree.isSome) s
    (if s.cart.retry || s.cart.retryDue || s.cart.expiredDue then t else startRetry t)

/-- CART_RETRY_EXPIRED (R82); a timer that falls due while `ABORT_N` is low waits (R178). -/
def execCartRetryExpired (s : State) : Out :=
  guarded (serving s && s.cart.retry) s
    (if s.pins.abortLow then { s with cart := { s.cart with retry := false, expiredDue := true } } else retryEnds s)

/-! The photodiode cross-check (Table 4-3). -/

/-- The channels of a port that are probed: those that the folios give it, with the lasers not disabled. -/
def probedChannels (s : State) (p : Port) : List Nat :=
  if (safeCaps s).isNone then [] else (List.range 4).filter fun c => channelPort s (live s) c == some p

/-- The predicted power of a channel's probe pulse in nW (R332). -/
def probePower (s : State) (c : Nat) : Nat :=
  calSlope s.emit.cal c * (fnat (live s) hotplugProbeLevel - calIth s.emit.cal c) * 10

/-- A reading within ±`PD_AGREE` % of the prediction. -/
def probeInside (s : State) (c reading : Nat) : Bool :=
  let w := probePower s c
  100 * absDiff reading w ≤ fnat (live s) hotplugPdAgree * w

/-- One photodiode passes: its dark reading and every probe. -/
def pdInside (s : State) (p : Port) (dark : Nat) (probe : List Nat) : Bool :=
  dark ≤ fnat (live s) hotplugPdDarkMax && (probedChannels s p).all fun c => probeInside s c (nth probe c)

/-- Both photodiodes agree on every probe (R85), relative to the mean of the two. -/
def pdsAgree (s : State) (p : Port) (r : CrossCheck) : Bool :=
  (probedChannels s p).all fun c =>
    let a := nth r.probeA c
    let b := nth r.probeB c
    200 * absDiff a b ≤ fnat (live s) hotplugPdAgree * (a + b)

/-- What the cross-check decides: the photodiodes that serve, or a failure. -/
def crossResult (s : State) (p : Port) (r : CrossCheck) : Option Serving :=
  match pdInside s p r.darkA r.probeA, pdInside s p r.darkB r.probeB with
  | true, true => if pdsAgree s p r then some .both else none
  | true, false => some .onlyA
  | false, true => some .onlyB
  | false, false => none

/-- Photodiodes that serve after a further port's check; none when each has failed on one port (R85). -/
def meetServing : Serving → Serving → Option Serving
  | .both, b => some b
  | a, .both => some a
  | .onlyA, .onlyA => some .onlyA
  | .onlyB, .onlyB => some .onlyB
  | _, _ => none

/-- The cross-check is due on a port: its raster runs, it is not yet qualified, and the cartridge is at its photodiode step,
has qualified, or restarts the port. -/
def crossDue (s : State) (p : Port) : Bool :=
  let q := portOf s p
  q.raster && !q.qualified && !q.checkPassed && !q.outOfService && s.cart.present &&
    (s.cart.qualified || s.cart.step == .photodiodes || s.cart.step == .mirror)

/-- A mirror fault of a port is counted (R293): more than `FAULT_TRIES` within `FAULT_WINDOW` latch MIRROR_FAILED; otherwise
the port restarts after `RESTART_MS`. -/
def countMirrorFault (p : Port) (s : State) : State :=
  let q := portOf s p
  let now := s.keeper.ticks
  let h := now :: recent (fnat (live s) (mirrorFaultWindow p)) now q.faults
  let latch := fnat (live s) (mirrorFaultTries p) < h.length
  let t := updPort s p fun q =>
    { q with faults := h, faultCount := satInc q.faultCount, restartDue := !latch, restarting := false, down := true,
             failedLatch := q.failedLatch || latch }
  if latch && !q.failedLatch then report evMirrorFailed 0 (portNum p) t else t

/-- Port A does not serve guide light and port B is locked and qualified: port B takes over (R289), and in the spare role its
channels become assigned at its next latch point. PORT_TAKEOVER is reported when port A has stopped serving; when port A could not
lock, or has not qualified again after both ports failed, R85 lets port B serve alone. A port A that may still qualify is waited for. -/
def takeover (stopped : Bool) (s : State) : State :=
  if !portServes s .a && portServes s .b && !s.emit.takeover && (stopped || portLost s .a || s.portA.down) then
    let t := assignChannels { s with emit :=
      { s.emit with takeover := true, takeoverDue := fbit (live s) (mirrorRole .b) } }
    if stopped then report evPortTakeover 0 1 t else t
  else s

/-- PD_CROSS_CHECK (R83, R85, R391). While `KILL_N` is low or a trip is latched the step waits. A failure of a restart counts
as a mirror fault (R293); any other ends qualification (R86). -/
def execPdCrossCheck (p : Port) (r : CrossCheck) (s : State) : Out :=
  let t :=
    match (crossResult s p r).bind (meetServing s.cart.pd) with
    | some v => updPort { s with cart := { s.cart with pd := v } } p fun q => { q with checkPassed := true }
    | none =>
      if (portOf s p).restarting then takeover true (countMirrorFault p (coastPort p s))
      else failQual true (setStep .photodiodes s)
  guarded (serving s && crossDue s p && !s.pins.killLow && s.safety.causes.isEmpty) s t

end Sys2Proof.Machine
end

