-- ==== Sys2Proof/Machine/GatherOps.lean ====
section
/-! DEFINITION. What a gathering's states do (07 R156 to R179): field classes, the bridge, ramps, the swap, rollback and
restore, and the outcomes. -/

namespace Sys2Proof.Machine

open Sys2Proof

/-! Field classes (R156, R157). -/

def sameField (a b : Store) (f : Field) : Bool := fval a f == fval b f

/-- A B field differs (R157). -/
def bootChanged (a b : Store) : Bool :=
  (List.range 27).any fun id => (folioFields 0 id).any fun f => f.cls == .b && !sameField a b f

/-- The vertical fields of a raster. -/
def verticalFields (p : Port) : List Field := [rasterVsync p, rasterVbp p, rasterVact p, rasterVfp p]

/-- The S items of a port that differ. -/
def portItems (a b : Store) (p : Port) : List SItem :=
  (if sameField a b (mirrorAmp p) then [] else [.amp p]) ++
    (if sameField a b (mirrorSlowAmp p) then [] else [.slowAmp p]) ++
    (if sameField a b (mirrorDrivePhase p) then [] else [.drivePhase p]) ++
    if (verticalFields p).all (sameField a b) then [] else [.vertical p]

/-- The S items that a stitch changes. -/
def changedItems (a b : Store) : List SItem :=
  portItems a b .a ++ portItems a b .b ++ ((List.range 48).filter fun k => !sameField a b (slotSp k)).map .setPoint

/-- An S item that converges at once on its way between two configurations: its port's mirror does not run (R166), its
*VTOTAL* stays (R256), its slot is frozen or disabled (R326). -/
def atOnce (s : State) (fin : Store) : SItem → Bool
  | .amp p => !portIsLocked (portOf s p)
  | .slowAmp p => !portIsLocked (portOf s p)
  | .drivePhase p => !portIsLocked (portOf s p)
  | .vertical p =>
    !portIsLocked (portOf s p) || ((s.gather.shadow.map fun c => vTotal c.folios p) == some (vTotal (live s) p))
  | .setPoint k =>
    let slots := match s.engine.serving with
      | .a => s.engine.slotsA
      | .b => s.engine.slotsB
    !fbit fin (slotEn k) || (slots.getD k {}).frozen

/-- The folios whose value an S item is at or on its way to: the stitch's while it ramps forward, otherwise the committed
ones. -/
def itemStore (s : State) (i : SItem) : Store :=
  if s.gather.state == .ramp && s.gather.changed.contains i then ((s.gather.shadow.map (·.folios)).getD (live s)) else live s

/-- The runs of the set-point convergence tests begin afresh. -/
def restartConv (s : State) : State :=
  let z := fun (k : Slot) => { k with convRun := 0 }
  { s with engine := { s.engine with slotsA := s.engine.slotsA.map z, slotsB := s.engine.slotsB.map z } }

/-- An item's port whose frame is to follow other vertical fields takes them (Table 12-3). -/
def followVertical (st : Store) (s : State) : State :=
  updPort (updPort s .a fun q => { q with vertFields := st }) .b fun q => { q with vertFields := st }

/-! Shown entries (R168, 10 R244). -/

/-- A pen becomes SHOWN. -/
def markShown (i : Option Nat) (s : State) : State :=
  match i with
  | none => s
  | some n => updPen s n fun q => { q with state := if q.state == .retiring then q.state else .shown, shownAt := s.keeper.ticks }

/-- The pen that holds a leaf of the live configuration. -/
def livePenFor (s : State) (l : Option Nat) : Option Nat := l.bind fun i => penWith s (leafOf s.binding.live i)

/-- A port shows an entry, or none: its guide and signal pens become SHOWN. -/
def showOn (p : Port) (e : Option Nat) (s : State) : State :=
  let c := s.binding.live
  let g := e.bind fun n => if entryUsed c n then livePenFor s (guideLeaf c n p) else none
  let h := e.bind fun n => if entryUsed c n then livePenFor s (signalLeaf c n p) else none
  let t := updPort s p fun q =>
    { q with shown := if q.raster then e else none, guideShown := g, signalShown := h, taken := none, guideTaken := none,
             signalTaken := none }
  markShown h (markShown g t)

/-- Guide and signal pens that no port shows any longer pass to RETIRING. -/
def retireUnshown (s : State) : State :=
  let out := s.pens.list.filter fun e =>
    (e.2.kind == .guide || e.2.kind == .signal) && e.2.state == .shown &&
      !(showsPen s.portA e.1 || showsPen s.portB e.1)
  retirePens (out.map (·.1)) s

/-- Show the entry on every port of the head. -/
def showAll (e : Option Nat) (s : State) : State := retireUnshown ((headPorts s).foldl (fun t p => showOn p e t) s)

/-! Outcomes. -/

/-- A gathering closes with an outcome and a reason, which the beacon reports (R171). After a RESTORE the lasers of both ports wait for the
lead port's next frame boundary (R167). The pending selection is resolved afresh
(R172), pens no longer wanted retire (R210), and after a cancellation or a rollback the other copy is read again (R152). -/
def closeGather (outcome reason : Nat) (s : State) : State :=
  let t := report evGathering reason outcome
    { s with gather := { outcome, reason, restoreFailed := s.gather.restoreFailed, reshowDue := s.gather.reshowDue
                         retryDue := s.gather.retryDue, aborting := s.gather.aborting
                         relight := s.gather.bridge && s.gather.state == .restore && (leadPort s).isSome }
             binding := { s.binding with reader := {} } }
  let u := dropUnwanted (resolvePending t)
  if outcome == 1 || u.binding.live.origin == .builtin || u.binding.readCopy != u.binding.live.copy then u
  else
    pumpReads { u with mem := { u.mem with
      waiting := u.mem.waiting.filter (fun m => match m with | .twinCheck _ => false | _ => true) ++
        [.twinCheck (otherCopy u.binding.live.copy)] } }

/-- A refusal before a gathering opens (R151): reported, with outcome REJECTED. -/
def refuseOpen (reason : Nat) (s : State) : State :=
  report evGathering reason 2 { s with gather := { s.gather with outcome := 2, reason } }

/-- The reads of a stitch's selection end. -/
def stopStitchReads (s : State) : State :=
  if s.binding.reader.stitch then
    let keep := fun m => match m with
      | MemItem.twinCheck _ => true
      | _ => false
    { s with binding := { s.binding with reader := {} }
             mem := { s.mem with reading := s.mem.reading.filter keep, waiting := s.mem.waiting.filter keep } }
  else s

/-- The jobs and reads of a stitch are dropped, and the pens it has filled are freed (R162). -/
def dropStitch (s : State) : State := freeStitch (stopStitchReads (dropJobs (fun r => r == .stitch) s))

/-- The items that have still to converge: an item whose port stops converges at once (R166, R174). -/
def leftToRamp (s : State) : List SItem := s.gather.ramping.filter fun i => !atOnce s (itemStore s i) i

/-! Restore (R167, R169). -/

/-- A job of the leaf lane serves a RESTORE decode. -/
def restoreJobs (s : State) : Bool :=
  (laneJobs s).any fun j => j.requester == .restore || j.joined.any fun q => q.1 == .restore

/-- The leaves of the shown entry that the ports show. -/
def shownLeaves (s : State) : List Nat := (shownOrLast s).elim [] fun n => entryLeaves s s.binding.live n

/-- Ask for the dropped leaves of the shown entry. -/
def requestRestore (s : State) : State :=
  match shownOrLast s with
  | some n => requestEntry false s.binding.live .restore n s
  | none => s

/-- The committed entry's pens are SHOWN again on the ports that show it. -/
def reshow (s : State) : State :=
  let one := fun (t : State) (p : Port) => match (portOf t p).shown with
    | some n => showOn p (some n) t
    | none => t
  (headPorts s).foldl one s

/-- A rollback that passes through RESTORE ends when every item has ramped back and every dropped leaf is decoded again. -/
def restoreProgress (s : State) : State :=
  let held := leavesHeld s s.binding.live (shownLeaves s)
  let t := if s.gather.restoring && held then reshow { s with gather := { s.gather with restoring := false } } else s
  if t.gather.state == .restore && (leftToRamp t).isEmpty && !t.gather.restoring && !t.gather.restoreDue then
    closeGather 3 t.gather.backReason t
  else t

/-- A rollback inside a bridge: the items ramp back, and the leaves that a dark decode dropped are decoded again; while
`ABORT_N` is low that decode waits (R178). -/
def beginRestore (reason : Nat) (s : State) : State :=
  let wasRamp := s.gather.state == .ramp
  let t := dropStitch s
  let back := if wasRamp then t.gather.changed.filter fun i => !atOnce t (live t) i else []
  let lost := t.gather.dark && !leavesHeld t t.binding.live (shownLeaves t)
  let u := restartConv (followVertical (live t)
    { t with gather :=
      { t.gather with state := .restore, ramping := back, backReason := reason, latched := none, calDue := false,
                      restoring := lost, restoreDue := lost && t.pins.abortLow } })
  restoreProgress (if lost && !u.pins.abortLow then requestRestore u else u)

/-- An abort or a reset of `CK_SYS` in RESTORE gives its own reason (R171); a decode that it has ended begins afresh when `ABORT_N` is
high (R178). -/
def redirect (reason : Nat) (s : State) : State :=
  if reason = 0x42 || reason = 0x48 then
    { s with gather := { s.gather with backReason := reason, restoreDue := s.gather.restoreDue || (s.gather.restoring && s.pins.abortLow) } }
  else s

/-- A rollback (R171): at once outside a bridge, through RESTORE inside one. -/
def rollback (reason : Nat) (s : State) : State :=
  match s.gather.state with
  | .closed => s
  | .darkDecode => beginRestore reason s
  | .ramp => beginRestore reason s
  | .restore => redirect reason s
  | _ => closeGather 3 reason (dropStitch s)

/-- The validate step fails: the stitch is rejected (R159). -/
def rejectStitch (reason : Nat) (s : State) : State := closeGather 2 reason (dropStitch s)

/-- A RESTORE decode has failed (R169): inside the gathering it closes at once; outside it is tried again later. -/
def restoreFails (s : State) : State :=
  let t := dropJobs (fun r => r == .restore) s
  if t.gather.state == .restore then
    closeGather 3 0x4B { t with gather := { t.gather with restoreFailed := true } }
  else t

/-! Bridge and ramps (R161, R165). -/

/-- A running port whose target amplitude the calibration clamps reports it (R284). -/
def reportClamp (st : Store) (p : Port) (s : State) : State :=
  let b := s.emit.cal
  if !b.isEmpty && (calAmpMax b p < fnat st (mirrorAmp p) || calSlowMax b p < fnat st (mirrorSlowAmp p)) then
    report evAmpClamped 0 (portNum p) s
  else s

/-- The clamps that a stitch's new amplitudes meet. -/
def rampClamps (fin : Store) (s : State) : State :=
  let one := fun (t : State) (p : Port) =>
    if (t.gather.ramping.contains (.amp p) || t.gather.ramping.contains (.slowAmp p)) then reportClamp fin p t else t
  one (one s .a) .b

/-- The ramps start: items that converge at once take no part. -/
def startRamp (s : State) : State :=
  let fin := (s.gather.shadow.map (·.folios)).getD (live s)
  rampClamps fin <| restartConv (followVertical fin
    { s with gather :=
      { s.gather with state := .ramp, ramping := s.gather.changed.filter (fun i => !atOnce s fin i), latched := none } })

/-- The pens that a dark decode may drop, in order: guide and signal pens in STANDBY, then in SHOWN (R161). -/
def droppable (s : State) : List (Nat × Pen) :=
  let c := s.pens.list.filter fun e => (e.2.kind == .guide || e.2.kind == .signal) && !e.2.stitch
  c.filter (fun e => e.2.state == .standby) ++ c.filter fun e => e.2.state == .shown

/-- A port forgets pens that are no longer SHOWN. -/
def forgetDropped (s : State) : State :=
  let keep := fun i => (penOf s i).any fun q => q.state == .shown
  let one := fun (q : PortState) =>
    { q with guideShown := q.guideShown.filter keep, signalShown := q.signalShown.filter keep, taken := none,
             guideTaken := none, signalTaken := none }
  updPort (updPort s .a one) .b one

/-- The requests of the decode step: the entry's leaves, and the calibration block. -/
def requestStitch (s : State) : State :=
  match s.gather.shadow with
  | none => s
  | some c =>
    let t := match s.gather.entry with
      | some n => requestEntry true c .stitch n s
      | none => s
    if t.gather.calDue then
      match calEntry c t.cart.code with
      | some e => enqueue (calJob .stitch true c e) t
      | none => t
    else t

/-- The calibration block that the decode step loads (R160): the generation changes and a cartridge has qualified. -/
def stitchCal (s : State) (c : Settings) : Option CalEntry :=
  if s.cart.qualified && c.gen != s.binding.live.gen && c.origin == .signature then calEntry c s.cart.code else none

/-- The pen that holds a stitch's calibration block for the present cartridge. -/
def stitchCalPen (s : State) : Option (Nat × Pen) :=
  s.pens.list.find? fun e => e.2.kind == .calibration && e.2.state == .standby && e.2.stitch && e.2.leafLength == s.cart.code

/-- A cartridge that qualifies while a stitch is under way is present at its decode step (R160): its block is loaded, and the swap waits
for it. DEDUCED: log 115. -/
def requestCal (s : State) : State :=
  match s.gather.shadow with
  | none => s
  | some c =>
    if s.gather.calDue || (stitchCalPen s).isSome || s.gather.state == .restore then s
    else
      match stitchCal s c with
      | some e => enqueue (calJob .stitch true c e) { s with gather := { s.gather with calDue := true } }
      | none => s

/-- A dark decode begins inside the bridge: pens are dropped until the decode step's output fits. -/
def startDark (s : State) : State :=
  requestStitch (forgetDropped (reclaim s.gather.need (droppable s)
    { s with gather := { s.gather with state := .darkDecode } }))

/-- The bridge begins: the lasers of both ports go dark, and their compositors stop fetching. -/
def beginBridge (s : State) : State :=
  let t := stopReading .b (stopReading .a (closeGates
    { s with gather := { s.gather with bridge := true, bridgeDue := false, latched := none } }))
  if t.gather.dark then startDark t else startRamp t

/-! The swap (R168, R170). -/

/-- End the latches that a stitched gathering ends (R170), and the histories and counts that go with them. -/
def clearLatches (s : State) : State :=
  let port := fun (q : PortState) =>
    let freed := q.failedLatch || q.outOfService
    { q with failedLatch := false, outOfService := false, faults := [], restartDue := q.restartDue || freed }
  let slot := fun (k : Slot) => { k with onAlt := false, failed := false, failRun := 0, altRun := 0, preset := k.preset || k.onAlt || k.failed }
  let lamp := fun (l : Lamp) => { l with latched := false, eccDark := false, openRun := 0, shortRun := 0 }
  let dom := fun (e : DomainState × Nat) =>
    if e.1.quarantined && e.2 != 1 && e.2 != 2 then { e.1 with quarantined := false, held := true, resets := [] } else e.1
  { s with
    aon := { s.aon with balls := s.aon.balls.map forgetRun }
    beacon := { s.beacon with codeLatch := false }
    clocks := { s.clocks with crystalFailed := false, refinFailed := false, vrefAFailed := false, vrefBFailed := false,
                              vrefNoMajority := false }
    cart := { s.cart with chatter := false, failedLatch := false, uncalibrated := false, fails := 0, history := [],
                          packChatter := false, packHistory := [] }
    portA := port s.portA
    portB := port s.portB
    engine := { s.engine with loopFailed := false, tookOver := false, tableErrA := false, tableErrB := false,
                              slotsA := s.engine.slotsA.map slot, slotsB := s.engine.slotsB.map slot }
    lamp := { s.lamp with lamps := s.lamp.lamps.map lamp, rowOpen := [] }
    keeper := { s.keeper with domains := s.keeper.domains.zipIdx.map dom }
    emit := { s.emit with takeover := false, takeoverDue := false }
    gather := { s.gather with restoreFailed := false, reshowDue := false, retryDue := false } }

/-- The retry timers that a stitch starts: the cartridge's (R84, R86, R87) and the pack's (R88). -/
def swapRetries (packFreed : Bool) (s : State) : State :=
  let c := s.cart
  let t := if c.present && !c.qualified && !c.retry && !c.retryDue && !c.expiredDue && c.step == .idle && !lampOnly s then
      { s with cart := { c with retry := true } }
    else s
  if packFreed && t.pack.present then packLimit { t with pack := { t.pack with retry := true } } else packLimit t

/-- The canvas shape changes (10 R255): every live pen retires, and the frame being received or decoded will be discarded. -/
def swapCanvas (old : Store) (s : State) : State :=
  if [canvasFormat, canvasWidth, canvasHeight].all (sameField old (live s)) then s
  else
    let lives := (s.pens.list.filter fun e => e.2.kind == .live && e.2.state != .filling).map (·.1)
    let empty := fun (q : PortState) => { q with liveShown := none, liveTaken := none, liveSeen := false, liveStale := false, liveEmpty := false }
    let t := retirePens lives s
    fitReserve { t with portA := empty t.portA, portB := empty t.portB
                        canvas := { t.canvas with frame := t.canvas.frame.map fun r => { r with swapSeen := true }
                                                  job := t.canvas.job.map fun j => { j with swapSeen := true } } }

/-- A cartridge that has qualified meets a new generation: the block that the stitch has loaded goes into force, or, with no
entry for its code, the head runs lamp-only (R160). -/
def swapCalibration (oldGen : Nat) (s : State) : State :=
  if !s.cart.qualified || s.binding.live.gen == oldGen || lampOnly s then s
  else
    match stitchCalPen s with
    | some e => calInForce e.1 e.2.block s.cart.code s
    | none =>
      report evCartUncalibrated 2 s.cart.code
        (coastBoth { s with cart := { s.cart with qualified := false, uncalibrated := true, step := .idle } })

/-- A selection joins the lane takeover's end: an absent standby joins again (13 R323). -/
def swapStandby (s : State) : State :=
  if s.engine.standby == .absent && !domainHeld s .loopA && !domainHeld s .loopB then
    { s with engine := { s.engine with standby := .joining 0 } }
  else s

/-- The port that does not lead is held dark to its next frame boundary (R168). -/
def holdOther (s : State) : State :=
  match leadPort s with
  | some .a =>
    if s.portB.raster then updPort (closeGate .b (stopReading .b s)) .b fun q => { q with swapHold := true } else s
  | _ => s

/-- A stitch to an endpaper leaves the head lamp-only (06 R141): its ports coast, and its cartridge is no longer qualified. -/
def swapLampOnly (s : State) : State :=
  if lampOnly s then
    let t := dropCalJobs (coastBoth s)
    { t with cart := { t.cart with present := t.cart.present && !cartUnread t, qualified := false, step := .idle, retry := false,
                                   retryDue := false, expiredDue := false } }
  else s

/-- The swap: the stitch's configuration is in force, its entry is shown, the latches end, and the gathering is COMMITTED. -/
def swap (s : State) : State :=
  match s.gather.shadow with
  | none => s
  | some c =>
    let old := s.binding.live
    let e := s.gather.entry
    let b := { s.binding with live := c, readCopy := c.copy, twin := s.gather.shadowTwin, unreadable := false, reader := {}
                              spine := s.gather.shadowSpine, spineFailed := s.gather.shadowSpineFailed
                              laterFailed := s.gather.shadowLaterFailed, failed := s.gather.shadowFailed }
    let freed := s.cart.packChatter
    let m := { s.matrix with halves := !s.matrix.halves }
    let k := { s.cart with genChanged := s.cart.genChanged || c.gen != old.gen }
    let t1 := clearLatches { s with binding := b, matrix := m, cart := k }
    let t2 := swapLampOnly (swapCalibration old.gen t1)
    let t3 := showAll e (holdOther t2)
    let t4 := { t3 with select := { t3.select with
      current := e, lastShown := e, pending := if t3.select.pending == e then none else t3.select.pending } }
    let t5 := swapCanvas old.folios (followVertical c.folios (assignChannels t4))
    closeGather 1 0 (preloadRound (swapStandby (swapRetries freed t5)))

/-! The stitch boundary (R163). -/

/-- Every pen of the decode step is in STANDBY or SHOWN, and no word of the shadow half is being read again (16 Table 16-1). -/
def stitchHeld (s : State) : Bool :=
  !s.gather.calDue && !(s.mem.reading.toList ++ s.mem.waiting).contains .shadowFolio &&
    s.gather.shadow.all fun c => leavesHeld s c (s.gather.entry.elim [] fun n => entryLeaves s c n)

/-- Everything that the swap waits for is ready. -/
def swapReady (s : State) : Bool :=
  (s.gather.state == .swapWait || s.gather.state == .ramp) && (leftToRamp s).isEmpty && stitchHeld s

/-- The latch point of the lead port notes whether the frame boundary that follows will be eligible. -/
def latchStitch (p : Port) (s : State) : State :=
  if leadPort s == some p then { s with gather := { s.gather with latched := if swapReady s then some p else none } } else s

/-- A frame boundary of the lead port (R163 to R165): the swap when it is eligible, or the start of the bridge. -/
def stitchAtBoundary (p : Port) (s : State) : State :=
  if leadPort s != some p then s
  else if s.gather.latched == some p && swapReady s then swap s
  else if s.gather.bridgeDue then beginBridge s
  else s

/-- A row-frame start or yard tick that is the stitch boundary because no port runs. -/
def stitchAtTick (s : State) : State :=
  if (leadPort s).isSome then s
  else if swapReady s then swap s
  else if s.gather.bridgeDue then beginBridge s
  else s

end Sys2Proof.Machine
end

