-- ==== Sys2Proof/Machine/Jobs.lean ====
section
/-! DEFINITION. The leaf lane (08 R199 to R206, 06 R144): starting and ending a job, publication, failures, and the decode
step of a stitch (07 R160 to R162). -/

namespace Sys2Proof.Machine

open Sys2Proof

/-- What bounds a job's leaf (R184, R238). -/
def jobLimits (s : State) (c : Settings) (kind n i : Nat) : LeafLimits :=
  let bs := leafBounds s c n i
  { formatOk := fun f => kindFormat kind f && (fnat c.folios codecFormats).testBit (f - 1)
    widthOk := boundWidthOk bs, heightOk := boundHeightOk bs, maxSpace := none }

/-- The limits of a queued job. -/
def limitsOf (s : State) (j : Job) : LeafLimits := jobLimits s j.src j.kind j.entry j.leaf

/-- A job ends without publishing in one of three ways. -/
inductive JobEnd where
  | codec (e : CodecError)
  | read (reason : Nat)
  | noRoom

/-- What a requester does when its job ends without publishing (R201, R214). -/
def requesterFails (e : JobEnd) (r : Requester) (n : Nat) (s : State) : State :=
  match r with
  | .stitch =>
    rollback (match e with
      | .codec _ => 0x47
      | .read k => k
      | .noRoom => 0x44) s
  | .restore => restoreFails s
  | .pattern => refusePending n s
  | .recheck => s
  | .calibration => failQual true s
  | .preload => report evPreloadSkipped 0 n s

/-- The running job leaves the lane; its pen, if any, becomes FREE. -/
def endRunning (s : State) : State :=
  let t := match s.codec.running.bind (·.pen) with
    | some i => removePen i s
    | none => s
  promote { t with codec := { t.codec with running := none } }

/-- A job fails: its end is reported (R201), and every requester handles it. -/
def jobFails (e : JobEnd) (j : Job) (s : State) : State :=
  let err := match e with
    | .codec (k, _) => k
    | _ => 0
  let t := endedJob (some j.requester) j.leaf err (endRunning s)
  let u := match e with
    | .codec (k, off) => reportX evCodecError k j.leaf (some off) { t with codec := { t.codec with lastError := k } }
    | _ => t
  ((j.requester, j.entry) :: j.joined).foldl (fun v q => requesterFails e q.1 q.2 v) u

/-- A job ends without publishing by an error that is neither the codec's nor its read's: the report of R201 carries codec error NONE and
the leaf index, and the requester handles it as for a failed read. DESIGN CHOICE: log 111. -/
def jobBroken (j : Job) (s : State) : State := jobFails (.read rMemRead) j (report evCodecError 0 j.leaf s)

/-- A RESTORE decode or a retry of it has given a pen (R169). After a retry the content lights at the lead port's next frame
boundary. -/
def restoreGains (s : State) : State :=
  if s.gather.state == .closed && s.gather.restoreFailed then
    if leavesHeld s s.binding.live (shownLeaves s) then
      { s with gather := { s.gather with restoreFailed := false, reshowDue := (leadPort s).isSome } }
    else s
  else restoreProgress s

/-- A requester is given its pen. -/
def requesterGains (i : Nat) (r : Requester) (s : State) : State :=
  let t := holdPen r i s
  match r with
  | .restore => restoreGains t
  | .recheck => updPen t i fun q => { q with fresh := true }
  | .preload => if (penOf t i).any (fun q => wanted t q || q.state == .shown || q.stitch) then t else retirePen i t
  | _ => t

/-- Every requester of a job is given the pen that holds its leaf. -/
def jobGains (i : Nat) (j : Job) (s : State) : State :=
  ((j.requester, j.entry) :: j.joined).foldl (fun t q => requesterGains i q.1 t) s

/-- The other copy still serves as a twin: no gathering is open (R152). -/
def twinNow (s : State) : Bool := s.binding.twin && s.gather.state == .closed

/-- The recovery interval of a memory-port read error in schedule frames (Table 4-4). -/
def readRecovery (s : State) : Nat := 1000 * (25 * (fnat (live s) memportRetry + 1) + 1)

/-- The running job waits to be started again: its pen is FREE. -/
def rerun (j : Job) (s : State) : State :=
  let t := match j.pen with
    | some i => removePen i s
    | none => s
  { t with codec := { t.codec with running := some { j with pen := none, started := false } } }

/-- A read has failed for good (R144). -/
def readLost (reason : Nat) (j : Job) (s : State) : State :=
  let copy := if j.shadow then j.src.copy else s.binding.readCopy
  let t := report evMemReadError reason (copyNum copy)
    { s with binding := { s.binding with unreadable := s.binding.unreadable || !j.shadow } }
  jobFails (.read reason) j t

/-- The read of a job's item fails (R144): it is repeated, or the twin is checked and then read once, or it is lost. -/
def readFails (reason : Nat) (j : Job) (s : State) : State :=
  let t := if j.repeats = 0 && !j.fromTwin && twinNow s && !j.shadow then coverRead (readRecovery s) s else s
  if j.fromTwin then readLost reason j t
  else if j.repeats < fnat (live t) memportRetry then rerun { j with repeats := j.repeats + 1, lastReason := reason } t
  else if twinNow t && !j.shadow then
    let u := rerun { j with fromTwin := true, lastReason := reason } t
    pumpReads { u with mem := { u.mem with waiting := .twinCheck (otherCopy u.binding.readCopy) :: u.mem.waiting } }
  else readLost reason j t

/-- A twin check is under way or waits. -/
def twinChecking (s : State) : Bool :=
  (s.mem.reading.toList ++ s.mem.waiting).any fun m => match m with
    | .twinCheck _ => true
    | _ => false

/-! Starting. -/

/-- The job that the lane runs next: one that waits to start, the oldest queued, or a preload job when nothing else waits. -/
def nextJob (s : State) : Option (Job × Codec) :=
  match s.codec.running with
  | some j => if j.started then none else some (j, { s.codec with running := none })
  | none =>
    match s.codec.queue with
    | j :: rest => some (j, { s.codec with queue := rest })
    | [] =>
      match s.codec.preload with
      | j :: rest => some (j, { s.codec with preload := rest })
      | [] => none

def setRunning (j : Job) (s : State) : State := { s with codec := { s.codec with running := some j } }

/-- The pen kind of a leaf kind. -/
def penKindOf (kind : Nat) : PenKind :=
  match kind with
  | 0 => .guide
  | 1 => .signal
  | 2 => .lampMask
  | _ => .calibration

/-- Allocate a job's pen and start it. -/
def allocateJob (blocks : Nat) (j : Job) (s : State) : State :=
  let held := j.requester == .stitch || j.requester == .restore
  let q : Pen := { kind := penKindOf j.kind, state := .filling, blocks := allocBlocks s.pens blocks, crc := j.crc,
                   leafLength := if isCalJob j then j.leaf else j.leafLength, leafKind := j.kind, stitch := held
                   forStitch := j.requester == .stitch }
  let r := addPen q s
  setRunning { j with pen := some r.1, started := true } r.2

/-- A job that may reclaim STANDBY pens (R213): none of a stitch, of a RESTORE inside a gathering, or of a preload. -/
def mayReclaim (s : State) (j : Job) : Bool :=
  j.requester != .stitch && j.requester != .preload && (j.requester != .restore || s.gather.state == .closed)

/-- Ask the allocator for a job's blocks (R212 to R214). -/
def placeJob (blocks : Nat) (j : Job) (s : State) : State :=
  if j.requester == .preload && j.joined.isEmpty && roomBlocks s.pens < blocks + fnat (live s) pensHeadroom then
    report evPreloadSkipped 0 j.entry (promote s)
  else
    let t := if mayReclaim s j then reclaim blocks (reclaimable s) s else s
    if roomBlocks t.pens < blocks then
      jobFails .noRoom j (report evNoRoom 0 (blocks - roomBlocks t.pens) (setRunning { j with pen := none } t))
    else if (freeBlocks t.pens).length < blocks then setRunning { j with started := false } t
    else allocateJob blocks j t

/-- Start a job with the header that its read gives. A leaf that a pen holds is given at once (R203). A header that fails
starts no pen; its error is judged when the whole leaf has been read (R199). -/
def startJob (header : List Byte) (j : Job) (s : State) : State :=
  if isCalJob j then placeJob 1 j s
  else
    match if j.requester == .recheck then none else penWith s (jobKey j) with
    | some i => jobGains i j (promote s)
    | none =>
      if (leafHeaderError (limitsOf s j) header j.leafLength).isSome then setRunning { j with started := true } s
      else placeJob (leafOutSpace header) j s

/-- The `CODEC` fields that a job takes as its lane starts it (R205); one that only starts again keeps them. -/
def takeCodec (st : Store) (fresh : Bool) (c : Codec) : Codec :=
  if fresh then
    { c with depth := fnat st codecQueueDepth, rdBurst := fnat st codecRdBurst, wrBurst := fnat st codecWrBurst }
  else c

/-- LEAF_JOB_START (R200): the lane's next job. A job that waits for the twin's check waits on. -/
def execLeafJobStart (header : List Byte) (s : State) : Out :=
  match nextJob s with
  | none => .next s
  | some (j, k) =>
    let c := takeCodec (live s) s.codec.running.isNone k
    guarded (sysRuns s && busFree s && !(j.fromTwin && twinChecking s)) s
      (promote (startJob header j (issueReads (jobSpans s j) { s with codec := c })))

/-! Ending. -/

/-- A job publishes its pen (R200). -/
def publish (img : Image) (block : List Byte) (j : Job) (s : State) : State :=
  match j.pen with
  | none => s
  | some i =>
    let t := updPen s i fun q => { q with state := .standby, image := img, block, shownAt := s.keeper.ticks }
    jobGains i j (promote { t with codec := { t.codec with running := none } })

/-- LEAF_JOB_END (R199, R200): a failed read first, then the codec's own error, then publication. A read that ends without `VDDIO_M` has
failed (02 R31). -/
def execLeafJobEnd (data trailer : List Byte) (readOk : Bool) (s : State) : Out :=
  match s.codec.running with
  | none => .next s
  | some j =>
    let reason := itemReason s.fuses j.src 0 j.leaf j.crc data trailer (readOk && s.supply.ringM)
    let t :=
      if reason != 0 then readFails reason j s
      else
        match decodeLeaf (limitsOf s j) data with
        | .error e => jobFails (.codec e) j s
        | .ok img => publish img [] j s
    guarded (sysRuns s && busFree s && j.started && !isCalJob j) s t

/-- A calibration block that has been read goes where it was wanted (R84, R160). -/
def useCalibration (block : List Byte) (j : Job) (s : State) : State :=
  match j.pen with
  | none => s
  | some i =>
    let t := publish {} block j s
    if j.requester == .stitch then { t with gather := { t.gather with calDue := false } }
    else if j.requester == .recheck then (if t.emit.calCode == j.leaf then calInForce i block j.leaf t else retirePen i t)
    else if t.cart.step == .calibration && t.cart.code == j.leaf then thermStep (calInForce i block j.leaf t)
    else retirePen i t

/-- CALIBRATION_LOAD_DONE (R206, R295, R340, R388, 02 R31). -/
def execCalibrationLoadDone (block trailer : List Byte) (readOk : Bool) (s : State) : Out :=
  match s.codec.running with
  | none => .next s
  | some j =>
    let c := j.src
    let reason := itemReason s.fuses c 1 j.leaf j.crc block trailer (readOk && s.supply.ringM)
    let t :=
      if reason != 0 then readFails reason j s
      else if calRangeOk c.folios block && calFits s c.folios block then useCalibration block j s
      else jobFails (.read rCalCheck) j s
    guarded (sysRuns s && busFree s && j.started && isCalJob j) s t

/-! The decode step (07 R160 to R162). -/

/-- Every pen and block of the decode step is there. -/
def decodeComplete (s : State) : Bool :=
  match s.gather.shadow with
  | none => false
  | some c =>
    (s.gather.state == .decode || s.gather.state == .darkDecode) && !s.gather.bridgeDue && !s.gather.calDue &&
      leavesHeld s c (s.gather.entry.elim [] fun n => entryLeaves s c n)

/-- STITCH_DECODE_DONE: the swap is awaited, the bridge is due, or, in a dark decode, the ramps start. -/
def execStitchDecodeDone (s : State) : Out :=
  let t :=
    if s.gather.state == .darkDecode then startRamp s
    else if s.gather.changed.isEmpty then { s with gather := { s.gather with state := .swapWait } }
    else { s with gather := { s.gather with bridgeDue := true } }
  guarded (sysRuns s && decodeComplete s) s t

/-- DECODE_LIMIT_EXPIRED (R162). -/
def execDecodeLimitExpired (s : State) : Out :=
  guarded (sysRuns s && (s.gather.state == .decode || s.gather.state == .darkDecode) && !s.gather.bridgeDue) s
    (rollback 0x45 s)

end Sys2Proof.Machine
end

