-- ==== Sys2Proof/Machine/Power.lean ====
section
/-! DEFINITION. Supplies, resets and waking (02 R25 to R32, 04 R70 to R79, 05 R100, 18 R410): the validity of each supply, the
core's reset and release, the lock of the PLLs, the live configuration's start, and lamp-only service. -/

namespace Sys2Proof.Machine

open Sys2Proof

/-! Supplies. -/

/-- VIN_VALID (R410). -/
def execVinValid (s : State) : Out :=
  guarded (!s.supply.vin) s { s with supply := { s.supply with vin := true } }

/-- AON_UP (R43). -/
def execAonUp (s : State) : Out :=
  guarded (s.supply.vin && !s.supply.aonUp) s { s with supply := { s.supply with aonUp := true } }

/-- VIN_INVALID (R410, R390): nothing but the fuses outlives the loss. The rails of the status ring and of the mirrors are
outside the part. -/
def execVinInvalid (s : State) : Out :=
  guarded s.supply.vin s
    { State.reset with
      fuses := s.fuses, free := s.free + 1, pending := s.pending
      clocks := { State.reset.clocks with switches := s.clocks.switches }
      supply := { State.reset.supply with ringHAbove := s.supply.ringHAbove, vmir := s.supply.vmir } }

/-- VDDIO_H_VALID (R27, R28). -/
def execVddioHValid (level33 : Bool) (s : State) : Out :=
  guarded (s.supply.aonUp && s.supply.ringHAbove && !s.supply.ringH) s
    { s with supply := { s.supply with ringH := true, ringH33 := level33 } }

/-- VDDIO_H_INVALID (R28, R29): the ring has stayed below its threshold. -/
def execVddioHInvalid (s : State) : Out :=
  guarded (s.supply.ringH && !s.supply.ringHAbove) s (coreReset { s with supply := { s.supply with ringH := false } })

/-- VDDIO_H_THRESHOLD_CROSSED (R30). -/
def execVddioHThresholdCrossed (above : Bool) (s : State) : Out :=
  .next { s with supply := { s.supply with ringHAbove := above } }

/-- VMIR_LOW (R32): both ports coast and guide light ends. It is no removal. A cartridge that had qualified, or whose
qualification had reached its mirror start, waits at the mirror start. -/
def execVmirLow (s : State) : Out :=
  let t := { s with supply := { s.supply with vmir := false } }
  let u := coastBoth t
  let late := u.cart.qualified || u.cart.step == .mirror || u.cart.step == .photodiodes
  let v := if late then setStep .mirror (freshPorts { u with cart := { u.cart with qualified := false } }) else u
  guarded s.supply.vmir s (if running s then v else t)

/-- VMIR_RESTORED (R32): the mirror start and what follows it run afresh. -/
def execVmirRestored (s : State) : Out :=
  guarded (!s.supply.vmir) s { s with supply := { s.supply with vmir := true } }

/-! Core reset. -/

/-- RST_N_ASSERT (R75, R76). -/
def execRstNAssert (lowNs : Nat) (s : State) : Out :=
  let r := pulse s lowNs 250 1000
  guarded s.supply.vin s (if r.1 then coreReset r.2 else r.2)

/-- KEEPER_RESTART (R79): as if `RST_N` had been pulsed; it is reported after the restart. -/
def execKeeperRestart (s : State) : Out :=
  guarded (running s) s
    (let t := coreReset s
     { t with keeper := { t.keeper with restarted := true } })

/-! Core release (R25, R46 to R48, R58 to R60, R70, R74). -/

/-- The reports for one code ball at the release. A `CODE_CART` that `PSEL[2]` keeps from being read is not reported as unreadable, which
R46 does not say. DESIGN CHOICE: log 112. -/
def releaseBall (b : CodeBall) (s : State) : State :=
  let q := s.aon.balls.getD (ballIndex b) {}
  match heldCode s b with
  | none =>
    if b == .cart && strap s 2 then s
    else report evCodeUnreadable (((q.last.getD none)).getD 255) (ballIndex b + 1) s
  | some c => if reservedCode b c then report evCodeReserved c (ballIndex b + 1) s else s

/-- The reports for the reserved straps; AUX is 1, where the manual gives none. DESIGN CHOICE: log 112. -/
def releaseStraps (s : State) : State :=
  let one := fun (t : State) (k : Nat) => if strap t k then report evStrapReserved 1 k t else t
  one (one s 4) 5

/-- The events that the always-on domain found during the reset. -/
def releaseWaiting (s : State) : State :=
  let t := s.aon.waiting.foldl (fun u e => report e.1 e.2.1 e.2.2 u) s
  { t with aon := { t.aon with waiting := [] } }

/-- The table pen and the live reserve, sized with the endpaper's `CANVAS` values (R209, R252). -/
def releasePens (s : State) : State :=
  let r := addPen { kind := .table, state := .shown, blocks := allocBlocks s.pens 1 } s
  fitReserve r.2

/-- The bus at the release (R25, R60, R118): the host's while it holds it or owes a boot hold; otherwise the flash is reset. -/
def releaseBus (holdLow : Bool) (s : State) : State :=
  let boot := strap s 3
  let held := holdLow || boot
  { s with mem :=
    { s.mem with ackLow := held, bootHold := boot, bootLow := boot && holdLow, mode := (clkFirst (clkCode s)).1,
                 mhz := (clkFirst (clkCode s)).2, flashReset := if held then .none else .low } }
where
  /-- The first read's mode and clock (Table 3-5). -/
  clkFirst (c : Nat) : MemMode × Nat :=
    if c = 3 || c = 7 || c = 11 then (.d8, 100) else (.s1, 25)

/-- A pack present at the release and not yet identified is identified at once (R74). -/
def releasePack (s : State) : State :=
  let p := s.pack
  if p.present && !p.identRead && !p.unidentified && !p.detecting then
    packLimit (startDetection { s with pack := { p with expiredDue := false } })
  else s

/-- CORE_RELEASE (R70). -/
def execCoreRelease (r : ReleasePins) (s : State) : Out :=
  let straps := majority r.psel1 r.psel2 r.psel3
  let t0 : State :=
    { s with
      core := { s.core with inReset := false, held := s.aon.balls.map (·.accepted), straps }
      pins := { s.pins with abortLow := r.abortLow, killLow := r.killLow, manualLow := r.manualLow, holdLow := r.holdLow } }
  let t1 := releaseWaiting (releaseStraps (allBalls.foldl (fun t b => releaseBall b t) t0))
  let t2 := if t1.keeper.restarted then
      report evKeeperRestart 0 255 { t1 with keeper := { t1.keeper with restarted := false } }
    else t1
  let present := r.detLow && s.aon.cartAgree.isSome && !straps.getLsbD 2
  let t3 := if present then
      { t2 with cart := { t2.cart with present := true, code := s.aon.cartAgree.getD 0 } }
    else t2
  guarded (s.supply.vin && s.supply.aonUp && s.supply.ringH && s.core.inReset && 2 ≤ s.aon.passes) s
    (releaseBus r.holdLow (releasePens (releasePack t3)))

/-! The PLLs (R100). -/

/-- `CODE_CLK` declares `REFIN` fitted. -/
def refinDeclared (s : State) : Bool := 4 ≤ clkCode s && clkCode s ≤ 11

/-- The deviation of a rate from its nominal in ppm. -/
def ppmOf (hz nominal : Nat) : Int := if nominal = 0 then 0 else roundNear (1000000 * ((hz : Int) - nominal)) nominal

/-- A deviation as an event carries it, saturating at 255. -/
def satDev (d : Int) : Nat := min 255 d.natAbs

/-- PLL_LOCKED (R100): to the crystal within ±3 % of 24 MHz, otherwise to the ring; and the toggle check of `REFIN`. A failed toggle check
is reported with AUX 255, and the fallback with the crystal as its subject; the manual gives no deviation and no subject there. DESIGN CHOICE:
log 112. -/
def execPllLocked (crystalHz refinHz : Nat) (s : State) : Out :=
  let good := 23280000 ≤ crystalHz && crystalHz ≤ 24720000
  let toggles := 10000000 ≤ refinHz
  let t := { s with
    core := { s.core with plls := true }
    clocks := { s.clocks with selected := if good then .crystal else .ring, crystalHz, refinHz, refinToggles := toggles
                              pllNominal := if good then 24000000 else 120000000 } }
  let u := if good then t else report evRefStartFallback (satDev (ppmOf crystalHz 24000000)) 0 t
  let v := if refinDeclared s && !toggles then
      report evRefSpareFailed 255 1 { u with clocks := { u.clocks with refinFailed := true } }
    else u
  guarded (running s && !s.core.plls) s v

/-! The live configuration at start-up. -/

/-- The nominal frequency of a source in Hz: of `REFIN` as `CLOCK.REFIN_KHZ` states it (R99), of the ring 120 MHz (R107). -/
def nominalHz (st : Store) : RefSource → Nat
  | .crystal => 24000000
  | .refin => 1000 * fnat st clockRefinKhz
  | .ring => 120000000

/-- The output frequencies of PLL_E, PLL_S, PLL_M and PLL_L in Hz (Table 5-1). -/
def pllOutputs (s : State) : List Nat := [400000000, 200000000, 1000000 * s.mem.mhz, 48000000]

/-- The divider words of the reference-fed PLLs, as exact ratios of output to reference (R106). -/
def pllDividers (s : State) : List Frac := (pllOutputs s).map fun f => ⟨f, s.clocks.pllNominal⟩

/-- A switch to a source (R106): the divider words for its nominal frequency, and its phase against each PLL captured. The slew to the new
target, at most 100 ppm per µs, is over within 10 µs (log entry 2). -/
def retarget (st : Store) (r : RefSource) (c : Clocks) : Clocks :=
  { c with selected := r, holdover := false, lost := none, pllNominal := nominalHz st r
           phases := (List.range 4).map (Config.refPhase c.switches), switches := c.switches + 1 }

/-- A hitless switch (R106): a covered fault of 10 µs. -/
def switchRef (r : RefSource) (s : State) : State := coverFault 10 255 { s with clocks := retarget (live s) r s.clocks }

/-- The validation of `CLOCK` (R99 to R101): `REFIN` is taken as fitted or ignored, and on codes 8 to 11 becomes the selected
reference, by a hitless switch, when it then agrees with the crystal. REF_CONFIG carries AUX 0 and the subject `REFIN`: R99 measures no
deviation. DESIGN CHOICE: log 112. -/
def startClock (s : State) : State :=
  let khz := fnat (live s) clockRefinKhz
  let declared := refinDeclared s
  let fitted := declared && khz != 0
  let t := { s with clocks := { s.clocks with refinFitted := fitted, windows := 0 } }
  let u := if declared != (khz != 0) then report evRefConfig 0 1 t else t
  if fitted && namedRef u == .refin && !u.clocks.refinFailed then
    let d := Config.refinDeviation u.free
    if d.natAbs ≤ fnat (live u) clockTolPpm then switchRef .refin u
    else report evRefSpareFailed (satDev d) 1 { u with clocks := { u.clocks with refinFailed := true } }
  else u

/-- A cartridge present at core release goes on from its calibration step once the folios are validated (R74). -/
def startCartridge (s : State) : State :=
  if s.cart.present && s.cart.code != 0 && s.cart.step == .idle && mayQualify s then calStep s.cart.code s else s

/-- A configuration becomes live at start-up; with a flash endpaper the cartridge is not read (06 R141). -/
def goLive (b : Binding) (s : State) : State :=
  let unread := b.live.origin == .flashEndpaper
  let st := b.live.folios
  let k := { s.codec with depth := fnat st codecQueueDepth, rdBurst := fnat st codecRdBurst, wrBurst := fnat st codecWrBurst
                          rdCanvas := fnat st codecRdBurst, wrCanvas := fnat st codecWrBurst }
  let t := { s with binding := b, core := { s.core with folios := true }, codec := k
                    cart := { s.cart with present := s.cart.present && !unread } }
  startCartridge (startClock (packLimit (assignChannels (fitReserve (followVertical b.live.folios t)))))

/-- The built-in endpaper (R141). -/
def builtin : Settings := {}

/-- MEM_SUPPLY_TIMEOUT (R31); in a boot hold the part waits without time limit (R60). -/
def execMemSupplyTimeout (s : State) : Out :=
  let t := { s with core := { s.core with noBinding := true }
                    mem := { s.mem with reading := none, waiting := [] } }
  guarded (running s && !s.supply.ringM && !s.core.folios && !s.mem.bootHold) s (report evMemSupply 0 0 (goLive { live := builtin } t))

/-! Lamp-only service (R73, R245, R356). -/

/-- The forward voltage of a lamp at 25 °C in mV (R346). -/
def vf25 (st : Store) (i : Nat) : Int :=
  fval st lampcalVfBase + fval st lampcalVfStep * fval st (lampcalVf i)

/-- The lamp field starts. -/
def startLamps (s : State) : State :=
  let st := live s
  match geometry s st with
  | none => s
  | some (r, c) =>
    { s with lamp :=
      { s.lamp with running := true, dark := s.pins.killLow, rows := r, cols := c, fields := st
                    lamps := (List.range (r * c)).map fun i => { vf := vf25 st i } } }

/-- LAMP_ONLY_SERVICE_START (R73): `STAT` 1, `READY` high, the lamp field runs, entry 0 is pending when it is used, and a
preload round is queued (R214). -/
def execLampOnlyServiceStart (s : State) : Out :=
  let t := startLamps { s with core := { s.core with service := true } }
  let u := if entryUsed t.binding.live 0 then selectEntry 0 t else t
  guarded (sysRuns s && s.core.plls && s.core.folios && !s.core.service) s (preloadRound u)

end Sys2Proof.Machine
end

