-- ==== Sys2Proof/Machine/Memport.lean ====
section
/-! DEFINITION. The memory port and the binding reader (06): the flash's reset, holds and status polls, the selection of a
signature (R138), twins (R143, R144), and the reads of a stitch's validate step. -/

namespace Sys2Proof.Machine

open Sys2Proof

def updReader (f : Reader → Reader) (s : State) : State :=
  { s with binding := { s.binding with reader := f s.binding.reader } }

/-- Ask for reads, in order. -/
def askReads (l : List MemItem) (s : State) : State :=
  pumpReads { s with mem := { s.mem with waiting := s.mem.waiting ++ l } }

/-! The selection (R138). -/

/-- A selection begins with both spine copies, the one that COPY_PREF names first (03 Table 3-8). -/
def beginSelection (stitch : Bool) (s : State) : State :=
  askReads [.spine (copyPref s), .spine (otherCopy (copyPref s))] (updReader (fun _ => { phase := .spines, stitch, n := toolCode s }) s)

/-- The rates of `CK_MEM` (Table 5-1). -/
def memRates : List Nat := [25, 50, 100, 133, 166, 200]

/-- The raised mode, its rate, and whether it is clamped (Table 6-2). -/
def raisedMode (clk memMode mhz : Nat) : MemMode × Nat × Bool :=
  let octal := clk == 3 || clk == 7 || clk == 11
  let ceil := if octal then 200 else if clk == 0 || clk == 4 || clk == 8 then 100 else 133
  let top := min mhz ceil
  let rate := (memRates.filter fun r => r ≤ top).foldl max 25
  let mode := if octal then MemMode.d8 else if memMode = 0 then .s1 else .s4
  let clamped := (if octal then memMode != 2 else memMode == 2) || ceil < mhz
  (mode, rate, clamped)

/-- The move to the raised mode at start-up (R120). -/
def raiseMode (sp : Spine) (s : State) : State :=
  let r := raisedMode (clkCode s) sp.memMode sp.memMhz
  let t := { s with mem := { s.mem with mode := r.1, mhz := r.2.1, raised := true } }
  if r.2.2 then report evMemModeClamped 0 0 t else t

/-- The entry searched. -/
def entryOf (s : State) : List Byte := ((chosenSpine s).map fun sp => sp.entries.getD s.binding.reader.n []).getD []

/-- A spine copy of this selection has failed. -/
def spineLost (s : State) : Bool := s.binding.reader.spineA.isNone || s.binding.reader.spineB.isNone

/-- The copies rejected in this selection (R143). -/
def rejectedCopies (s : State) : List Copy := s.binding.reader.rejected.map (·.1)

/-- A copy rejected in this selection was later than a generation, or of unknown generation (R145). -/
def laterLost (s : State) (gen : Nat) : Bool :=
  s.binding.reader.rejected.any fun e => match e.2.1 with
    | some g => later g gen
    | none => true

/-- The start-up selection ends with a configuration. -/
def startUpEnds (c : Settings) (twin : Bool) (s : State) : State :=
  goLive { live := c, twin, readCopy := c.copy, spineFailed := spineLost s, laterFailed := c.origin != .builtin && laterLost s c.gen
           failed := rejectedCopies s, spine := chosenSpine s } s

/-- A leaf-lane job is already filling a pen with the leaf of a table entry (08 R203). -/
def fillingLeaf (s : State) (e : LeafEntry) : Bool :=
  (laneJobs s).any fun j => j.pen.isSome && sameLeaf j { leafLength := e.length, crc := e.crc, kind := e.kind }

/-- The first index of each leaf of a list: leaves of equal `LENGTH`, `CRC` and `KIND` are decoded once (08 R203). -/
def distinctLeaves (c : Settings) : List Nat → List Nat
  | [] => []
  | i :: rest =>
    let same := fun (k : Nat) => (leafOf c k).length == (leafOf c i).length && (leafOf c k).crc == (leafOf c i).crc && (leafOf c k).kind == (leafOf c i).kind
    i :: (distinctLeaves c rest).filter fun k => !same k

/-- The leaves that a stitch's decode step will decode: those of its entry that no pen holds and no job fills, each once. -/
def leavesToDecode (s : State) (c : Settings) (n : Option Nat) : List Nat :=
  distinctLeaves c ((n.elim [] fun k => entryLeaves s c k).filter fun i =>
    (penWith s (leafOf c i)).isNone && !fillingLeaf s (leafOf c i))

/-- The entry that the decode step decodes (07 R160), and whether it was the pending one. -/
def stitchEntry (s : State) (c : Settings) : Option Nat × Bool :=
  let shown := shownOrLast s
  match s.gather.pendingAt, shown with
  | some p, _ =>
    if entryUsed c p then (some p, true)
    else match shown with
      | some e => if entryUsed c e then (some e, false) else (none, false)
      | none => (none, false)
  | none, some e => if entryUsed c e then (some e, false) else (none, false)
  | none, none => (none, false)

/-- A stitch's selection has found a configuration: with no B field changed, the leaf headers and the calibration block that
the decode step needs are read (08 R202, 16 R388). -/
def stitchFound (c : Settings) (s : State) : State :=
  let e := stitchEntry s c
  let t := { s with gather := { s.gather with entry := e.1, wasPending := e.2 } }
  let items := if bootChanged (live s) c.folios then []
    else (leavesToDecode t c e.1).map .leafHeader ++ (stitchCal t c).toList.map fun k => .calBlock k.code
  if items.isEmpty then updReader (fun r => { r with phase := .done }) t
  else askReads items (updReader (fun r => { r with phase := .leafHeaders }) t)

/-- The selection ends. -/
def endSelection (c : Option Settings) (twin : Bool) (s : State) : State :=
  let t := updReader (fun r => { r with found := c, foundTwin := twin, phase := .done }) s
  if s.binding.reader.stitch then
    match c with
    | some k => stitchFound k t
    | none => t
  else startUpEnds (c.getD builtin) (c.isSome && twin) t

/-- An empty entry is passed over: reported with its reason (R139, R141); it has no copy, and the subject is 0xFF.
DESIGN CHOICE, safe: log 17. -/
def reportEmpty (s : State) : State := report evSigFallback rEntryEmpty 255 s

/-- Search an entry: its headers are read, or there is nothing left to search. -/
def searchEntry (n : Nat) (s : State) : State :=
  let t := updReader (fun r => { r with n, headerA := none, headerB := none, order := [], rejected := [], phase := .headers }) s
  if entryEmpty (entryOf t) then
    endSelection none false (reportEmpty
      (updReader (fun r => { r with firstReason := if r.firstReason = 0 then rEntryEmpty else r.firstReason }) t))
  else askReads [.header (copyPref s), .header (otherCopy (copyPref s))] t

/-- Both spine copies have been read. -/
def spinesRead (s : State) : State :=
  match chosenSpine s with
  | none => endSelection none false s
  | some sp =>
    let t := updReader (fun r => { r with firstReason := 0 }) (if s.binding.reader.stitch then s else raiseMode sp s)
    let n := toolCode t
    let tool := entryOf (updReader (fun r => { r with n }) t)
    if n = 255 then searchEntry 255 t
    else if entryEmpty tool then searchEntry 255 (reportEmpty t)
    else searchEntry n t

/-- A copy is rejected: reported (R139) and remembered. -/
def rejectCopy (c : Copy) (reason : Nat) (s : State) : State :=
  report evSigFallback reason (copyNum c)
    (updReader (fun r => { r with rejected := r.rejected ++ [(c, (headerOf r c).map hdrGen, reason)]
                                  firstReason := if r.firstReason = 0 then reason else r.firstReason }) s)

/-- The region of a copy of the entry searched. -/
def regionOf (s : State) (c : Copy) : Nat := entrySize (entryOf s) c

/-- The header checks of a copy. -/
def headerCheck (s : State) (c : Copy) : Nat :=
  match headerOf s.binding.reader c with
  | none => rMemRead
  | some h => headerReason h s.binding.reader.n c (regionOf s c)

/-- Copies of the order whose header fails are rejected; the first whose header passes has its directory read. -/
def examine : List Copy → State → State
  | [], s =>
    if s.binding.reader.n = 255 then endSelection none false s else searchEntry 255 s
  | c :: rest, s =>
    let k := headerCheck s c
    if k = 0 then
      askReads [.directory c] (updReader (fun r => { r with order := rest, phase := .directory }) s)
    else examine rest (rejectCopy c k s)

/-- The order of the copies (R138). -/
def copyOrder (s : State) : List Copy :=
  let r := s.binding.reader
  let pref := copyPref s
  match r.headerA, r.headerB with
  | some a, some b =>
    if later (hdrGen a) (hdrGen b) then [.a, .b] else if later (hdrGen b) (hdrGen a) then [.b, .a]
    else [pref, otherCopy pref]
  | some _, none => [.a, .b]
  | none, some _ => [.b, .a]
  | none, none => [pref, otherCopy pref]

/-- A copy has passed every check: its twin is tested (R143), by its colophon where the selection has not read it. -/
def copyPasses (k : Settings) (s : State) : State :=
  let o := otherCopy k.copy
  let r := s.binding.reader
  let possible := headerCheck s o == 0 && (headerOf r o).map hdrGen == some k.gen &&
    !(r.rejected.any fun e => e.1 == o)
  if possible then
    askReads [.twinColophon o] (updReader (fun q => { q with found := some k, phase := .twin }) s)
  else endSelection (some k) false s

/-- A directory with its colophon has been read. -/
def directoryRead (c : Copy) (data : Option (List Byte)) (s : State) : State :=
  let len := ((headerOf s.binding.reader c).map hdrDirLen).getD 0
  let reason := match data with
    | none => rMemRead
    | some d => copyReason s s.binding.reader.stitch (d.take len) (slice d len 32) (regionOf s c)
  if reason = 0 then copyPasses (settingsOf ((data.getD []).take len) (slice (data.getD []) len 32)) s
  else examine s.binding.reader.order (rejectCopy c reason s)

/-! Twin checks at run time (R144, 07 R152). -/

/-- The running job waits for the twin's check. -/
def waitsTwin (s : State) : Option Job := s.codec.running.filter fun j => j.fromTwin && !j.started

/-- A re-read header and colophon still have the live `GENERATION` and `DIR_CRC` (R144). -/
def twinSame (s : State) (d : List Byte) : Bool :=
  hdrGen d == s.binding.live.gen && rd d (128 + 8) 4 == s.binding.live.dirCrc

/-- The other copy meets R143 against the live copy (07 R152): it failed no check of the live selection, its header passes every check in
its region, and its generation and `DIR_CRC` are the live copy's. -/
def twinMeets (s : State) (c : Copy) (d : List Byte) : Bool :=
  let k := s.binding.live
  let region := entrySize ((s.binding.spine.map fun p => p.entries.getD k.tool []).getD []) c
  !s.binding.failed.contains c && headerReason (d.take 128) k.tool c region == 0 && twinSame s d

/-- The other copy's header and colophon have been read: for a job it becomes the reading copy, after a gathering the twin. While a
gathering is open there is no twin (07 R152). -/
def twinRead (c : Copy) (data : Option (List Byte)) (s : State) : State :=
  let closed := s.gather.state == .closed
  match waitsTwin s with
  | some j =>
    let t := { s with binding := { s.binding with twin := false } }
    if closed && data.any (twinSame s) then
      report evMemCopySwitch j.lastReason (copyNum c) { t with binding := { t.binding with readCopy := c } }
    else readLost j.lastReason j t
  | none => { s with binding := { s.binding with twin := closed && data.any (twinMeets s c) } }

/-! Reads (R121). -/

/-- A leaf header or the calibration block of a validate step: a read that fails, by its check value or tag too (R121), is repeated, and
then fails for good with its reason (R144). -/
def looseFailed (m : MemItem) (reason : Nat) (s : State) : State :=
  let r := s.binding.reader
  if r.tries < fnat (live s) memportRetry then
    updReader (fun q => { q with tries := q.tries + 1 }) { s with mem := { s.mem with waiting := m :: s.mem.waiting } }
  else
    report evMemReadError reason (copyNum ((r.found.map (·.copy)).getD .a))
      (updReader (fun q => { q with tries := 0, leafFailed := if q.leafFailed.isSome then q.leafFailed else some reason }) s)

/-- A folio of the shadow half that is read again after an uncorrectable error (16 Table 16-1): what it holds is what was
validated; a read that fails is repeated, and then ends the stitch. -/
def shadowFolioRead (data : Option (List Byte)) (s : State) : State :=
  match data with
  | some _ => updReader (fun q => { q with tries := 0 }) s
  | none =>
    let c := (s.gather.shadow.or s.binding.reader.found).map (·.copy)
    if s.gather.state == .closed then s
    else if s.binding.reader.tries < fnat (live s) memportRetry then
      updReader (fun q => { q with tries := q.tries + 1 })
        { s with mem := { s.mem with waiting := .shadowFolio :: s.mem.waiting } }
    else
      let t := report evMemReadError rMemRead (copyNum (c.getD .a)) s
      if t.gather.state == .validate || t.gather.state == .opened then rejectStitch rMemRead t else rollback rMemRead t

/-- The reads of the validate step end with the last one. -/
def validateReads (s : State) : State :=
  if s.mem.waiting.any (fun m => match m with
      | .leafHeader _ => true
      | .calBlock _ => true
      | _ => false) then s
  else updReader (fun r => { r with phase := .done }) s

/-- The check value and tag of a stitch's calibration block, whose failure is a failed read (R121). -/
def calReadReason (s : State) (c : Settings) (code : Nat) (d : List Byte) : Nat :=
  itemReason s.fuses c 1 code (((calEntry c code).map (·.crc)).getD 0) (d.take 192) (slice d 192 16) true

/-- The check of a stitch's calibration block that has been read: its ranges, and R388. -/
def calBlockReason (s : State) (c : Settings) (d : List Byte) : Nat :=
  let block := d.take 192
  if !calRangeOk c.folios block then rCalCheck
  else if !calFits s c.folios block then rConsistency
  else 0

/-- An item has been read, or its read has failed. -/
def finishRead (m : MemItem) (data : Option (List Byte)) (s : State) : State :=
  match m with
  | .spine c =>
    let reason := (data.map spineReason).getD rMemRead
    let sp := if reason = 0 then data.map spineOf else none
    let t := match c with
      | .a => updReader (fun r => { r with spineA := sp }) s
      | .b => updReader (fun r => { r with spineB := sp }) s
    let u := if reason = 0 then t
      else report evSigFallback reason (copyNum c)
        (updReader (fun r => { r with firstReason := if r.firstReason = 0 then reason else r.firstReason }) t)
    if c == copyPref s then u else spinesRead u
  | .header c =>
    let t := match c with
      | .a => updReader (fun r => { r with headerA := data }) s
      | .b => updReader (fun r => { r with headerB := data }) s
    if c == copyPref s then t else examine (copyOrder t) t
  | .directory c => directoryRead c data s
  | .twinColophon _ =>
    match s.binding.reader.found with
    | none => s
    | some k => endSelection (some k) (data.any fun d => rd d 8 4 == k.dirCrc) s
  | .leafHeader i =>
    match data with
    | none => validateReads (looseFailed m rMemRead s)
    | some d => validateReads (updReader (fun r => { r with leafHeaders := r.leafHeaders ++ [(i, d)], tries := 0 }) s)
  | .calBlock code =>
    match data, s.binding.reader.found with
    | some d, some c =>
      let k := calReadReason s c code d
      validateReads (if k = 0 then updReader (fun r => { r with calReason := calBlockReason s c d, tries := 0 }) s
        else looseFailed m k s)
    | _, _ => validateReads (looseFailed m rMemRead s)
  | .twinCheck c => twinRead c data s
  | .shadowFolio => shadowFolioRead data s

/-- The read in progress ends. -/
def endRead (data : Option (List Byte)) (s : State) : State :=
  match s.mem.reading with
  | none => s
  | some m => pumpReads (finishRead m data { s with mem := { s.mem with reading := none } })

/-- The running leaf job's read fails. -/
def failJobRead (s : State) : State :=
  match s.codec.running with
  | some j => if j.started then readFails rMemRead j s else s
  | none => s

/-- Every read in progress fails (R121; 02 R31, 04 Table 4-2): a reader's item, and the running leaf job's. -/
def failReads (s : State) : State := failJobRead (endRead none s)

/-- The read whose strobe is missing fails (R121): the reader's item, or else the running leaf job's. -/
def failCurrentRead (s : State) : State := if s.mem.reading.isSome then endRead none s else failJobRead s

/-- MEM_READ_DONE (R121): a read that ends without `VDDIO_M` has failed (R31). -/
def execMemReadDone (r : ReadResult) (s : State) : Out :=
  let data := match r with
    | .data bytes => if s.supply.ringM then some bytes else none
    | .failed => none
  guarded (sysRuns s && busFree s && s.mem.reading.isSome) s (endRead data s)

/-- DQS_TIMEOUT (R121). -/
def execDqsTimeout (s : State) : Out :=
  guarded (sysRuns s && busFree s && s.mem.mode == .d8) s (failCurrentRead s)

/-- VDDIO_M_INVALID (R31): a read in progress fails; what pens hold stays shown. -/
def execVddioMInvalid (s : State) : Out :=
  let t := { s with supply := { s.supply with ringM := false } }
  guarded s.supply.ringM s (if sysRuns s then failReads t else t)

/-- VDDIO_M_VALID (R27, R28, R31): a read started during the loss has failed. -/
def execVddioMValid (level33 : Bool) (s : State) : Out :=
  let t := { s with supply := { s.supply with ringM := true, ringM33 := level33 } }
  guarded (s.supply.aonUp && !s.supply.ringM) s (if sysRuns s then failReads t else t)

/-! The flash's reset and the first read (R118). -/

/-- FLASH_RESET_END: the 50 µs pulse ends. -/
def execFlashResetEnd (s : State) : Out :=
  guarded (running s && s.mem.flashReset == .low) s { s with mem := { s.mem with flashReset := .waiting } }

/-- BINDING_READ_START (R31, R60, R118). -/
def execBindingReadStart (s : State) : Out :=
  let ok := sysRuns s && s.core.plls && s.supply.ringM && !s.core.noBinding && !s.core.folios && !s.mem.ackLow &&
    !s.mem.bootHold && (s.mem.flashReset == .waiting || s.mem.flashReset == .done) && !s.mem.statusDue &&
    s.binding.reader.phase == .idle && !domainHeld s .mem
  guarded ok s (beginSelection false { s with mem := { s.mem with flashReset := .done } })

/-! Holds (R122 to R125). -/

/-- HOLD_REQUEST (R122): the bus is the host's. What the flash has not delivered of the item under way is read after the hold (R121). -/
def execHoldRequest (e : CutPulse) (s : State) : Out :=
  let r := pulse s e.lowNs 0 50
  let t := r.2
  let u := { t with
    pins := { t.pins with holdLow := true }
    mem :=
      { t.mem with ackLow := true, unread := dropSpans e.read t.mem.unread, bootLow := t.mem.bootLow || t.mem.bootHold
                   longReported := false } }
  guarded (running s && !s.pins.holdLow) s (if r.1 then u else t)

/-- HOLD_RELEASE (R60, R118, R123, R124). A boot hold ends only when its low has been seen; the flash is reset at the first
moment the bus is taken; after a hold granted while the core runs, the status is read first. -/
def execHoldRelease (s : State) : Out :=
  let t := { s with pins := { s.pins with holdLow := false } }
  let boot := t.mem.bootHold
  let first := t.mem.flashReset == .none
  let u := { t with mem :=
    { t.mem with ackLow := false, bootHold := false, flashReset := if first then .low else t.mem.flashReset
                 statusDue := !first, busyReported := false, longReported := false } }
  guarded (running s && s.pins.holdLow) s (if boot && !t.mem.bootLow then t else u)

/-- STATUS_POLL (R124): a status without a byte counts as busy. Once the flash is idle, a read that the hold ended goes on. -/
def execStatusPoll (wip : Option Bool) (s : State) : Out :=
  let t := issue (statusCommand s.mem.mode) s
  let u := if wip == some false then pumpReads (resumeRead { t with mem := { t.mem with statusDue := false } }) else t
  guarded (running s && s.mem.statusDue && !s.mem.ackLow && !domainHeld s .mem) s u

/-- MEM_BUSY (R124). -/
def execMemBusy (s : State) : Out :=
  guarded (running s && s.mem.statusDue && !s.mem.ackLow && !s.mem.busyReported) s
    (report evMemBusy 0 (copyNum s.binding.readCopy) { s with mem := { s.mem with busyReported := true } })

/-- HOLD_LONG (R125). -/
def execHoldLong (s : State) : Out :=
  guarded (running s && s.mem.ackLow && !s.mem.longReported) s
    (report evHoldLong 0 (copyNum s.binding.readCopy) { s with mem := { s.mem with longReported := true } })

end Sys2Proof.Machine
end

