-- ==== Sys2Proof/Machine/Matrix.lean ====
section
/-! DEFINITION. The bus matrix (09 R215 to R227): the address map, what each master may do, urgency, the arbiters and locked
sequences. -/

namespace Sys2Proof.Machine

open Sys2Proof

/-- The target of an address (Table 9-3). -/
def targetOf (a : Nat) : Nat :=
  if a < 0x00200000 then a / 0x00080000
  else if a < 0x00210000 then 4
  else if a < 0x00218000 then 5
  else if 0x10000000 ≤ a && a < 0x20000000 then 6
  else 7

/-- The half of T4 or T5 that an address lies in: true for the upper one. -/
def upperHalf (a : Nat) : Bool := if targetOf a = 4 then 0x00208000 ≤ a else 0x00214000 ≤ a

/-- What Table 9-4 lets a master do at a target. -/
def mayAccess (m t : Nat) (write lock : Bool) : Bool :=
  match m with
  | 0 => t < 4 && !write && !lock
  | 1 => t < 4 && !write && !lock
  | 2 => t < 5 && !write && !lock
  | 3 => (t < 4 || t == 6) && !write && !lock
  | 4 => t < 6 && write && !lock
  | 5 => t < 4 && write && !lock
  | 6 => t < 4 || (t == 5 && !write && !lock)
  | 7 => t < 6
  | _ => false

/-- The codec lane whose settings bound a burst of M3 or M4 (08 R205). -/
def laneBurst (c : Codec) (write : Bool) : Lane → Nat
  | .a => if write then c.wrBurst else c.rdBurst
  | .b => if write then c.wrCanvas else c.rdCanvas

/-- The largest burst of a request's master at a target (Table 9-4). -/
def largestBurst (c : Codec) (r : MatrixReq) (t : Nat) : Nat :=
  match r.master with
  | 2 => 8
  | 3 => if t = 6 then 16 else laneBurst c false r.lane
  | 4 => laneBurst c true r.lane
  | 5 => 8
  | 6 => 8
  | _ => 16

/-- The shape of a burst (R217). -/
def burstOk (c : Codec) (r : MatrixReq) : Bool :=
  1 ≤ r.beats && r.beats ≤ 16 && r.beats ≤ largestBurst c r (targetOf r.addr) && r.addr % 16 == 0 &&
    r.addr % 256 + 16 * r.beats ≤ 256

/-- The half of T4 or T5 that a master may use (R216): M4 writes only the shadow half, and M2 and M6 read only the active one. active
says that the upper halves are the active ones. -/
def halfOk (active : Bool) (r : MatrixReq) : Bool :=
  let t := targetOf r.addr
  if t != 4 && t != 5 then true
  else if r.master = 4 then upperHalf r.addr != active
  else if r.master = 2 || r.master = 6 then upperHalf r.addr == active
  else true

/-- The target that a request goes to: T7 when the table, the halves or the shape do not permit it (R216, R217). -/
def routeOf (c : Codec) (active : Bool) (r : MatrixReq) : Nat :=
  if mayAccess r.master (targetOf r.addr) r.write r.lock && halfOk active r && burstOk c r then targetOf r.addr else 7

/-- Masters M0 and M1 are raised below the water mark and lowered at the calm mark (Table 9-4). -/
def raisedNow (st : Store) (before : Bool) (fill : Nat) : Bool :=
  if fill < fnat st matrixScanWater then true else if fnat st matrixScanCalm ≤ fill then false else before

/-- The urgency of a request (Table 9-4). -/
def urgencyOf (st : Store) (r0 r1 : Bool) (l : MatrixLevels) (r : MatrixReq) : Nat :=
  match r.master with
  | 0 => if r0 then 2 else 1
  | 1 => if r1 then 2 else 1
  | 2 => if l.lampFill < fnat st matrixLampWater then 2 else 1
  | 5 => if fnat st matrixCanvasWater ≤ l.canvasFill then 2 else 1
  | 6 => 2
  | 7 => if r.scrub then 0 else 1
  | _ => 1

/-- The first master after the pointer, counting cyclically, that has a candidate (R221). -/
def firstAfter (ptr : Nat) (cand : List MatrixReq) : Option MatrixReq :=
  (((List.range 8).map fun d => (ptr + 1 + d) % 8).findSome? fun m => cand.find? fun r => r.master == m)

/-- The decision of R221. -/
def decide9 (st : Store) (r0 r1 : Bool) (l : MatrixLevels) (ptr : Nat) (reqs : List MatrixReq) : Option MatrixReq :=
  let u := (reqs.map (urgencyOf st r0 r1 l)).foldl max 0
  firstAfter ptr (reqs.filter fun r => urgencyOf st r0 r1 l r == u)

/-! Contents (R208, R215, R219). -/

/-- A byte of a pen's image or calibration block at an offset; none behind them. -/
def penByte (q : Pen) (off : Nat) : Option Byte :=
  let n := formatBytes q.image.format
  match q.image.samples[off / n]? with
  | some v => some (byteOf (v / 256 ^ (off % n)))
  | none => q.block[off]?

/-- A byte of a pen's image or calibration block is written. -/
def setPenByte (off : Nat) (b : Byte) (q : Pen) : Pen :=
  let n := formatBytes q.image.format
  let w := 256 ^ (off % n)
  { q with image := { q.image with samples := modAt q.image.samples (off / n) fun v => v - v / w % 256 * w + b.toNat * w }
           block := setAt q.block off b }

/-- A byte goes into a list of bytes that rises by its addresses. -/
def insertCell (c : Host.Cell) : List Host.Cell → List Host.Cell
  | [] => [c]
  | d :: rest => if c.1 < d.1 then c :: d :: rest else if c.1 = d.1 then c :: rest else d :: insertCell c rest

/-- A byte is written where an address that is not listed holds 0. -/
def putCell (l : List Host.Cell) (c : Host.Cell) : List Host.Cell :=
  if c.2 = 0 then l.filter (·.1 != c.1) else insertCell c l

/-- The byte listed for an address. -/
def cellAt (l : List Host.Cell) (a : Nat) : Option Byte := (l.find? (·.1 == a)).map (·.2)

/-- The addresses rise strictly. -/
def rising (l : List Host.Cell) : Bool := decide (l.Pairwise fun c d => c.1 < d.1)

/-- The canonical form of the memory: rising addresses, and no listed 0 in the frame store. -/
def memoryWf (m : Matrix) : Bool := rising m.cells && m.cells.all (fun c => c.2 != 0) && rising m.tables

/-- The byte of the frame store at an address: of the image that a pen holds there, or else of the memory below it. -/
def storeByte (s : State) (a : Nat) : Byte :=
  ((penAt s a).bind fun e => penByte e.2.1 e.2.2).getD ((cellAt s.matrix.cells a).getD 0)

/-- The byte of T4 or T5 at an address: what was written there, or else, in the active half of T4, the live `LAMPCAL` image. -/
def tableByte (s : State) (a : Nat) : Byte :=
  let image := if targetOf a = 4 && upperHalf a == s.matrix.halves then folioBytes (live s) 18 else none
  ((cellAt s.matrix.tables a).or (image.bind fun l => l[a % 32768]?)).getD (Config.tableByte s.binding.live.gen a)

/-- The byte at an address of T0 to T5. -/
def readByte (s : State) (a : Nat) : Byte := if targetOf a < 4 then storeByte s a else tableByte s a

/-- A byte of T0 to T5 is written. -/
def writeByte (s : State) (c : Host.Cell) : State :=
  if targetOf c.1 < 4 then
    match penAt s c.1 with
    | some (i, q, off) =>
      if (penByte q off).isSome then updPen s i (setPenByte off c.2)
      else { s with matrix := { s.matrix with cells := putCell s.matrix.cells c } }
    | none => { s with matrix := { s.matrix with cells := putCell s.matrix.cells c } }
  else if targetOf c.1 < 6 then { s with matrix := { s.matrix with tables := insertCell c s.matrix.tables } }
  else s

/-- The bytes that a write's strobes select (R217). -/
def writeBytes (r : MatrixReq) : List Host.Cell :=
  (r.payload.take r.beats).zipIdx.flatMap fun e =>
    ((List.range 16).filter fun k => (r.strobes.getD e.2 65535).testBit k).map fun k =>
      (r.addr + 16 * e.2 + k, byteOf (e.1 / 256 ^ k))

/-- The beats of a read, with the holder's journal merged over the target's contents (R224). -/
def readBeats (s : State) (journal : List Host.Cell) (r : MatrixReq) : List Nat :=
  (List.range r.beats).map fun i =>
    leNat ((List.range 16).map fun k =>
      let a := r.addr + 16 * i + k
      (cellAt journal.reverse a).getD (readByte s a))

/-! Bursts and responses (R217 to R220). -/

def arbiterAt (s : State) (target : Nat) : Arbiter := s.matrix.arbiters.getD target {}

def updArbiter (target : Nat) (f : Arbiter → Arbiter) (s : State) : State :=
  { s with matrix := { s.matrix with arbiters := modAt s.matrix.arbiters target f } }

/-- A master receives a response. -/
def answer (m : Nat) (a : Response) (s : State) : State :=
  { s with matrix := { s.matrix with answers := setAt s.matrix.answers m (some a) } }

/-- A master receives an error response. -/
def answerError (m id : Nat) (s : State) : State := answer m { id, error := true, data := [] } s

/-- The path of a target becomes free: its burst has passed its last beat. A write is carried out as its response returns (R219), unless
it is in the journal of a lock; the data of an aborted job is discarded (R228). -/
def completeBurst (target : Nat) (s : State) : State :=
  match (arbiterAt s target).burst with
  | none => s
  | some b =>
    let r := b.request
    let t := updArbiter target (fun a => { a with burst := none }) s
    let u := if r.write && !r.lock && !b.dropped then (writeBytes r).foldl writeByte t else t
    if b.dropped then u else answer r.master { id := r.id, error := false, data := b.data } u

/-- The bursts that hold a path, with their targets. -/
def openBursts (s : State) : List (Nat × Burst) :=
  s.matrix.arbiters.zipIdx.filterMap fun e => e.1.burst.map fun b => (e.2, b)

/-- Two transactions of one master and lane with one identifier, which complete in issue order (R218). -/
def sameThread (a b : MatrixReq) : Bool := a.master == b.master && a.lane == b.lane && a.id == b.id

/-- The requests that are outstanding: each master has at most eight transactions, its open bursts among them (R218). -/
def outstanding (s : State) (reqs : List MatrixReq) : List MatrixReq :=
  reqs.zipIdx.filterMap fun e =>
    let m := e.1.master
    let before := ((reqs.take e.2).filter fun r => r.master == m).length
    let inFlight := ((openBursts s).filter fun b => b.2.request.master == m).length
    if before + inFlight < 8 then some e.1 else none

/-- The requests that wait at a target and may be granted: none waits behind an earlier transaction of its thread to another target
(R218). -/
def eligible (s : State) (target : Nat) (reqs : List MatrixReq) : List MatrixReq :=
  let route := routeOf s.codec s.matrix.halves
  reqs.zipIdx.filterMap fun e =>
    let blocked := (openBursts s).any (fun b => b.1 != target && sameThread b.2.request e.1) ||
      (reqs.take e.2).any fun r => route r != target && sameThread r e.1
    if route e.1 == target && !blocked then some e.1 else none

/-! Locked sequences (R223 to R225). -/

/-- The request belongs to the lock held. -/
def ofLock (l : LockState) (r : MatrixReq) : Bool :=
  r.lock && r.master == l.master && (r.master != 6 || r.lane == l.lane)

/-- The journal bytes of a locked burst. -/
def journalOf (r : MatrixReq) : List Host.Cell := if r.write then writeBytes r else []

/-- A lock that starts or goes on with a granted burst (R223, R224). -/
def lockWith (old : Option LockState) (r : MatrixReq) : Option LockState :=
  match old with
  | some l => some { l with id := r.id, beats := l.beats + r.beats, journal := l.journal ++ journalOf r }
  | none =>
    if r.lock then some { master := r.master, lane := r.lane, id := r.id, beats := r.beats, journal := journalOf r } else none

/-- The lock of a target. -/
def lockAt (s : State) (target : Nat) : Option LockState := (arbiterAt s target).lock

/-- The lock of a target ends. -/
def endLock (target : Nat) (s : State) : State := updArbiter target (fun a => { a with lock := none }) s

/-- LOCK_UNLOCK (R224): the last burst of the sequence is over, and the journal is written in order. -/
def execLockUnlock (target : Nat) (s : State) : Out :=
  match lockAt s target with
  | none => .next s
  | some l => guarded (sysRuns s) s (l.journal.foldl writeByte (endLock target (completeBurst target s)))

/-- The number of a lane in an event. -/
def laneNum : Lane → Nat
  | .a => 0
  | .b => 1

/-- A locked sequence ends by an unlock-discard, with an error response to its holder (R223). -/
def lockBreach (target : Nat) (l : LockState) (s : State) : State :=
  report evLockError (laneNum l.lane) (16 * l.master + target) (answerError l.master l.id (endLock target s))

/-- LOCK_ERROR (R223): an unlock-discard. A lock request to T6 or T7 starts no lock; its master and lane are the command's. -/
def execLockError (target : Nat) (breach : LockBreach) (master : Nat) (lane : Lane) (s : State) : Out :=
  match lockAt s target with
  | some l => guarded (sysRuns s) s (lockBreach target l s)
  | none =>
    guarded (sysRuns s && breach == .badTarget && (target == 6 || target == 7) && (master == 6 || master == 7)) s
      (lockBreach target { master, lane, id := 0, beats := 0, journal := [] } s)

/-- The open burst of a lock's holder at its target. -/
def holders (l : LockState) (b : Burst) : Bool := ofLock l { b.request with lock := true }

/-- A lock ends because its holder's domain is reset (R225): the journal is discarded, the holder's transactions to the target are dropped,
and the arbiter goes on from the holder's position. -/
def breakLock (hit : LockState → Bool) (s : State) (target : Nat) : State :=
  match (lockAt s target).filter hit with
  | none => s
  | some l =>
    let t := updArbiter target (fun a => { a with lock := none, burst := a.burst.filter fun b => !holders l b }) s
    coverFault 1 255 (report evLockBroken (laneNum l.lane) (16 * l.master + target)
      { t with matrix := { t.matrix with lockBroken := satInc t.matrix.lockBroken } })

def breakLocks (hit : LockState → Bool) (s : State) : State := (List.range 8).foldl (breakLock hit) s

/-! Resets and aborts (R227, R228). -/

/-- A reset of `CK_SYS` restarts the matrix: every outstanding transaction is dropped. -/
def restartMatrix (s : State) : State :=
  { s with matrix :=
    { s.matrix with raised0 := false, raised1 := false, arbiters := s.matrix.arbiters.map fun a => { a with burst := none } } }

/-- An abort: the open bursts of M3 to M5 complete with their data discarded, and one at T6 is ended with an error response. -/
def abortBursts (s : State) : State :=
  let job := fun (b : Burst) => 3 ≤ b.request.master && b.request.master ≤ 5
  let t := { s with matrix :=
    { s.matrix with arbiters := s.matrix.arbiters.map fun a =>
      { a with burst := a.burst.map fun b => { b with dropped := b.dropped || job b } } } }
  match (arbiterAt s 6).burst with
  | none => t
  | some b => answerError b.request.master b.request.id (updArbiter 6 (fun a => { a with burst := none }) t)

end Sys2Proof.Machine
end

