-- ==== Sys2Proof/Machine/Keeper.lean ====
section
/-! DEFINITION. The keeper (04 R77 to R79, 05 R110, 07 R175, 09 R227, 11 R276, 13 R323): heartbeats, domain resets with the
effects of Table 4-2, quarantine, restart, and the halted head. -/

namespace Sys2Proof.Machine

open Sys2Proof

/-! Halting and losing units. -/

/-- The head is halted (Table 4-5): all emitters are off, the coils are shorted, `READY` is low. -/
def halt (s : State) : State :=
  let off := fun (l : Lamp) => { l with code := 0 }
  let t := darkAllChannels (coastBoth { s with core := { s.core with halted := true } })
  { t with lamp := { t.lamp with dark := true, lamps := t.lamp.lamps.map off } }

/-- A port stops serving: it coasts, and port B may take over (12 R289, R291). -/
def portStops (p : Port) (s : State) : State :=
  let was := (portOf s p).raster
  takeover was (updPort (coastPort p s) p fun q => { q with down := q.down || was, restarting := false })

def otherLane : Lane → Lane
  | .a => .b
  | .b => .a

/-- The periods of the slowest enabled loop, in schedule frames. -/
def slowestLoop (st : Store) : Nat := ((enabledSlots st).map fun k => 2 ^ fnat st (slotRate k)).foldl max 1

/-- The standby lane takes over (13 R322). -/
def laneTakeover (s : State) : State :=
  let l := otherLane s.engine.serving
  coverFault (2 * slowestLoop (live s)) 255 (report evLaneTakeover 0 (laneNum l)
    { s with engine := { s.engine with serving := l, standby := .absent, tookOver := true, presetDue := true } })

/-- A lane is lost (13 R323): the other serves, if it can. -/
def loseLane (l : Lane) (s : State) : State :=
  let t := breakLocks (fun k => k.master == 6 && k.lane == l) s
  if t.engine.serving == l then
    if t.engine.standby == .present then laneTakeover t else t
  else { t with engine := { t.engine with standby := .absent } }

/-! Canvas frames that end without publication (10 R253). -/

/-- A frame is discarded: the pens that it had begun to fill become FREE, and it is counted and reported with its `SEQ`. -/
def cvsDiscard (reason : Nat) (pens : List Nat) (seq : Nat) (s : State) : State :=
  let t := pens.foldl (fun u i => freePen i u) s
  report evCanvasDiscard reason seq
    { t with canvas := { t.canvas with discards := satInc t.canvas.discards, lastReason := reason } }

/-- A coded canvas frame that is being decoded is discarded; its job has no leaf (08 R201). -/
def discardCanvas (reason : Nat) (s : State) : State :=
  match s.canvas.job with
  | none => s
  | some j =>
    cvsDiscard reason j.pens j.seq { s with canvas := { s.canvas with job := none }, codec := { s.codec with lastEnd := some (none, 65535, 0) } }

/-- The frame under way is discarded before its end: CVS_OFF comes first in the order of Table 10-5. -/
def discardFrame (reason : Nat) (s : State) : State :=
  match s.canvas.frame with
  | none => s
  | some r =>
    cvsDiscard (if r.enabled then reason else 0x80) r.pens (rd r.bytes 6 2) { s with canvas := { s.canvas with frame := none } }

/-- An abort: the frame under way will be discarded, and the pens that it fills are FREE at once (07 R176). -/
def abortFrame (s : State) : State :=
  match s.canvas.frame with
  | none => s
  | some r =>
    let u := r.pens.foldl (fun v i => freePen i v) s
    { u with canvas := { u.canvas with frame := some { r with pens := [], aborted := true } } }

/-- A reset of `CK_SYS` ends the canvas lane's job, which is discarded, and frees the live pens of the frame under way, whose queued bytes
are lost (08 R204, 09 R227). DESIGN CHOICE of the two reasons: log 111. -/
def dropFilling (s : State) : State :=
  let t := discardCanvas 0x8B s
  match t.canvas.frame with
  | none => t
  | some r =>
    let u := r.pens.foldl (fun v i => freePen i v) t
    { u with canvas := { u.canvas with frame := some { r with pens := [], overflow := true } } }

/-! Domain resets (Table 4-2). -/

/-- The frame of a port in schedule frames; 0 when it does not run. -/
def portFrameUs (s : State) (p : Port) : Nat :=
  let f := axisHz (portOf s p)
  if (portOf s p).raster && f != 0 then ceilDiv (vTotal (live s) p * 500000000) f else 0

/-- The recovery interval of a domain's reset in schedule frames. -/
def domainRecovery (s : State) : Domain → Nat
  | .edge => 2000
  | .sys => 40000
  | .mem => 5000
  | .cvs => portFrameUs s .a
  | .mirA => 500000
  | .mirB => 500000
  | .lamp => 5000
  | .loopA => 2 * slowestLoop (live s)
  | .loopB => 2 * slowestLoop (live s)

/-- What a reset of a domain does at once. -/
def domainEffect (d : Domain) (s : State) : State :=
  match d with
  | .edge =>
    let drop := fun (w : Wheel) => { w with queue := [], timeline := false, anchors := [], fired := [] }
    updWheel (updWheel (closeGates s) .a drop) .b drop
  | .sys =>
    let stop := fun (w : Wheel) => { w with held := [] }
    let t := closeGates s
    let u := restartMatrix (breakLocks (fun _ => true) (rollback 0x48 (dropAllJobs { dropFilling t with
      mem := { t.mem with reading := none, waiting := [] }
      binding := { t.binding with reader := {} } })))
    updWheel (updWheel u .a stop) .b stop
  | .mem => failReads s
  | .cvs => discardFrame 0x89 s
  | .mirA => portStops .a s
  | .mirB => portStops .b s
  | .lamp =>
    let z := fun (l : Lamp) => { l with openRun := 0, shortRun := 0, code := 0 }
    { s with lamp := { s.lamp with lamps := s.lamp.lamps.map z, rowOpen := [], cut := true } }
  | .loopA => loseLane .a s
  | .loopB => loseLane .b s

/-- A quarantined `CK_MEM` refuses every gathering (R78), and every job that needs the binding fails. -/
def memQuarantined (s : State) : State :=
  let t := (laneJobs s ++ s.codec.preload).foldl (fun u j => jobBroken j u) (dropAllJobs s)
  match t.gather.state with
  | .opened => rejectStitch 0x49 t
  | .validate => rejectStitch 0x49 t
  | _ => rollback 0x49 t

/-- A mirror domain is quarantined (R78): its port is out of service, and a qualification under way has lost it. -/
def portQuarantined (p : Port) (s : State) : State :=
  portFailsQual (updPort s p fun q => { q with outOfService := true, down := true, restarting := false, restartDue := false })

/-- What quarantine adds to a reset (R78). -/
def quarantineEffect (d : Domain) (s : State) : State :=
  let t := report evDomainQuarantined 0 (domainNum d) (updDomain s d fun q => { q with quarantined := true })
  match d with
  | .sys => halt t
  | .mem => memQuarantined t
  | .mirA => portQuarantined .a t
  | .mirB => portQuarantined .b t
  | _ => t

/-- The recovery intervals under way. -/
def setRecovery (r q : Option Nat) (s : State) : State :=
  { s with keeper := { s.keeper with recovery := r, readRecovery := q } }

/-- The later of two ends. -/
def laterEnd (a b : Option Nat) : Option Nat := longer a (b.getD 0)

/-- The keeper resets a domain (R77, R78), one covered fault with what the reset brings with it: the third reset within 10 s quarantines it. -/
def resetDomain (d : Domain) (s : State) : State :=
  let now := s.keeper.ticks
  let h := now :: recent 10000 now (domainOf s d).resets
  let r := if d == .sys then { s with beacon := { s.beacon with frozen := some (resetFieldsNow s) } } else s
  let t := updDomain r d fun q => { q with held := true, stale := 0, resets := h }
  let e := domainEffect d (report evDomainReset 0 (domainNum d) (setRecovery none none t))
  let v := coverFault (domainRecovery s d) (domainNum d) (setRecovery s.keeper.recovery s.keeper.readRecovery e)
  let u := setRecovery (laterEnd v.keeper.recovery e.keeper.recovery) (laterEnd v.keeper.readRecovery e.keeper.readRecovery) v
  if 3 ≤ h.length then quarantineEffect d u else u

/-! Heartbeats (R77). -/

/-- A domain has work, so that its heartbeat is required. -/
def hasWork (s : State) (cvsToggling : Bool) : Domain → Bool
  | .cvs => cvsToggling
  | .mirA => s.portA.raster
  | .mirB => s.portB.raster
  | .lamp => s.lamp.running
  | .mem => !s.mem.ackLow && (s.mem.reading.isSome || s.codec.running.any (·.started))
  | _ => true

/-- One domain's sample. -/
def sampleDomain (beats : List Nat) (cvsToggling : Bool) (s : State) (d : Domain) : State :=
  let b := nth beats (domainNum d) % 16
  let q := domainOf s d
  if domainHeld s d || !hasWork s cvsToggling d || b != q.beat then
    updDomain s d fun q => { q with beat := b, stale := 0 }
  else if 2 ≤ q.stale + 1 then resetDomain d s
  else updDomain s d fun q => { q with stale := q.stale + 1 }

/-- KEEPER_HEARTBEAT_SAMPLE (R77). -/
def execKeeperHeartbeatSample (beats : List Nat) (cvsToggling : Bool) (s : State) : Out :=
  guarded (running s && s.core.plls && !s.core.halted) s (allDomains.foldl (sampleDomain beats cvsToggling) s)

/-- What a domain resumes when its reset ends. -/
def restartEffect (d : Domain) (s : State) : State :=
  match d with
  | .sys =>
    let t := match s.select.pending with
      | some n => requestEntry false s.binding.live .pattern n s
      | none => s
    let u :=
      if !(t.gather.state == .restore && t.gather.restoring) then t
      else if t.pins.abortLow then { t with gather := { t.gather with restoreDue := true } }
      else requestRestore t
    let v := if u.cart.step == .calibration then calStep u.cart.code u else u
    if v.core.service then preloadRound v else v
  | .mem => pumpReads s
  | .mirA => updPort s .a fun q => { q with restartDue := s.cart.qualified }
  | .mirB => updPort s .b fun q => { q with restartDue := s.cart.qualified }
  | .loopA => { s with engine := { s.engine with standby := if s.engine.serving == .b && !s.engine.tableErrA then .joining 0 else s.engine.standby } }
  | .loopB => { s with engine := { s.engine with standby := if s.engine.serving == .a && !s.engine.tableErrB then .joining 0 else s.engine.standby } }
  | _ => s

/-- DOMAIN_RESTART (R77): the domain restarts from the active folios and the pens in their present states. -/
def execDomainRestart (d : Domain) (s : State) : Out :=
  let q := domainOf s d
  guarded (running s && q.held && !q.quarantined && !s.core.halted) s
    (restartEffect d (updDomain s d fun q => { q with held := false, stale := 0 }))

/-- A domain whose clock a reference-fed PLL makes (Table 5-1). -/
def pllDomain : Domain → Bool
  | .cvs => false
  | .mirA => false
  | .mirB => false
  | _ => true

/-- PLL_LOCK_LOST (R110): handled as a domain reset. -/
def execPllLockLost (d : Domain) (s : State) : Out :=
  guarded (running s && s.core.plls && !s.core.halted && pllDomain d && !domainHeld s d) s (resetDomain d s)

end Sys2Proof.Machine
end

