-- ==== Sys2Proof/Machine/Clocks.lean ====
section
/-! DEFINITION. The frequency references and the voltage references (05 R99 to R112): the drift watch, the loss detector, the
hitless switch, and the millisecond check of the converters' references with the safety reference (16 R386). -/

namespace Sys2Proof.Machine

open Sys2Proof

/-- The number of a source in an event (Table 17-3). -/
def refNum : RefSource → Nat
  | .crystal => 0
  | .refin => 1
  | .ring => 2

def updClocks (f : Clocks → Clocks) (s : State) : State := { s with clocks := f s.clocks }

/-- Latch a reference as failed (R108). -/
def latchRef (r : RefSource) (s : State) : State :=
  match r with
  | .crystal => updClocks (fun c => { c with crystalFailed := true }) s
  | .refin => updClocks (fun c => { c with refinFailed := true }) s
  | .ring => s

/-- A reference is latched as failed. -/
def refFailed (s : State) : RefSource → Bool
  | .crystal => s.clocks.crystalFailed
  | .refin => s.clocks.refinFailed
  | .ring => false

/-- The other of the crystal and `REFIN`. -/
def otherRef : RefSource → RefSource
  | .crystal => .refin
  | _ => .crystal

/-- A reference that the head has: the crystal always, `REFIN` when it is fitted and not ignored (R99). -/
def refPresent (s : State) : RefSource → Bool
  | .refin => s.clocks.refinFitted
  | _ => true

/-! The drift watch (R101 to R105). -/

/-- The cycles of a source counted in a window, which is 2^20 cycles of the selected one (R101). -/
def windowCycles (sel : RefSource) (crystal refin ring : Nat) (r : RefSource) : Nat :=
  if r == sel then 2 ^ 20
  else match r with
    | .crystal => crystal
    | .refin => refin
    | .ring => ring

/-- The deviation of a source from another in units of 1/k ppm, from their cycles in one window and their nominal frequencies, rounded to
nearest; none when one of them was not counted. -/
def deviation (k na nb fa fb : Nat) : Option Int :=
  if na = 0 || nb = 0 || fa = 0 || fb = 0 then none
  else some (roundNear (1000000 * k * ((na : Int) * fb - nb * fa)) (nb * fa))

/-- The three sources of a window: their pairwise deviations in ppm (R101), and those of the references from the ring by nominal rates, in
1/64 ppm. -/
structure Window where
  cr : Option Int
  cw : Option Int
  rw : Option Int
  xc : Option Int
  xr : Option Int
deriving DecidableEq, Repr

/-- `REFIN` is fitted and not failed (R102); otherwise the watch runs as on a crystal-only head (R99, R100). -/
def watchRefin (s : State) : Bool := s.clocks.refinFitted && !s.clocks.refinFailed

/-- Form a window's deviations; those from the ring are from its learned ratio, each to 1 ppm (R101). -/
def windowOf (s : State) (crystal refin ring : Nat) : Window :=
  let n := windowCycles s.clocks.selected crystal refin ring
  let f := nominalHz (live s)
  let x := fun (r : RefSource) => deviation 64 (n r) (n .ring) (f r) (f .ring)
  let w := fun (r : RefSource) => (x r).map fun v => roundNear (v - s.clocks.learned) 64
  let fitted := s.clocks.refinFitted
  { cr := if fitted then deviation 1 (n .crystal) (n .refin) (f .crystal) (f .refin) else none
    cw := w .crystal, rw := if fitted then w .refin else none, xc := x .crystal, xr := if fitted then x .refin else none }

/-- |d| lies above num / den of `CLOCK.TOL_PPM`; a source that was not counted deviates without limit. -/
def beyond (s : State) (num den : Nat) (d : Option Int) : Bool :=
  d.elim true fun v => num * fnat (live s) clockTolPpm < den * v.natAbs

/-- What the ring is learned from in a window, in 1/64 ppm: the mean of the crystal and `REFIN`, or the crystal alone (R102). -/
def learnedFrom (s : State) (w : Window) : Option Int :=
  if watchRefin s then
    match w.xc, w.xr with
    | some a, some b => some ((a + b) / 2)
    | some a, none => some a
    | none, b => b
  else w.xc

/-- The ring's learned deviation after a window (R102), in 1/64 ppm: the mean of the first four windows, then the weighted update where
the references agree, or where the crystal and the ring do. -/
def learn (s : State) (w : Window) : Int :=
  let l := s.clocks.learned
  match learnedFrom s w with
  | none => l
  | some m =>
    if s.clocks.windows < 4 then l + m / 4
    else if watchRefin s then (if beyond s 1 4 w.cr then l else l + roundNear (m - l) 8)
    else if beyond s 1 2 w.cw then l
    else l + roundNear (m - l) 64

/-- Both fitted references are present and judged: neither is latched as failed, and the ring, which R103 cannot fail, is not the selected
source. -/
def bothRefs (s : State) : Bool := watchRefin s && !s.clocks.crystalFailed && s.clocks.selected != .ring

/-- The deviation as an event carries it; one that could not be counted saturates. -/
def auxDev (d : Option Int) : Nat := d.elim 255 satDev

/-- The judgement of a window with both references (R103, R104): so is d(S, O), sw d(S, W) and ow d(O, W). Each event carries d(S, O), and
REF_NO_MAJORITY names the selected source, where the manual says neither which deviation nor which source. DESIGN CHOICE: log 112. -/
def judgeBoth (so sw ow : Option Int) (s : State) : State :=
  let sel := s.clocks.selected
  let o := otherRef sel
  let above := beyond s 1 1
  let half := beyond s 1 2
  if above so && above sw && !half ow then
    if (fnat (live s) clockSwitch).testBit 0 then switchRef o (report evRefSwitch (auxDev so) (refNum sel) (latchRef sel s))
    else report evRefFailed (auxDev so) (refNum sel) (latchRef sel s)
  else if above so && above ow && !half sw then report evRefSpareFailed (auxDev so) (refNum o) (latchRef o s)
  else if half so && half sw && half ow && (above so || above sw || above ow) then
    report evRefNoMajority (auxDev so) (refNum sel) s
  else s

/-- The doubled deviations of the crystal and of `REFIN` from the majority (R105): the mean of the other two sources, or the ring alone where
there is no other reference to count. -/
def trendOf (s : State) (w : Window) : Bool × Option Int × Option Int :=
  match if watchRefin s then w.cr else none, w.cw, w.rw with
  | some d, some c, some r => (true, some (d + c), some (r - d))
  | _, c, r => (false, c.map (2 * ·), if watchRefin s then r.map (2 * ·) else none)

/-- A source trends: its deviation from a like majority has changed by more than `TREND_PPM`. -/
def judgeTrendOf (src : RefSource) (before now : Option Int) (s : State) : State :=
  match before, now with
  | some b, some n =>
    if 2 * fnat (live s) clockTrendPpm < (n - b).natAbs then report evRefTrend (satDev (roundNear (n - b) 2)) (refNum src) s else s
  | _, _ => s

/-- Report the references that trend. -/
def judgeTrend (now : Bool × Option Int × Option Int) (s : State) : State :=
  match s.clocks.lastTrend with
  | none => s
  | some b => if b.1 == now.1 then judgeTrendOf .refin b.2.2 now.2.2 (judgeTrendOf .crystal b.2.1 now.2.1 s) else s

/-- A crystal-only head whose crystal and ring differ over two windows (R105). -/
def judgeSuspect (cw : Option Int) (s : State) : State :=
  let n := if beyond s 1 1 cw then min 3 (s.clocks.suspect + 1) else 0
  let t := updClocks (fun c => { c with suspect := n }) s
  if n = 2 then report evRefSuspect (auxDev cw) 0 t else t

/-- Change the sign. -/
def negate (d : Option Int) : Option Int := d.map fun v => -v

/-- The judgement of a window with a qualified ring: trends, and then the references with both present, or the crystal against the ring. -/
def judgeWindow (w : Window) (s : State) : State :=
  let t := judgeTrend (trendOf s w) s
  if bothRefs s then
    if s.clocks.selected == .crystal then judgeBoth w.cr w.cw w.rw t else judgeBoth (negate w.cr) w.rw w.cw t
  else if watchRefin s then t
  else judgeSuspect w.cw t

/-- `CK_AON` against the selected reference, in ppm of 32.768 kHz (R109). -/
def aonDeviation (s : State) (aon : Nat) : Int :=
  let f := nominalHz (live s) s.clocks.selected
  roundNear (1000000 * ((aon : Int) * f - 32768 * 2 ^ 20)) (32768 * 2 ^ 20)

/-- DRIFT_WINDOW_END (R101 to R105, R109): the cycles of the crystal, of `REFIN`, of the ring and of `CK_AON` counted in a window of 2^20
cycles of the selected source. With the ring selected the watch measures on (R107). -/
def execDriftWindowEnd (refs : RefCycles) (ring aon : Nat) (s : State) : Out :=
  let w := windowOf s refs.crystal refs.refin ring
  let judged := if s.clocks.ringOk then judgeWindow w s else s
  let t := updClocks (fun c =>
    { c with windows := c.windows + 1, learned := learn s w, ringOk := c.ringOk || 4 ≤ c.windows + 1
             lastTrend := if s.clocks.ringOk then some (trendOf s w) else none
             lastDev := w.cr }) judged
  let d := aonDeviation s aon
  let u := if 30000 < d.natAbs then report evAonDrift (satDev d) (refNum s.clocks.selected) t else t
  guarded (running s && s.core.plls && s.core.folios) s u

/-! Loss (R107). -/

/-- REF_LOST: the PLLs hold over and switch to the first usable source. -/
def execRefLost (s : State) : Out :=
  let sel := s.clocks.selected
  let o := otherRef sel
  let t := report evRefLost 255 (refNum sel) (latchRef sel s)
  let u :=
    if refPresent s o && !refFailed s o then switchRef o t
    else if (fnat (live s) clockSwitch).testBit 1 && s.clocks.ringOk then switchRef .ring t
    else updClocks (fun c => { c with holdover := true, lost := some sel }) t
  guarded (running s && s.core.plls && sel != .ring && !s.clocks.holdover) s u

/-- REF_RETURN: handled as a switch back to the lost reference. -/
def execRefReturn (s : State) : Out :=
  match s.clocks.lost with
  | none => .next s
  | some r => guarded (running s && s.clocks.holdover) s (switchRef r (report evRefSwitch 0 (refNum r) s))

/-! Voltage references (R111, R112). -/

/-- The number of the selected, and of the other, voltage reference in an event. -/
def vrefNum (b : Bool) : Nat := if b then 4 else 3

/-- Latch a voltage reference as failed. -/
def latchVref (b : Bool) (s : State) : State :=
  if b then updClocks (fun c => { c with vrefBFailed := true }) s else updClocks (fun c => { c with vrefAFailed := true }) s

/-- The safety reference against the selected voltage reference (16 R386): four checks above 2 % trip the latch. -/
def checkSafeRef (safeRef : Int) (s : State) : State :=
  let n := if 200 < safeRef.natAbs then min 4 (s.safety.refRun + 1) else 0
  let t := { s with safety := { s.safety with refRun := n } }
  if n = 4 && !t.safety.causes.contains .safeRef then trip .safeRef 0 t else t

/-- One check of the voltage references; deviations from the selected one in units of 0.01 %. -/
def checkVref (other bandgap : Int) (s : State) : State :=
  let c := s.clocks
  let spareFailed := if c.vrefB then c.vrefAFailed else c.vrefBFailed
  let selBad := 50 < other.natAbs && 50 < bandgap.natAbs && (other - bandgap).natAbs ≤ 25
  let othBad := 50 < other.natAbs && 50 < (other - bandgap).natAbs && bandgap.natAbs ≤ 25
  let selRun := if selBad && !spareFailed then min 4 (c.vselRun + 1) else 0
  let othRun := if othBad && !spareFailed then min 4 (c.vothRun + 1) else 0
  let none3 := 25 < other.natAbs && 25 < bandgap.natAbs && 25 < (other - bandgap).natAbs &&
    (50 < other.natAbs || 50 < bandgap.natAbs || 50 < (other - bandgap).natAbs)
  let noMaj := if spareFailed then 50 < bandgap.natAbs else none3
  let t := updClocks (fun k => { k with vselRun := selRun, vothRun := othRun }) s
  if selRun = 4 then
    report evVrefSwitch (min 255 (other.natAbs / 10)) (vrefNum c.vrefB)
      (updClocks (fun k => { k with vrefB := !k.vrefB, vselRun := 0, vothRun := 0 }) (latchVref c.vrefB t))
  else if othRun = 4 then
    report evVrefSpareFailed (min 255 (other.natAbs / 10)) (vrefNum (!c.vrefB))
      (updClocks (fun k => { k with vothRun := 0 }) (latchVref (!c.vrefB) t))
  else if noMaj && !c.vrefNoMajority then
    report evVrefNoMajority (min 255 (bandgap.natAbs / 10)) (vrefNum c.vrefB)
      (updClocks (fun k => { k with vrefNoMajority := true }) t)
  else t

/-- VREF_CHECK (R111, R112, R386). -/
def execVrefCheck (other bandgap safeRef : Int) (s : State) : Out :=
  guarded (running s && s.core.plls) s (checkSafeRef safeRef (checkVref other bandgap s))

/-! The spread of `CK_LAMP` (R113). -/

/-- The peak deviation of a `SPREAD` code, in thousandths. -/
def spreadPeak (code : Nat) : Nat := 5 * code

/-- The triangle, in thousandths of its peak, at a place in its period in thousandths; where in the triangle a period starts is not stated.
DESIGN CHOICE: log 113. -/
def triangle (x : Nat) : Int := if x < 500 then 4 * (x : Int) - 1000 else 3000 - 4 * (x : Int)

/-- The instantaneous rate of `CK_LAMP` in Hz; its mean over a triangle period is 48 MHz. -/
def lampHz (c : Clocks) : Int := 48000000 + 48 * spreadPeak c.spread * triangle c.spreadPhase

/-- A schedule frame of the triangle: a change of its fields takes effect at the start of a period. -/
def spreadFrame (s : State) : State :=
  let n := s.clocks.spreadPhase + s.clocks.spreadKhz
  updClocks (fun c =>
    if n < 1000 then { c with spreadPhase := n }
    else { c with spreadPhase := n - 1000, spread := fnat (live s) clockSpread, spreadKhz := fnat (live s) clockSpreadKhz }) s

end Sys2Proof.Machine
end

