-- ==== Sys2Proof/Machine/Gathering.lean ====
section
/-! DEFINITION. The commands of a gathering (07 R150 to R179): opening, cancelling, the stitch request and its validation, the
ramps' convergence and limit, the retry of a restore, and the abort. -/

namespace Sys2Proof.Machine

open Sys2Proof

/-- GATHERING_OPEN (R150 to R152). -/
def execGatheringOpen (lowNs : Nat) (s : State) : Out :=
  let r := pulse s lowNs 0 50
  let t := r.2
  let opens := { t with gather := { t.gather with state := .opened, latched := none }
                        binding := { t.binding with twin := false } }
  let u :=
    if !r.1 || stat t == 0 || stat t == 7 then t
    else if t.pins.abortLow then refuseOpen 0x4A t
    else if (domainOf t .mem).quarantined then refuseOpen 0x49 t
    else opens
  guarded (sysRuns s && s.gather.state == .closed) s u

/-- GATHERING_CANCEL (R154). -/
def execGatheringCancel (highNs : Nat) (s : State) : Out :=
  let r := pulse s highNs 0 50
  guarded (sysRuns s && s.gather.state == .opened) s (if r.1 then closeGather 4 0x40 r.2 else r.2)

/-- GATHERING_TIMEOUT (R154). -/
def execGatheringTimeout (s : State) : Out :=
  guarded (sysRuns s && s.gather.state == .opened) s (closeGather 3 0x41 s)

/-- STITCH_REQUEST (R153, R159): any edge but the first of an open gathering is ignored and counted. On a head that runs the endpaper for
want of `VDDIO_M` no binding is read before the next reset (02 R31), and the manual does not say what becomes of a stitch there: its reads
wait, and VALIDATE ends only by an abort or a reset. DESIGN CHOICE: log 116. -/
def execStitchRequest (highNs : Nat) (s : State) : Out :=
  let r := pulse s highNs 0 50
  let t := r.2
  let u :=
    if !r.1 then t
    else if t.gather.state == .opened then
      beginSelection true { t with gather := { t.gather with state := .validate, pendingAt := t.select.pending } }
    else { t with beacon := { t.beacon with stitchIgnored := satInc t.beacon.stitchIgnored } }
  guarded (sysRuns s) s u

/-! Validation. -/

/-- The first leaf header that fails R184, with its error (08 R202). -/
def badHeader (s : State) (c : Settings) (n : Nat) : Option (Nat × CodecError) :=
  s.binding.reader.leafHeaders.findSome? fun e =>
    (leafHeaderError (jobLimits s c (leafOf c e.1).kind n e.1) e.2 (leafOf c e.1).length).map fun k => (e.1, k)

/-- The blocks that the decode step and the new live reserve need beside what is held (R161, 10 R255). -/
def stitchNeed (s : State) (c : Settings) : Nat :=
  let leaves := ((s.binding.reader.leafHeaders.map fun e => leafOutSpace e.2)).sum
  leaves + (stitchCal s c).toList.length + (reserveTarget s c.folios - reserveTarget s (live s))

/-- Hold the pens that already hold leaves of the stitch's entry. -/
def holdStitch (c : Settings) (n : Option Nat) (s : State) : State :=
  (n.elim [] fun k => entryLeaves s c k).foldl (fun t i => match penWith t (leafOf c i) with
    | some p => holdPen .stitch p t
    | none => t) s

/-- The blocks of the pens that a dark decode may drop. -/
def droppableBlocks (s : State) : Nat := ((droppable s).map fun e => e.2.blocks.length).sum

/-- The calibration in force must suit the stitch's folios where the generation stays (16 R388). -/
def calUnfit (s : State) (c : Settings) : Bool :=
  s.cart.qualified && c.gen == s.binding.live.gen && !s.emit.cal.isEmpty && !calFits s c.folios s.emit.cal

/-- The validate step passes: the decode step begins, or a dark decode awaits the bridge (R161). -/
def acceptStitch (c : Settings) (s : State) : State :=
  let n := s.gather.entry
  let need := stitchNeed s c
  let t := holdStitch c n { s with gather :=
    { s.gather with
      shadow := some c, shadowTwin := s.binding.reader.foundTwin, shadowSpine := chosenSpine s
      shadowSpineFailed := spineLost s, shadowLaterFailed := laterLost s c.gen, shadowFailed := rejectedCopies s, need, calDue := (stitchCal s c).isSome
      changed := changedItems (live s) c.folios } }
  if need ≤ roomBlocks t.pens then requestStitch { t with gather := { t.gather with state := .decode } }
  else if fbit (live s) gatherNoDark || roomBlocks t.pens + droppableBlocks t < need then rejectStitch 0x44 t
  else { t with gather := { t.gather with dark := true, bridgeDue := true } }

/-- The judgement of a validate step whose reads are done (R157, R159). -/
def judgeStitch (s : State) : State :=
  let r := s.binding.reader
  match r.found with
  | none => rejectStitch r.firstReason s
  | some c =>
    if bootChanged (live s) c.folios then rejectStitch 0x43 s
    else if r.leafFailed.isSome then rejectStitch (r.leafFailed.getD rMemRead) s
    else
      match badHeader s c (s.gather.entry.getD 0) with
      | some (i, e) =>
        rejectStitch 0x47 (reportX evCodecError e.1 i (some e.2) { s with codec := { s.codec with lastError := e.1 } })
      | none =>
        if r.calReason != 0 then rejectStitch r.calReason s
        else if calUnfit s c then rejectStitch rConsistency s
        else acceptStitch c s

/-- STITCH_VALIDATED (R159). -/
def execStitchValidated (s : State) : Out :=
  guarded (sysRuns s && s.gather.state == .validate && s.binding.reader.stitch && s.binding.reader.phase == .done &&
    !s.gather.bridgeDue) s (judgeStitch s)

/-! Ramps. -/

/-- BRIDGE_LIMIT_EXPIRED (R167). -/
def execBridgeLimitExpired (s : State) : Out :=
  guarded (sysRuns s && s.gather.state == .ramp) s (beginRestore 0x46 s)

/-- A restore that failed is tried again (R169). -/
def retryRestore (s : State) : State :=
  if restoreJobs s then s else restoreGains (requestRestore s)

/-- A retry that has waited for `ABORT_N`. -/
def retryDueNow (s : State) : State :=
  let t := { s with gather := { s.gather with retryDue := false } }
  if t.gather.restoreFailed && t.gather.state == .closed then retryRestore t else t

/-- RESTORE_RETRY (R169); one that falls due while `ABORT_N` is low waits (R178). -/
def execRestoreRetry (s : State) : Out :=
  guarded (sysRuns s && s.gather.restoreFailed && s.gather.state == .closed) s
    (if s.pins.abortLow then { s with gather := { s.gather with retryDue := true } } else retryRestore s)

/-! Abort (R176 to R179). -/

/-- A job of the lane serves a requester. -/
def laneServes (s : State) (r : Requester) : Bool :=
  (laneJobs s).any fun j => j.requester == r || j.joined.any fun q => q.1 == r

/-- A job of the lane decodes for the selection of an entry. -/
def laneDecodes (s : State) (n : Nat) : Bool :=
  (laneJobs s).any fun j => ((j.requester, j.entry) :: j.joined).any fun q => q.1 == .pattern && q.2 == n

/-- Every codec job stops, and each requester handles its own (08 R201, 09 R214). -/
def abortJobs (s : State) : State :=
  let pattern := s.select.pending.any (laneDecodes s)
  let restore := laneServes s .restore
  let cal := laneServes s .calibration
  let t0 := dropAllJobs s
  let t := { t0 with codec := { t0.codec with preloadDue := t0.core.service } }
  let u := if pattern then { t with select := { t.select with pending := none } } else t
  let v := if cal then failQual false u else u
  if !restore then v
  else if v.gather.state == .restore then { v with gather := { v.gather with restoreDue := true } }
  else restoreFails v

/-- ABORT (R150, R176). The abort ends the transfer of the item under way, and an item that the binding reader still wants is read on from
where the flash had come (06 R121). -/
def execAbort (e : CutPulse) (s : State) : Out :=
  let r := pulse s e.lowNs 0 40
  let t := r.2
  let u := { t with pins := { t.pins with abortLow := true }, gather := { t.gather with aborting := true } }
  let w := { u with mem := { u.mem with unread := dropSpans e.read u.mem.unread } }
  let v := resumeRead (coverFault 25 255 (rollback 0x42 (abortFrame (discardCanvas 0x81 (abortJobs (abortBursts w))))))
  guarded (sysRuns s && !s.pins.abortLow) s (if r.1 then v else t)

/-- ABORT_COMPLETE (R177). -/
def execAbortComplete (s : State) : Out :=
  guarded (sysRuns s && s.gather.aborting) s { s with gather := { s.gather with aborting := false } }

/-- ABORT_RELEASE (R178): what waited goes on. -/
def execAbortRelease (s : State) : Out :=
  let t := { s with pins := { s.pins with abortLow := false } }
  let t1 := if t.cart.retryDue then startRetry { t with cart := { t.cart with retryDue := false } } else t
  let t2 := if t1.cart.expiredDue then retryEnds t1 else t1
  let t3 := if t2.pack.expiredDue then packRetryEnds t2 else t2
  let t4 := if t3.gather.restoreDue then
      restoreProgress (requestRestore { t3 with gather := { t3.gather with restoreDue := false } })
    else t3
  let t5 := if t4.gather.retryDue then retryDueNow t4 else t4
  guarded (running s && s.pins.abortLow) s (if t5.codec.preloadDue then preloadRound t5 else t5)

end Sys2Proof.Machine
end

