-- ==== Sys2Proof/Machine/Sink.lean ====
section
/-! DEFINITION. Laser channels (14 R330 to R332): enabled channels, the sink code of a level, and firing a level. -/

namespace Sys2Proof.Machine

open Sys2Proof

/-- A laser channel's state. -/
def laserOf (s : State) (c : Nat) : Laser := s.emit.lasers.getD c {}

def updLaser (c : Nat) (f : Laser → Laser) (s : State) : State :=
  { s with emit := { s.emit with lasers := modAt s.emit.lasers c f } }

/-- The channels assigned to a port, ascending (R274, R288). -/
def portChannels (s : State) (p : Port) : List Nat :=
  (List.range 4).filter fun c => (laserOf s c).assigned == some p

/-- A channel is enabled (R330): a port that the straps allow, lasers not disabled, and guide light allowed. -/
def channelEnabled (s : State) (c : Nat) : Bool :=
  (channelPort s (live s) c).isSome && (safeCaps s).isSome && guideAllowed s

/-- The value last applied to a destination of Table 13-8. -/
def appliedTo (s : State) (d : Nat) : Int := ((s.engine.applied.find? fun e => e.1 == d).map (·.2)).getD 0

/-- The scale of a channel's power loop: destinations 1 to 4 are `LD0` to `LD3`. -/
def laserScale (s : State) (c : Nat) : Nat := (appliedTo s (c + 1)).toNat

/-- The code that a level asks for, before the limits (R331). -/
def codeAsked (s : State) (c v : Nat) : Nat :=
  if v = 0 then 0 else calIth s.emit.cal c + (roundHalfEven (v * laserScale s c) 65536).toNat

/-- The sink code of a level (R331). -/
def sinkCode (s : State) (c v : Nat) : Nat :=
  if v = 0 then 0 else min (min (calImax s.emit.cal c) 4095) (codeAsked s c v)

/-- `IMAX` clamps the code of a level. -/
def codeClamped (s : State) (c v : Nat) : Bool := v != 0 && calImax s.emit.cal c < codeAsked s c v

/-- A channel takes a level: its code follows, and a clamp is counted and reported once per frame. -/
def setLevel (c v : Nat) (s : State) : State :=
  let hit := codeClamped s c v
  let first := hit && !(laserOf s c).clamped
  let code := sinkCode s c v
  let t := updLaser c (fun l =>
    { l with level := v, code, clamped := l.clamped || hit, clamps := if hit then satInc l.clamps else l.clamps }) s
  if first then report evLdImaxLimit 0 c t else t

/-- A level that the edge stage fires on a port: level 0 behind a closed gate, while the timeline is not valid, on a
channel that may not light, during EXTEST, and outside a running core (R268, R269, R274, R330, R386, 02 R23, R24). -/
def fireLevel (p : Port) (c v : Nat) (s : State) : State :=
  let l := laserOf s c
  let w := (portOf s p).wheel
  let lit := running s && w.gate && w.timeline && l.assigned == some p && !l.waitBoundary && l.armed && channelEnabled s c &&
    !domainHeld s .edge && s.jtag.instr != .extest
  setLevel c (if lit then v else 0) s

/-- A change of scale takes effect in the middle of a pulse (R331). -/
def rescale (s : State) : State :=
  (List.range 4).foldl (fun t c => if (laserOf t c).level = 0 then t else setLevel c (laserOf t c).level t) s

/-- Every channel of a port is lit at level 0. -/
def zeroChannels (p : Port) (s : State) : State := (portChannels s p).foldl (fun t c => setLevel c 0 t) s

end Sys2Proof.Machine
end

