-- ==== Sys2Proof/Machine/Compose.lean ====
section
/-! DEFINITION. Pixel edges and composition (10 R231 to R241): the stall positions of pixel edges, the levels of a composed
line with its missing samples replaced, and the events of a line. -/

namespace Sys2Proof.Machine

open Sys2Proof

/-! Pixel edges (R234, R235), in sixteenths of a stall. -/

/-- The largest k from lo upwards, within fuel halvings, that passes a test which holds up to some k. -/
def bisect (test : Nat → Bool) : Nat → Nat → Nat → Nat
  | 0, lo, _ => lo
  | fuel + 1, lo, hi =>
    if hi ≤ lo + 1 then lo
    else
      let m := (lo + hi) / 2
      if test m then bisect test fuel m hi else bisect test fuel lo m

/-- The edge of pixel i on a forward line, rounded to the nearest sixteenth, halves up (R234). -/
def pixelEdge (st : Store) (p : Port) (i : Nat) : Nat :=
  let sa := fnat st (rasterHsync p) + fnat st (rasterHbp p)
  let hact := fnat st (rasterHact p)
  let n := fnat st (rasterHpix p)
  if fbit st (rasterLin p) then (32 * (sa * n + i * hact) + n) / (2 * n)
  else
    let ua := fieldPos (32 * sa)
    let ub := fieldPos (32 * (sa + hact))
    let want := ua * n + i * (ub - ua)
    bisect (fun k => fieldPos (2 * k - 1) * n ≤ want) 17 (16 * sa) (16 * (sa + hact) + 1)

/-- The edges of a line: entry i is the left edge of pixel i, the last one the end of the window. -/
def pixelEdges (st : Store) (p : Port) : List Nat := (List.range (fnat st (rasterHpix p) + 1)).map (pixelEdge st p)

/-- Where the beam meets the first edge of pixel i, and where it leaves the window. -/
def meetEdge (edges : List Nat) (rev : Bool) (shift : Int) (i : Nat) : Int :=
  if rev then 65536 - (nth edges (i + 1) : Int) + shift else nth edges i

def windowEnd (edges : List Nat) (rev : Bool) (shift : Int) : Int :=
  if rev then 65536 - (nth edges 0 : Int) + shift else nth edges (edges.length - 1)

/-- Pixel columns in the order in which the beam meets them (R235). -/
def travelOrder (rev : Bool) (n : Nat) : List Nat := if rev then (List.range n).reverse else List.range n

/-! Layers (R238, R239). -/

/-- A layer on one line: its image, its origin and its gains per channel. -/
structure LayerIn where
  image : Image
  x : Nat
  y : Nat
  gain : Nat → Nat

/-- The samples of every plane at a place. -/
def planeSamples (i : Image) (x y : Nat) : List Nat :=
  (List.range (formatPlanes i.format)).map fun k => nth i.samples (k * (i.width * i.height) + y * i.width + x)

/-- A pixel lies in the layer's rectangle. -/
def inLayer (l : LayerIn) (x y : Nat) : Bool :=
  l.x ≤ x && x < l.x + l.image.width && l.y ≤ y && y < l.y + l.image.height

/-- What scan-out has left on a line of a layer: the last sample delivered, the missing run, and the counts (R241). -/
structure Underrun where
  last : List Nat := []
  run : Nat := 0
  /-- More than 64 samples in a row have been missing: none is held any longer on the line. -/
  spent : Bool := false
  events : Nat := 0
  missing : Nat := 0
  /-- The samples taken, newest first, with their columns; none counts as 0. -/
  out : List (Nat × List Nat) := []

/-- One pixel of a layer. -/
def takeSample (hold : Bool) (l : LayerIn) (y : Nat) (gone : List Nat) (u : Underrun) (x : Nat) : Underrun :=
  if !inLayer l x y then { u with out := (x, []) :: u.out }
  else if gone.contains x then
    let spent := u.spent || 64 ≤ u.run
    { u with
      run := u.run + 1, spent, missing := u.missing + 1, events := if u.run = 0 then u.events + 1 else u.events
      out := (x, if hold && !spent then u.last else []) :: u.out }
  else
    let v := planeSamples l.image (x - l.x) (y - l.y)
    { u with last := v, run := 0, out := (x, v) :: u.out }

/-- A layer's line in travel order. -/
def layerLine (hold : Bool) (l : Option LayerIn) (y : Nat) (gone order : List Nat) : Underrun :=
  match l with
  | none => {}
  | some l => order.foldl (takeSample hold l y gone) {}

/-- A layer's sample for a channel at a column, before widening (R239). -/
def layerSample (l : Option LayerIn) (u : Underrun) (x c : Nat) : Nat :=
  match l, u.out.find? (·.1 == x) with
  | some l, some e => nth e.2 (if l.image.format = 3 then c else 0)
  | _, _ => 0

/-- A layer's level (R239). -/
def layerLevel (l : Option LayerIn) (u : Underrun) (x c : Nat) : Nat :=
  match l with
  | none => 0
  | some k =>
    let v := layerSample l u x c
    let w := if k.image.format = 2 then v else (v <<< 4) ||| (v >>> 4)
    min 4095 ((w * k.gain c) >>> 12)

/-- The three layers of a line. -/
structure Layers where
  guide : Option LayerIn := none
  live : Option LayerIn := none
  signal : Option LayerIn := none

/-- The composed level of a channel at a column (R240). -/
def composeLevel (st : Store) (l : Layers) (ug ul us : Underrun) (x c : Nat) : Nat :=
  if fbit st layerCombine then
    if layerSample l.signal us x c != 0 then layerLevel l.signal us x c
    else if layerSample l.live ul x c != 0 then layerLevel l.live ul x c
    else layerLevel l.guide ug x c
  else max (layerLevel l.guide ug x c) (max (layerLevel l.live ul x c) (layerLevel l.signal us x c))

/-- A composed line: levels per column and channel, and what was missing: the runs of missing samples of each layer, and the samples. -/
structure Composed where
  levels : List (List Nat)
  events : Nat
  missing : Nat

/-- The columns of a layer that scan-out has not delivered in time. -/
def goneOf (l : Layer) (missing : List (Layer × Nat)) : List Nat := (missing.filter (·.1 == l)).map (·.2)

/-- Compose active line y (R238 to R241). -/
def composeLine (st : Store) (p : Port) (chans : List Nat) (l : Layers) (y : Nat) (rev : Bool)
    (missing : List (Layer × Nat)) : Composed :=
  let n := fnat st (rasterHpix p)
  let order := travelOrder rev n
  let hold := fbit st layerUnderrun
  let ug := layerLine hold l.guide y (goneOf .guide missing) order
  let ul := layerLine hold l.live y (goneOf .live missing) order
  let us := layerLine hold l.signal y (goneOf .signal missing) order
  { levels := (List.range n).map fun x => chans.map fun c => composeLevel st l ug ul us x c
    events := ug.events + ul.events + us.events
    missing := ug.missing + ul.missing + us.missing }

/-! Events from pixels (R237). -/

/-- The events at one edge: (channel, place in sixteenths, level, level before) for each channel whose level changes. -/
def edgeEvents (chans : List Nat) (at16 : Int) (before now : List Nat) : List (Nat × Int × Nat × Nat) :=
  (chans.zipIdx.filter fun c => nth before c.2 != nth now c.2).map fun c => (c.1, at16, nth now c.2, nth before c.2)

/-- The events of the pixels in travel order, and the levels after the last. -/
def walkPixels (chans edges : List Nat) (rev : Bool) (shift : Int) (levels : List (List Nat)) :
    List Nat → List Nat → List (Nat × Int × Nat × Nat)
  | [], before => edgeEvents chans (windowEnd edges rev shift) before []
  | x :: rest, before =>
    let now := levels.getD x []
    edgeEvents chans (meetEdge edges rev shift x) before now ++ walkPixels chans edges rev shift levels rest now

/-- The events of an active line. -/
def lineEvents (st : Store) (p : Port) (chans : List Nat) (levels : List (List Nat)) (rev : Bool) :
    List (Nat × Int × Nat × Nat) :=
  walkPixels chans (pixelEdges st p) rev (fval st (rasterRevShift p)) levels (travelOrder rev (fnat st (rasterHpix p))) []

/-! What a line is composed from. -/

/-- A pen as a layer at an origin. -/
def penLayer (s : State) (i : Option Nat) (x y : Nat) (gain : Nat → Nat) : Option LayerIn :=
  (i.bind (penOf s)).map fun q => { image := q.image, x, y, gain }

/-- The layers from pens under a configuration's fields and an entry (Table 10-3). -/
def layersFrom (s : State) (st : Store) (e guide signal livePen : Option Nat) : Layers :=
  let n := e.getD 0
  { guide := penLayer s guide (fnat st (patternGuideX n)) (fnat st (patternGuideY n)) fun c => fnat st (layerGainG c)
    signal := penLayer s signal (fnat st (patternSigX n)) (fnat st (patternSigY n)) fun c => fnat st (layerGainS c)
    live := penLayer s livePen (fnat st canvasX) (fnat st canvasY) fun c => fnat st (layerGainL c) }

/-- The configuration and layers of a line: those of the frame under way, or, for a line past the next frame boundary, what
was taken at the latch point (R244, R168). A port held dark by a bridge, after a RESTORE or by a swap fetches nothing for the frame under
way. -/
def lineSource (s : State) (p : Port) (next : Bool) : Store × Layers :=
  let q := portOf s p
  let livePen := if q.liveEmpty then none else if next then q.liveTaken.or q.liveShown else q.liveShown
  if !next then
    (q.fields,
      if s.gather.bridge || s.gather.relight || q.swapHold then {} else layersFrom s q.fields q.shown q.guideShown q.signalShown livePen)
  else
    match s.gather.shadow, s.gather.latched == some p with
    | some c, true =>
      let pen := fun (l : Option Nat) => l.bind fun i => penWith s (leafOf c i)
      let e := s.gather.entry
      (c.folios, layersFrom s c.folios e (e.bind fun n => pen (guideLeaf c n p)) (e.bind fun n => pen (signalLeaf c n p)) livePen)
    | _, _ =>
      match q.taken with
      | some e => (live s, layersFrom s (live s) (some e) q.guideTaken q.signalTaken livePen)
      | none => (live s, layersFrom s (live s) q.shown q.guideShown q.signalShown livePen)

end Sys2Proof.Machine
end

