-- ==== Sys2Proof/Machine/Wheel.lean ====
section
/-! DEFINITION. The pulse wheel (11 R260 to R277, 16 R378): the render stage, the ring and its late slots, the fetch stage, the
edge timeline, and the delay-line calibration. -/

namespace Sys2Proof.Machine

open Sys2Proof

/-! Positions (R261). -/

/-- The first stall of a line. -/
def lineStart (n : Nat) : BitVec 32 := BitVec.ofNat 32 (4096 * n)

/-- A position has reached another: their difference modulo 2^32 as a signed number is not negative. -/
def reached (pos target : BitVec 32) : Bool := 0 ≤ (pos - target).toInt

/-- Lines are told apart modulo 2^20, as the position is modulo 2^32. -/
def lineMod (n : Nat) : Nat := n % 1048576

/-! Writing events (R265, R266). -/

/-- A write to a stall and channel replaces an earlier one. -/
def putEntry (e : RingEntry) (r : List RingEntry) : List RingEntry :=
  r.filter (fun x => !(x.slot == e.slot && x.channel == e.channel)) ++ [e]

/-- Post a level to a channel's late slot; the lower of two stays. -/
def postLate (c v : Nat) (l : List (Nat × Nat)) : List (Nat × Nat) :=
  match l.find? (·.1 == c) with
  | some e => l.filter (·.1 != c) ++ [(c, min e.2 v)]
  | none => l ++ [(c, v)]

def bumpCounters (f : WheelCounters → WheelCounters) (w : Wheel) : Wheel := { w with counters := f w.counters }

/-- The test of R265 on one event that is not held. -/
def writeEvent (d : Int) (e : Event) (w : Wheel) : Wheel :=
  if 16 ≤ d then
    let x : RingEntry := { slot := e.target % 32768, channel := e.channel, level := e.level, frac := e.frac
                           lap := (e.target / 32768) % 4 }
    { w with ring := putEntry x w.ring }
  else if e.prev < e.level then
    bumpCounters (fun k => { k with lateDropped := satInc k.lateDropped }) { w with frameDrops := w.frameDrops + 1 }
  else
    bumpCounters (fun k => { k with lateExecuted := satInc k.lateExecuted })
      { w with lateSlots := postLate e.channel e.level w.lateSlots }

/-- The moves that the events after the first are tested at; the last one stands for every later event. -/
def laterMoves : List Nat → List Nat
  | [m] => [m]
  | l => l.tail

/-- The events of a port in order, each tested at the seen position of its own moment (R265): moves says how far the position has moved on
for each of them. The first that must be held holds every later one, and is counted once. -/
def testEvents (pos : BitVec 32) : List Nat → List Event → Wheel → Wheel
  | _, [], w => { w with held := [] }
  | moves, e :: rest, w =>
    let d := (BitVec.ofNat 32 e.target - (pos + BitVec.ofNat 32 (moves.headD 0))).toInt
    if 32768 ≤ d then
      let v := if e.counted then w else bumpCounters (fun k => { k with heldEvents := satInc k.heldEvents }) w
      { v with held := { e with counted := true } :: rest }
    else testEvents pos (laterMoves moves) rest (writeEvent d e w)

/-- A line is marked complete once its last event has been written (16 R378). -/
def markComplete (n : Nat) (w : Wheel) : Wheel := { w with complete := (lineMod n :: w.complete).take 64 }

/-- Test the events that wait; when none is left, the line they belong to is complete. -/
def retest (pos : BitVec 32) (w : Wheel) : Wheel :=
  if w.held.isEmpty then w
  else
    let v := testEvents pos [] w.held w
    if v.held.isEmpty then markComplete (v.nextLine - 1) v else v

/-! The render stage. -/

/-- Active line y of raster line n in a frame that begins at line fb. -/
def activeLine (fb n vact : Nat) : Option Nat := if fb ≤ n && n < fb + vact then some (n - fb) else none

/-- The active line that a raster line is, and whether it belongs to the next frame. -/
def lineRole (q : PortState) (p : Port) (n : Nat) : Bool × Option Nat :=
  if q.nextFb ≤ n then (true, activeLine q.nextFb n (fnat q.vertFields (rasterVact p))) else (false, activeLine q.fbLine n q.vact)

/-- Keep a composed line for the checks (16 R373). -/
def keepLine (p : Port) (n : Nat) (levels : List (List Nat)) (s : State) : State :=
  updPort s p fun q => { q with lines := q.lines ++ [(n, levels)] }

/-- A skipped line (R264): no event, and dark levels for the checks. -/
def skipLine (p : Port) (s : State) : State :=
  let q := portOf s p
  let n := q.wheel.nextLine
  let r := lineRole q p n
  let src := lineSource s p r.1
  let dark := List.replicate (fnat src.1 (rasterHpix p)) ((portChannels s p).map fun _ => 0)
  let t := if r.2.isSome then keepLine p n dark s else s
  updWheel t p fun w =>
    markComplete n (bumpCounters (fun k => { k with lineSkipped := satInc k.lineSkipped }) { w with nextLine := n + 1 })

/-- The events of a line as the render stage tests them. -/
def toEvents (n : Nat) (l : List (Nat × Int × Nat × Nat)) : List Event :=
  l.map fun e =>
    { target := (4096 * n + (e.2.1 / 16).toNat) % 2 ^ 32, channel := e.1, level := e.2.2.1, frac := (e.2.1 % 16).toNat,
      prev := e.2.2.2, counted := false }

/-- The times that a port's scan-out buffer emptied on a line (R226): the runs of columns, in travel order, at which some layer's sample was
missing. -/
def emptyRuns (missing : List (Layer × Nat)) : Bool → List Nat → Nat
  | _, [] => 0
  | was, x :: rest =>
    let gone := missing.any fun e => e.2 == x
    (if gone && !was then 1 else 0) + emptyRuns missing gone rest

/-- Render a line (R263, R265): composed, counted, kept for the checks, and its events tested from the seen position on. -/
def renderLine (p : Port) (pos : BitVec 32) (moves : List Nat) (missing : List (Layer × Nat)) (s : State) : State :=
  let q := portOf s p
  let n := q.wheel.nextLine
  let r := lineRole q p n
  match r.2 with
  | none => updWheel s p fun w => markComplete n { w with nextLine := n + 1 }
  | some y =>
    let src := lineSource s p r.1
    let chans := portChannels s p
    let rev := n % 2 = 1
    let c := composeLine src.1 p chans src.2 y rev missing
    let shown := if q.blanked then c.levels.map fun l => l.map fun _ => 0 else c.levels
    let t := updPort (keepLine p n c.levels s) p fun q =>
      { q with underruns := satAdd q.underruns c.events, missing := satAdd q.missing c.missing }
    let empties := emptyRuns missing false (travelOrder rev (fnat src.1 (rasterHpix p)))
    let u := { t with matrix := { t.matrix with scanEmpty := modAt t.matrix.scanEmpty (portNum p) fun k => satAdd k empties } }
    updWheel u p fun w =>
      let v := testEvents pos moves (toEvents n (lineEvents src.1 p chans shown rev)) { w with nextLine := n + 1 }
      if v.held.isEmpty then markComplete n v else v

/-- The seen absolute position (R261, R265): the 15-bit position that crosses, extended by its counted wraps, is the absolute position that the
port had lag stalls ago. -/
def seenPosition (w : Wheel) (lag : Nat) : BitVec 32 := w.position - BitVec.ofNat 32 lag

/-- RENDER_LINE (R263 to R265). lag is how many stalls the crossing lags, at most 7; moves is how far the position moves on from the line's
beginning to the test of each of its events. While events are held, they are tested again and no line begins. -/
def execRenderLine (p : Port) (lag : Nat) (moves : List Nat) (missing : List (Layer × Nat)) (s : State) : Out :=
  let q := portOf s p
  let n := q.wheel.nextLine
  let seen := seenPosition q.wheel lag
  let t :=
    if !q.wheel.held.isEmpty then updWheel s p (retest seen)
    else if !reached seen (lineStart n - 12288#32) then s
    else if reached seen (lineStart n - 4096#32) then skipLine p s
    else renderLine p seen moves missing s
  guarded (sysRuns s && q.raster && !q.wheel.clearing) s t

/-- WHEEL_LATE (R275). -/
def execWheelLate (p : Port) (s : State) : Out :=
  let q := portOf s p
  let t := report evWheelLate 0 (portNum p) (updWheel s p fun w => { w with lateReported := true })
  let u := if fbit q.fields wheelLateDark then
      closeGate p (updWheel t p fun w => { w with lateDark := true })
    else t
  guarded (running s && q.raster && fnat q.fields wheelLateLimit < q.wheel.frameDrops && !q.wheel.lateReported) s u

/-- COMPOSE_STALE_LINE (16 R378): level 0 goes to the late slot of every channel of the port; after `COMP_STALE` lines the keeper
resets `CK_SYS`. -/
def execComposeStaleLine (p : Port) (s : State) : Out :=
  let q := portOf s p
  let n := q.wheel.position.toNat / 4096
  let t := report evComposeStale 0 (16 * portNum p) (updWheel s p fun w =>
    { w with
      lateSlots := (portChannels s p).foldl (fun l c => postLate c 0 l) w.lateSlots
      staleRun := w.staleRun + 1 })
  let u :=
    if fnat q.fields integrityCompStale ≤ q.wheel.staleRun + 1 && !domainHeld s .sys then
      resetDomain .sys (updWheel t p fun w => { w with staleRun := 0 })
    else t
  guarded (running s && q.raster && !q.wheel.complete.contains n) s u

/-! The fetch stage (R266, R267). -/

/-- A word of 20 bits has an even number of ones. -/
def evenOnes (w : Nat) : Bool := ((List.range 20).filter fun k => w.testBit k).length % 2 == 0

/-- A valid entry as its word of Table 11-1, with the parity bit that makes its ones even. -/
def entryWord (x : RingEntry) : Nat :=
  let w := x.level % 4096 + 4096 * (x.frac % 16) + 65536 * (x.lap % 4) + 262144
  if evenOnes w then w else w + 524288

/-- The bits of a channel's entry that an upset has turned, 0 for none. -/
def flipsOf (flips : List (Nat × Nat)) (c : Nat) : Nat := ((flips.find? fun e => e.1 == c).map (·.2)).getD 0

/-- What the ring gives a channel at a stall: its event, and how the counters move. -/
def ringEvent (f : BitVec 32) (flips : List (Nat × Nat)) (c : Nat) (w : Wheel) : Option (Nat × Nat) × Wheel :=
  let x := ((w.ring.find? fun x => x.slot == f.toNat % 32768 && x.channel == c).map entryWord).getD 0 ^^^ flipsOf flips c
  if !x.testBit 18 then (none, w)
  else if !evenOnes x then (some (0, 0), bumpCounters (fun k => { k with ringParity := satInc k.ringParity }) w)
  else if x / 65536 % 4 != (f.toNat / 32768) % 4 then
    (none, bumpCounters (fun k => { k with tagMismatch := satInc k.tagMismatch }) w)
  else (some (x % 4096, x / 4096 % 16), w)

/-- Merge a full late slot with the stall's event (R266), and empty it. -/
def mergeLate (c : Nat) (ev : Option (Nat × Nat)) (w : Wheel) : Option (Nat × Nat) × Wheel :=
  match w.lateSlots.find? (·.1 == c) with
  | none => (ev, w)
  | some e =>
    let v := match ev with
      | some x => min x.1 e.2
      | none => e.2
    (some (v, 0), { w with lateSlots := w.lateSlots.filter (·.1 != c) })

/-- One channel of the stall that is fetched. -/
def fetchChannel (f : BitVec 32) (flips : List (Nat × Nat)) (a : List (Nat × Nat × Nat) × Wheel) (c : Nat) :
    List (Nat × Nat × Nat) × Wheel :=
  let r := ringEvent f flips c a.2
  let m := mergeLate c r.1 r.2
  let w := { m.2 with ring := m.2.ring.filter fun x => !(x.slot == f.toNat % 32768 && x.channel == c) }
  match m.1 with
  | some e => (a.1 ++ [(c, e.1, e.2)], w)
  | none => (a.1, w)

/-! The edge stage (R269, R270, R273). -/

/-- A channel fires in whole ticks: its `WHEEL.SUBTICK` bit is 0, the master delay loop has lost lock, or its trim is at an
end. -/
def wholeTicks (s : State) (p : Port) (c : Nat) : Bool :=
  !(fnat (portOf s p).fields wheelSubtick).testBit c || s.emit.dllLost.contains p || s.emit.trimEnd.contains c

/-- The time in sub-ticks at which an event fires (R270); none before the timeline has an anchor and a period. -/
def placeEdge (s : State) (p : Port) (f : BitVec 32) (c frac : Nat) : Option Nat :=
  let w := (portOf s p).wheel
  match w.anchors, stallPeriod w with
  | a :: _, some tp =>
    let d : Int := (f - BitVec.ofNat 32 a.1).toInt
    let x : Int := a.2 * 1048576 + d * (16 * tp) + frac * tp + fval (portOf s p).fields (wheelSkew c) * 1048576
    let t := (x + 524288) / 1048576
    some (if wholeTicks s p c then 16 * ((t + 8) / 16) else t).toNat
  | _, _ => none

/-- Measure the start of a stall whose index is a multiple of 64 (R269). -/
def takeAnchor (pos : BitVec 32) (anchor : Nat) (w : Wheel) : Wheel :=
  if pos.toNat % 64 = 0 then { w with anchors := ((pos.toNat, anchor) :: w.anchors).take 130 } else w

/-- The events of a stall pass to the edge stage, which places them. -/
def queueEvents (p : Port) (f : BitVec 32) (evs : List (Nat × Nat × Nat)) (s : State) : State :=
  if evs.isEmpty || domainHeld s .edge then s
  else
    let placed := evs.filterMap fun e => (placeEdge s p f e.1 e.2.2).map fun t => (e.1, t, e.2.1)
    updWheel s p fun w =>
      { w with queue := w.queue ++ [(f.toNat, evs)]
               fired := if w.timeline && !placed.isEmpty then placed else w.fired }

/-- The events whose stall has begun change their channels' levels, in stall order. -/
def fireDue (p : Port) (pos : BitVec 32) (s : State) : State :=
  let w := (portOf s p).wheel
  let due := w.queue.filter fun e => reached pos (BitVec.ofNat 32 e.1)
  let t := updWheel s p fun w => { w with queue := w.queue.filter fun e => !reached pos (BitVec.ofNat 32 e.1) }
  due.foldl (fun u e => e.2.foldl (fun v x => fireLevel p x.1 x.2.1 v) u) t

/-- The first vertical sync line of the next frame. -/
def syncLine (q : PortState) (p : Port) : Nat :=
  q.nextFb - (fnat q.vertFields (rasterVsync p) + fnat q.vertFields (rasterVbp p))

/-- The monitor pulses (14 R332): channel c from stall 512 + 768c of the first vertical sync line, while the gate is open. -/
def monitor (p : Port) (pos : BitVec 32) (s : State) : State :=
  let q := portOf s p
  let at_ := pos.toNat % 4096
  let one := fun (t : State) (c : Nat) =>
    if !(fnat (live s) emitMonEn).testBit c then t
    else if at_ = 512 + 768 * c then fireLevel p c (fnat (live s) emitMonLevel) t
    else if at_ = 512 + 768 * c + fnat (live s) emitMonStalls then fireLevel p c 0 t
    else t
  if q.wheel.gate && pos.toNat / 4096 == lineMod (syncLine q p) then (portChannels s p).foldl one s else s

/-- A line whose end is reached complete ends a run of stale lines (16 R378). -/
def endLine (pos : BitVec 32) (w : Wheel) : Wheel :=
  if pos.toNat % 4096 = 4095 && w.complete.contains (pos.toNat / 4096) then { w with staleRun := 0 } else w

/-- The position moves to the stall that begins; the first stall after a raster start is stall 0. -/
def nextPosition (w : Wheel) : BitVec 32 := if w.fresh then w.position else w.position + 1

/-- STALL_FETCH (R261, R266, R267, R269, R270). -/
def execStallFetch (p : Port) (e : StallSight) (s : State) : Out :=
  let pos := nextPosition (portOf s p).wheel
  let f := pos + 8#32
  let s1 := updWheel s p fun w =>
    let v := endLine pos { w with position := pos, fresh := false }
    retest pos (if domainHeld s .edge then v else takeAnchor pos e.anchor v)
  let r := (portChannels s1 p).foldl (fetchChannel f e.flips) ([], (portOf s1 p).wheel)
  let s2 := queueEvents p f r.1 (updWheel s1 p fun _ => r.2)
  guarded (running s && (portOf s p).raster && portIsLocked (portOf s p)) s (monitor p pos (fireDue p pos s2))

/-- TIMELINE_VALID (R269): 8,192 stalls are measured since the raster's start or the reset of `CK_EDGE` (R276). -/
def execTimelineValid (p : Port) (s : State) : Out :=
  let q := portOf s p
  guarded (running s && q.raster && !q.wheel.timeline && (stallPeriod q.wheel).isSome && !domainHeld s .edge) s
    (updWheel s p fun w => { w with timeline := true })

/-! The delay lines (R272, R273). -/

/-- A trim that has reached an end of its range. -/
def trimAtEnd (v : Nat) : Bool := v == 0 || 31 ≤ v

/-- A comparison of a channel's test edge (R272): a late edge asks for a shorter line; after 16 in a row that agree, the trim moves by one
step. -/
def compareEdge (s : State) (x : Nat × Bool) : State :=
  let r := s.emit.trimRuns.getD x.1 (false, 0)
  let n := if r.1 == x.2 then r.2 + 1 else 1
  let move := fun (v : Nat) => if x.2 then v - 1 else min 31 (v + 1)
  { s with emit :=
    { s.emit with
      trimRuns := s.emit.trimRuns.set x.1 (x.2, if n = 16 then 0 else n)
      trims := if n = 16 then modAt s.emit.trims x.1 move else s.emit.trims } }

/-- How long something has held, in schedule frames up to 1 ms. -/
def holds (ok : Bool) (n : Nat) : Nat := if ok then min 1000 (n + 1) else 0

/-- A schedule frame of the delay lines: the comparisons that fell in it, and how long the loop and the trims have held. -/
def delayFrame (comparisons : List (Nat × Bool)) (locked : Bool) (s : State) : State :=
  let t := comparisons.foldl compareEdge s
  { t with emit :=
    { t.emit with
      dllHeld := holds locked t.emit.dllHeld
      trimHeld := t.emit.trimHeld.zipIdx.map fun e => holds (!trimAtEnd (nth t.emit.trims e.2)) e.1 } }

/-- DLL_LOCK_LOST (R273): the master loop, or one channel's trim at an end of its range. -/
def execDllLockLost (channel : Option Nat) (s : State) : Out :=
  let u :=
    match channel with
    | none => report evDllCoarse 0 0 { s with emit := { s.emit with dllLost := [.a, .b], dllHeld := 0 } }
    | some c =>
      report evDllCoarse 0 (((laserOf s c).assigned.map portNum).getD 0)
        { s with emit := { s.emit with trimEnd := if s.emit.trimEnd.contains c then s.emit.trimEnd else s.emit.trimEnd ++ [c] } }
  guarded (running s && s.core.plls && channel.all fun c => trimAtEnd (s.emit.trims.getD c 16)) s u

/-- Sub-tick placement returns at a port's frame boundary once the loop has held lock, or the channel's trim its range, for 1 ms (R273). -/
def dllReturns (p : Port) (s : State) : State :=
  { s with emit :=
    { s.emit with
      dllLost := if s.emit.dllHeld < 1000 then s.emit.dllLost else s.emit.dllLost.filter fun q => q != p && (portOf s q).raster
      trimEnd := s.emit.trimEnd.filter fun c =>
        nth s.emit.trimHeld c < 1000 || (laserOf s c).assigned.any fun q => q != p && (portOf s q).raster } }

end Sys2Proof.Machine
end

