-- ==== Sys2Proof/Machine/Picture.lean ====
section
/-! DEFINITION. What a port shows and when (10 R232, R233, R242 to R246, R251, 16 R373 to R377): selections, latch points, frame
boundaries with their checks, qualifications and gates, the start of a raster, and the stale watch of live frames. -/

namespace Sys2Proof.Machine

open Sys2Proof

/-! Selections (R242, R243). -/

/-- The leaves of an entry that no pen holds. -/
def missingLeaves (s : State) (l : List Nat) : List Nat := l.filter fun i => (penWith s (leafOf s.binding.live i)).isNone

/-- A decode is refused: an abort is held (07 R178), or the binding cannot be read (04 R78, R94). -/
def decodeRefused (s : State) : Bool := s.pins.abortLow || (domainOf s .mem).quarantined || s.binding.unreadable

def countStrobe (s : State) : State := { s with beacon := { s.beacon with pstbIgnored := satInc s.beacon.pstbIgnored } }

/-- A stitch request has been seen, and its gathering has no outcome yet (07 R172). -/
def stitchSeen (s : State) : Bool := s.gather.state != .closed && s.gather.state != .opened

/-- A selection that has been seen; a halted head's counters stay frozen (17 R405). One of the shown entry clears the pending
selection; after a stitch request it stays pending until the outcome (07 R172). -/
def seeSelection (n : Nat) (s : State) : State :=
  if s.core.halted then s
  else if !s.core.service then countStrobe s
  else if !entryUsed s.binding.live n then
    report evPatternEmpty 0 n { s with beacon := { s.beacon with patternEmpty := satInc s.beacon.patternEmpty } }
  else if shownEntry s == some n then
    { s with select := { s.select with pending := if stitchSeen s then some n else none } }
  else if !(missingLeaves s (entryLeaves s s.binding.live n)).isEmpty && decodeRefused s then countStrobe s
  else selectEntry n s

/-- PATTERN_SELECT (R242, R243, R245); a restore that has failed is tried again at once (07 R169). -/
def execPatternSelect (psel : BitVec 6) (highNs : Nat) (s : State) : Out :=
  let r := pulse s highNs 0 50
  let t := seeSelection psel.toNat r.2
  let u := if t.gather.restoreFailed && t.gather.state == .closed && !t.pins.abortLow then retryRestore t else t
  guarded (running s && !domainHeld s .sys) s (if r.1 then u else r.2)

/-! Latch points (R244, R245, R251). -/

/-- The pending selection, where a latch point may take it: after a stitch request only the one that was pending at the request
may be taken, and none inside a bridge (07 R172). -/
def takeable (s : State) : Option Nat :=
  if s.gather.bridge then none
  else
    match s.gather.state with
    | .closed => s.select.pending
    | .opened => s.select.pending
    | _ => if s.gather.pendingAt == s.select.pending then s.select.pending else none

/-- The entry that a port is to take: the pending selection, and for a port that shows nothing yet the entry of the other port
or the current entry. -/
def latchChoice (s : State) (p : Port) : Option Nat :=
  match (portOf s p).shown with
  | some e => (takeable s).filter (· != e)
  | none => ((takeable s).or (portOf s (otherPort p)).shown).or s.select.current

/-- The order of the ports: port B takes an entry after port A while port A runs. -/
def mayTake (s : State) (p : Port) (e : Nat) : Bool := p == .a || !s.portA.raster || s.portA.shown == some e

/-- A port takes an entry with its pens. -/
def takeEntry (p : Port) (e : Nat) (s : State) : State :=
  let c := s.binding.live
  let t := updPort s p fun q =>
    { q with taken := some e, guideTaken := livePenFor s (guideLeaf c e p), signalTaken := livePenFor s (signalLeaf c e p) }
  { t with select := { t.select with current := some e } }

/-- Ask for the leaves of an entry that a port cannot take yet; a leaf already asked for is not asked for again. -/
def askLeaves (e : Nat) (l : List Nat) (s : State) : State :=
  if decodeRefused s then s
  else
    let c := s.binding.live
    let asked := fun (t : State) (i : Nat) =>
      let k := leafOf c i
      (laneJobs t).any fun j => !isCalJob j && j.leafLength == k.length && j.crc == k.crc && j.kind == k.kind
    l.foldl (fun t i => if asked t i then t else requestLeaf false c .pattern e i t) s

/-- Pens decoded afresh by 16 R375 stand ready for what the port shows. -/
def freshReady (s : State) (p : Port) (e : Nat) : Bool :=
  let c := s.binding.live
  let new := fun (l : Option Nat) (now : Option Nat) =>
    let i := livePenFor s l
    i != now && (i.bind (penOf s)).any (·.fresh)
  leavesHeld s c (portLeaves c e p) &&
    (new (guideLeaf c e p) (portOf s p).guideShown || new (signalLeaf c e p) (portOf s p).signalShown)

/-- The selection's part of a latch point. -/
def latchSelection (p : Port) (s : State) : State :=
  match latchChoice s p with
  | some e =>
    let l := portLeaves s.binding.live e p
    if leavesHeld s s.binding.live l then (if mayTake s p e then takeEntry p e s else s)
    else if (portOf s p).shown.isNone then askLeaves e (missingLeaves s l) s
    else s
  | none =>
    match (portOf s p).shown with
    | some e => if freshReady s p e then takeEntry p e s else s
    | none => s

/-- The live frame's part: the newest published frame of the port is taken, and one it passes over retires. -/
def latchLive (p : Port) (s : State) : State :=
  let l := (s.pens.list.filter fun e => e.2.kind == .live && e.2.port == p && e.2.state == .standby).map (·.1)
  let q := portOf s p
  let empty := q.liveStale && fbit q.fields integrityLiveAction
  updPort (retirePens l.dropLast s) p fun q => { q with liveTaken := l.getLast?, liveEmpty := q.liveEmpty || empty }

/-- Port B's latch point completes a takeover of the spare role (12 R289). -/
def latchTakeover (p : Port) (s : State) : State :=
  if p == .b && s.emit.takeoverDue then assignChannels { s with emit := { s.emit with takeoverDue := false } } else s

/-- The steps of a latch point. -/
def latchSteps (p : Port) (s : State) : State :=
  updPort (latchStitch p (latchTakeover p (latchSelection p (latchLive p s)))) p fun q => { q with pastLatch := true }

/-- LATCH_POINT (R244). -/
def execLatchPoint (p : Port) (s : State) : Out := guarded (sysRuns s && (portOf s p).raster) s (latchSteps p s)

/-! Checked frames (16 R373 to R375). -/

/-- The composed levels of a check's rectangle as bytes; a line that was not composed is dark. -/
def rectBytes (q : PortState) (chans : List Nat) (r : Nat × Nat × Nat × Nat) : List Byte :=
  (List.range r.2.2.2).flatMap fun dy =>
    let row := (q.lines.find? fun l => l.1 == q.fbLine + r.2.1 + dy).map (·.2)
    (List.range r.2.2.1).flatMap fun dx =>
      let v := (row.getD []).getD (r.1 + dx) []
      (List.range chans.length).flatMap fun k => leBytes 2 (nth v k)

/-- The checks of the ended frame that do not match, with their values. -/
def mismatchesOf (s : State) (p : Port) (q : PortState) (e : Nat) : List (Nat × Nat) :=
  (List.range 8).filterMap fun k =>
    let r := fnat q.fields (patternRsel p e k)
    if r = 255 then none
    else
      let v := crc32c (rectBytes q (portChannels s p) (rectOf q.fields p r))
      if v = fnat q.fields (patternCrc p e k) then none else some (k, v)

/-- A frame was checked: the gate stayed open, and the entry and the I fields are the same at both boundaries. -/
def frameChecked (s : State) (p : Port) (q : PortState) : Bool :=
  q.gateWhole && q.frameEntry.isSome && (portOf s p).shown == q.frameEntry && q.fields == live s

/-- A mismatch is reported; only the first of a run pulses `FAULT_N`. -/
def reportMismatch (p : Port) (first : Bool) (m : Nat × Nat) (s : State) : State :=
  let t := reportX evCrcMismatch (m.2 % 256) (16 * portNum p + m.1) (some (m.2 / 256)) s
  if first then t else { t with beacon := { t.beacon with pulse := s.beacon.pulse } }

/-- What a run of mismatching frames does (R375). -/
def mismatchAction (p : Port) (q : PortState) (e : Nat) (s : State) : State :=
  let act := fnat q.fields integrityCrcAction
  let c := s.binding.live
  if act = 0 then s
  else
    let t := if decodeRefused s then s
      else (portLeaves c e p).foldl (fun u i => requestLeaf false c .recheck e i u) s
    updPort t p fun r => { r with mismatchHeld := true, blanked := r.blanked || act == 2 }

/-- The checks of a frame that has ended; q is the port before the boundary. -/
def checkFrame (p : Port) (q : PortState) (s : State) : State :=
  if !frameChecked s p q then s
  else
    let e := q.frameEntry.getD 0
    match mismatchesOf s p q e with
    | [] => updPort s p fun r => { r with mismatchRun := 0, mismatchHeld := false, blanked := false }
    | m :: rest =>
      let run := q.mismatchRun + 1
      let t := rest.foldl (fun u k => reportMismatch p false k u) (reportMismatch p (q.mismatchRun = 0) m s)
      let u := updPort t p fun r =>
        { r with mismatchRun := run
                 mismatches := (m :: rest).foldl (fun l k => modAt l k.1 satInc) r.mismatches }
      if run % fnat q.fields integrityCrcCount = 0 then mismatchAction p q e u else u

/-! Frame boundaries. -/

/-- The entry and pens taken at the latch point become SHOWN; pens no longer shown retire (R244). -/
def showTaken (p : Port) (s : State) : State :=
  let q := portOf s p
  match q.taken with
  | none => s
  | some e =>
    let t := updPort s p fun r =>
      { r with shown := some e, guideShown := q.guideTaken, signalShown := q.signalTaken, taken := none, guideTaken := none,
               signalTaken := none }
    retireUnshown (markShown q.signalTaken (markShown q.guideTaken t))

/-- The live pen taken becomes SHOWN; the one before it retires (R251). -/
def showLive (p : Port) (s : State) : State :=
  let q := portOf s p
  match q.liveTaken.bind fun i => (penOf s i).map fun k => (i, k) with
  | none => updPort s p fun r => { r with liveTaken := none }
  | some (i, k) =>
    let t := updPort s p fun r => { r with liveShown := some i, liveTaken := none, liveSeen := true, liveSeq := k.seq }
    retirePens (q.liveShown.filter (· != i)).toList (markShown (some i) t)

/-- The lead port's frame boundary lights what a RESTORE or its retry has left dark (07 R167, R169). -/
def relightAt (p : Port) (s : State) : State :=
  if leadPort s != some p then s
  else
    let t := { s with gather := { s.gather with relight := false, reshowDue := false } }
    if s.gather.reshowDue then reshow t else t

/-- The shown configuration of the next frame: a swap, or what was taken and then the start of a bridge (07 R163 to R168). -/
def boundaryShows (p : Port) (s : State) : State :=
  if leadPort s == some p && s.gather.latched == some p && swapReady s then swap s
  else stitchAtBoundary p (showTaken p (relightAt p s))

/-- The cartridge qualifies (04 R83, R84). -/
def qualifyCart (s : State) : State :=
  requestCal (report evCartQualified (if s.cart.reused then 1 else 0) s.cart.code
    { s with cart := { s.cart with qualified := true, step := .idle, fails := 0, lastCode := s.cart.code, genChanged := false
                                   lastTemp := none, hasQualified := true } })

/-- A port whose cross-check passed qualifies, and with the first port the cartridge (04 R72, R83, R84). A port A that serves again ends a
takeover in the clone role; one in the spare role stays (12 R289, R290). -/
def qualifyPort (p : Port) (s : State) : State :=
  if !(portOf s p).checkPassed then s
  else
    let t := updPort s p fun q =>
      { q with qualified := true, checkPassed := false, down := false, restarting := false, served := true }
    let u := if t.cart.qualified then t else qualifyCart t
    takeover false
      (if p == .a && !fbit (live u) (mirrorRole .b) then { u with emit := { u.emit with takeover := false } } else u)

/-- The line of the frame boundary after one at line n: the direction of a line is that of its index (R232). -/
def boundaryAfter (st : Store) (p : Port) (n : Nat) : Nat :=
  let k := n + vTotal st p
  if k % 2 = (fnat st (rasterVsync p) + fnat st (rasterVbp p)) % 2 then k else k + 1

/-- The port's frame begins: its folio fields are taken, and what lasts until a frame boundary ends. -/
def beginFrame (p : Port) (s : State) : State :=
  let t := updPort s p fun q =>
    { q with
      fields := live s, fbLine := q.nextFb, vact := fnat q.vertFields (rasterVact p)
      nextFb := boundaryAfter q.vertFields p q.nextFb
      lines := q.lines.filter fun l => q.nextFb ≤ l.1
      frames := q.frames + 1, pastLatch := false, frameEntry := q.shown, swapHold := false
      wheel := { q.wheel with frameDrops := 0, lateReported := false, lateDark := false } }
  let fresh := fun (l : Laser) => if l.assigned == some p then { l with clamped := false, hrReported := false } else l
  let u := { t with emit := { t.emit with lasers := t.emit.lasers.map fresh } }
  if leadPort s == some p then { u with select := { u.select with lastShown := (portOf s p).shown.or s.select.lastShown } } else u

/-- Every cause that closes a port's gate has ended (R268). -/
def gateAllowed (s : State) (p : Port) : Bool :=
  running s && guideAllowed s && s.supply.vmir && portServes s p && !s.gather.bridge && !s.gather.relight && !(portOf s p).swapHold &&
    (portOf s p).wheel.timeline && !(portOf s p).wheel.lateDark && s.jtag.instr != .extest && !domainHeld s .edge && !domainHeld s .sys &&
    !domainHeld s (match p with | .a => .mirA | .b => .mirB)

/-- The gate at a frame boundary: opened when every cause has ended, its channels starting at level 0 (R268, R274). -/
def gateAtBoundary (p : Port) (s : State) : State :=
  if gateAllowed s p then
    let was := gateOpen s p
    let t := updPort s p fun q => { q with gateWhole := true, wheel := { q.wheel with gate := true } }
    let lit := fun (l : Laser) => if l.assigned == some p then { l with waitBoundary := false } else l
    let u := { t with emit := { t.emit with lasers := t.emit.lasers.map lit } }
    if was then u else zeroChannels p u
  else closeGate p s

/-- A selection that every running port shows is no longer pending (R244); one seen after a stitch request waits for the outcome (07 R172). -/
def endPending (s : State) : State :=
  match s.select.pending with
  | none => s
  | some e =>
    let run := [Port.a, Port.b].filter (portRuns s)
    if !run.isEmpty && (run.all fun p => (portOf s p).shown == some e) && (!stitchSeen s || s.gather.pendingAt == some e) then
      { s with select := { s.select with pending := none }, gather := { s.gather with pendingAt := none } }
    else s

/-- The lead port's frame boundaries are counted for the beacon (17 R399). -/
def countBoundary (p : Port) (s : State) : State :=
  if leadPort s == some p then
    { s with beacon := { s.beacon with sinceFrame := (s.beacon.sinceFrame + 1) % fnat (live s) beaconFrameDiv } }
  else s

/-- What a frame boundary does in `CK_SYS`: what is shown changes, the frame that has ended is checked, and the port may qualify. -/
def boundarySys (p : Port) (s : State) : State :=
  qualifyPort p (checkFrame p (portOf s p) (boundaryShows p (showLive p (countBoundary p s))))

/-- FRAME_BOUNDARY (R232, R244). While `CK_SYS` is held in reset the port's frame turns over behind its closed gate, and nothing else
happens (00 R425, 04 Table 4-2). -/
def execFrameBoundary (p : Port) (s : State) : Out :=
  let t := passBoundary p s
  let u :=
    if domainHeld s .sys then closeGate p (beginFrame p t)
    else restoreProgress (endPending (gateAtBoundary p (dllReturns p (beginFrame p (boundarySys p t)))))
  guarded (running s && !s.core.halted && (portOf s p).raster) s u

/-! The start of a raster (R232, R233). -/

/-- The slow-axis rate is outside 30 Hz to 120 Hz: the port is out of service, and a qualification under way has lost it. -/
def rasterRate (p : Port) (s : State) : State :=
  portFailsQual <| report evRasterRate 0 (portNum p)
    (updPort (coastPort p s) p fun q => { q with outOfService := true, down := true, restarting := false })

/-- The wheel at a raster start: position 0, an empty ring, and its counters as they are. -/
def freshWheel (w : Wheel) : Wheel := { counters := w.counters, fresh := true }

/-- A locked port's raster starts at the turning point before a forward line. A first frame boundary nearer than the latch
distance has its latch point here (R244). -/
def startRaster (p : Port) (s : State) : State :=
  let q := portOf s p
  if !slowRateOk q.vertFields p (lockedHz q) then takeover false (rasterRate p s)
  else
    let first := fnat q.vertFields (rasterVsync p) + fnat q.vertFields (rasterVbp p)
    let lead := p == .a || !s.portA.raster
    let t := updPort s p fun q =>
      { q with raster := true, frames := 0, fields := live s, fbLine := 0, nextFb := first, vact := 0, lines := []
               frameEntry := none, gateWhole := false, mismatchRun := 0, wheel := freshWheel q.wheel }
    let u := if lead then { t with beacon := { t.beacon with sinceFrame := 0 } } else t
    if 4096 * first < fnat (live u) layerLatch && sysRuns u then latchSteps p u else u

/-- RING_CLEARED (11 R276): a port that has locked again may start its raster. -/
def execRingCleared (p : Port) (s : State) : Out :=
  let t := updWheel s p fun w => { w with ring := [], lateSlots := [], clearing := false }
  guarded (running s && (portOf s p).wheel.clearing) s
    (if portIsLocked (portOf t p) && !(portOf t p).raster then startRaster p t else t)

/-! Live frames (16 R377). -/

/-- LIVE_STALE (R377). -/
def execLiveStale (p : Port) (s : State) : Out :=
  let q := portOf s p
  let watched := fbit (live s) canvasEnable && fnat q.fields integrityLiveStale != 0 && q.liveSeen
  guarded (sysRuns s && q.raster && watched && !q.liveStale) s
    (report evLiveStale 0 (portNum p) (updPort s p fun q => { q with liveStale := true }))

end Sys2Proof.Machine
end

