-- ==== Sys2Proof/Machine/Canvas.lean ====
section
/-! DEFINITION. The canvas port (10 R247 to R255): the checks of a frame in the order of Table 10-5, its live pens, publication,
and the canvas lane's job. -/

namespace Sys2Proof.Machine

open Sys2Proof

/-! The header (Table 10-4). -/

def cvsKind (h : List Byte) : Nat := rd h 3 1
def cvsPorts (h : List Byte) : Nat := rd h 4 1
def cvsFormat (h : List Byte) : Nat := rd h 5 1
def cvsSeq (h : List Byte) : Nat := rd h 6 2
def cvsLength (h : List Byte) : Nat := rd h 8 4

/-- A coded frame. -/
def cvsCoded (h : List Byte) : Bool := cvsKind h % 2 == 1

/-- `SYNC`, `VERSION`, the reserved bits and `HDR_CRC`. -/
def cvsHeaderOk (h : List Byte) : Bool :=
  slice h 0 2 == [0x43, 0x46] && rd h 2 1 == 1 && cvsKind h < 2 && cvsPorts h < 4 &&
    crc32c (slice h 0 12) == rd h 12 4

/-- The running ports that a frame names (R254). -/
def cvsTargets (s : State) (h : List Byte) : List Port :=
  [Port.a, Port.b].filter fun p => (cvsPorts h).testBit (portNum p) && portRuns s p

/-- The shape that the folios in force ask for. -/
def cvsShape (st : Store) : CvsShape :=
  { format := fnat st canvasFormat, width := fnat st canvasWidth, height := fnat st canvasHeight, blocks := livePenSize st
    accepted := (fnat st codecFormats).testBit (fnat st canvasFormat - 1) }

/-- A raw frame's header meets R249. -/
def rawShapeOk (k : CvsShape) (h : List Byte) : Bool :=
  cvsFormat h == k.format && cvsLength h == imageSize k.format k.width k.height + 4

/-- The leaf header of a coded frame meets R250. -/
def codedShapeOk (k : CvsShape) (payload : List Byte) : Bool :=
  leafFormat payload == k.format && leafWidth payload == k.width && leafHeight payload == k.height

/-- A port has a FREE live pen: fewer than two of its own are in use (R251). -/
def freeLivePen (s : State) (p : Port) : Bool :=
  (s.pens.list.filter fun e => e.2.kind == .live && e.2.port == p).length < 2

/-- Every addressed running port has a FREE live pen, with its blocks in the reserve, and the canvas lane is free for a coded
frame. -/
def cvsRoom (s : State) (h : List Byte) : Bool :=
  let t := cvsTargets s h
  t.all (freeLivePen s) && t.length * livePenSize (live s) ≤ s.pens.reserve.length && !(cvsCoded h && s.canvas.job.isSome)

/-! Live pens. -/

/-- A live pen of a port, from the reserve. -/
def addLivePen (st : PenState) (img : Image) (seq : Nat) (p : Port) (s : State) : State :=
  let n := livePenSize (live s)
  let q : Pen := { kind := .live, state := st, blocks := s.pens.reserve.take n, image := img, port := p, seq }
  (addPen q { s with pens := { s.pens with reserve := s.pens.reserve.drop n } }).2

/-- The image of a raw payload: samples of one or two bytes, planes in order (R183). -/
def rawImage (k : CvsShape) (data : List Byte) : Image :=
  let n := formatBytes k.format
  { format := k.format, width := k.width, height := k.height
    samples := (List.range (data.length / n)).map fun i => rd data (n * i) n }

/-- A frame is published in its pens, all in one step: it ends its ports' stale periods, and counts LATE after a latch point (R251,
R377). A pen that a stopped port has lost is left out. -/
def publishLive (pens : List Nat) (img : Image) (s : State) : State :=
  let ports := pens.filterMap fun i => (penOf s i).map (·.port)
  let late := ports.any fun p => (portOf s p).pastLatch
  let t := pens.foldl (fun u i => updPen u i fun q => { q with state := .standby, image := img }) s
  let u := ports.foldl (fun v p => updPort v p fun q => { q with liveStale := false, liveEmpty := false }) t
  if late then { u with canvas := { u.canvas with late := satInc u.canvas.late } } else u

/-! Receiving (R247). -/

/-- The byte of a clock period: the rising edge carries bits 7 to 4. -/
def periodByte (e : CvsPeriod) : Byte := byteOf (16 * e.rise + e.fall)

/-- The live pens of a frame, one for each port that it addresses (R251). -/
def fillPens (ports : List Port) (seq : Nat) (s : State) : List Nat × State :=
  ports.foldl (fun r p => (r.1 ++ [r.2.pens.next], addLivePen .filling {} seq p r.2)) ([], s)

/-- The header has been received: what it decides, in the order of Table 10-5, and the pens of a frame that goes on. -/
def cvsHeader (r : CanvasRx) (s : State) : CanvasRx × State :=
  let h := r.bytes.take 16
  let st := live s
  let shape := cvsShape st
  let busy := !cvsRoom s h
  let reason := firstFail
    [((fnat st canvasAccept).testBit (cvsKind h % 2), 0x80), (cvsHeaderOk h, 0x82), (!(cvsTargets s h).isEmpty, 0x83),
      (cvsCoded h || rawShapeOk shape h, 0x84)]
  let k := { r with shape, busy, reason }
  if !r.enabled || r.aborted || reason != 0 || busy then (k, s)
  else
    let f := fillPens (cvsTargets s h) (cvsSeq h) s
    ({ k with pens := f.1 }, f.2)

/-- A byte of the frame arrives; one that finds the queue full is not queued. -/
def cvsByte (e : CvsPeriod) (r : CanvasRx) (s : State) : State :=
  let k := if e.full then { r with overflow := true } else { r with bytes := r.bytes ++ [periodByte e] }
  let v := if !e.full && k.bytes.length = 16 then cvsHeader k s else (k, s)
  { v.2 with canvas := { v.2.canvas with frame := some v.1 } }

/-- The reason with which a frame that ends is discarded, 0 for none: the order of Table 10-5 (R253). A coded frame whose payload ends
before its leaf header is short. -/
def cvsReason (r : CanvasRx) : Nat :=
  let h := r.bytes.take 16
  let payload := r.bytes.drop 16
  let whole := 16 ≤ r.bytes.length
  let judged := min (cvsLength h) 8 ≤ payload.length
  firstFail
    [(r.enabled && r.reason != 0x80, 0x80), (!r.aborted, 0x81), (r.reason = 0, r.reason),
      (!whole || !cvsCoded h || !judged || (8 ≤ cvsLength h && codedShapeOk r.shape payload), 0x84), (!r.busy, 0x85),
      (!r.overflow, 0x86), (whole && cvsLength h ≤ payload.length, 0x87), (payload.length ≤ cvsLength h, 0x88)]

/-- A frame ends (R249 to R253): a raw one is checked and published, a coded one goes to the canvas lane, which takes its `CODEC` fields
as the job starts (08 R205). -/
def cvsEnd (r : CanvasRx) (s : State) : State :=
  let h := r.bytes.take 16
  let payload := r.bytes.drop 16
  let n := payload.length - 4
  let t := { s with canvas := { s.canvas with frame := none } }
  let k := cvsReason r
  if k != 0 then cvsDiscard k r.pens (cvsSeq h) t
  else if cvsCoded h then
    { t with
      canvas := { t.canvas with
        job := some { payload, seq := cvsSeq h, pens := r.pens, shape := r.shape, swapSeen := r.swapSeen } }
      codec := { t.codec with rdCanvas := fnat (live t) codecRdBurst, wrCanvas := fnat (live t) codecWrBurst } }
  else if crc32c (payload.take n) != rd payload n 4 then cvsDiscard 0x8A r.pens (cvsSeq h) t
  else if r.swapSeen then cvsDiscard 0x8C r.pens (cvsSeq h) t
  else publishLive r.pens (rawImage r.shape (payload.take n)) t

/-- A frame starts with its first byte (R253, R254). -/
def cvsStart (e : CvsPeriod) (s : State) : State :=
  cvsByte e { enabled := s.core.folios && fbit (live s) canvasEnable, aborted := s.pins.abortLow } s

/-- One period of `CVS_CLK` (R247). -/
def cvsPeriod (s : State) (e : CvsPeriod) : State :=
  let t :=
    match s.canvas.frame with
    | none => if e.fs && s.canvas.fsLow then cvsStart e s else s
    | some r => if e.fs then cvsByte e r s else cvsEnd r s
  { t with canvas := { t.canvas with fsLow := !e.fs } }

/-- Periods of `CVS_CLK` are received, unless `CK_CVS` is held. -/
def cvsReceive (periods : List CvsPeriod) (s : State) : State := if domainHeld s .cvs then s else periods.foldl cvsPeriod s

/-- CANVAS_FRAME (R247 to R253): the periods of `CVS_CLK` of a frame, or of a part of one. -/
def execCanvasFrame (periods : List CvsPeriod) (s : State) : Out := guarded (sysRuns s) s (cvsReceive periods s)

/-- The frame under way has not ended in time (R253): the checks that the bytes so far decide come first. -/
def cvsStall (s : State) : State :=
  match s.canvas.frame with
  | none => s
  | some r =>
    let k := cvsReason r
    let t := { s with canvas := { s.canvas with frame := none } }
    cvsDiscard (if k = 0 || k = 0x87 then 0x89 else k) r.pens (cvsSeq (r.bytes.take 16)) t

/-- CANVAS_FRAME_STALLED (R253): after these periods of `CVS_CLK`, the frame has not ended within `CANVAS.TIMEOUT`. -/
def execCanvasFrameStalled (periods : List CvsPeriod) (s : State) : Out := guarded (sysRuns s) s (cvsStall (cvsReceive periods s))

/-! The canvas lane (08 R200). -/

/-- What a canvas job's leaf must be (R184, R250, R252), as it was when its frame's header was received. -/
def canvasLimits (k : CvsShape) : LeafLimits :=
  { formatOk := fun f => f == k.format && k.accepted
    widthOk := fun w => w == k.width
    heightOk := fun h => h == k.height
    maxSpace := some k.blocks }

/-- CANVAS_JOB_END (08 R200, R253). -/
def execCanvasJobEnd (s : State) : Out :=
  match s.canvas.job with
  | none => .next s
  | some j =>
    let t :=
      match decodeLeaf (canvasLimits j.shape) j.payload with
      | .error e =>
        endedJob none 65535 e.1
          (discardCanvas 0x8B (reportX evCodecError e.1 65535 (some e.2) { s with codec := { s.codec with lastError := e.1 } }))
      | .ok img =>
        if j.swapSeen then discardCanvas 0x8C s
        else publishLive j.pens img { s with canvas := { s.canvas with job := none } }
    guarded (sysRuns s) s t

end Sys2Proof.Machine
end

