-- ==== Sys2Proof/Machine/Mirror.lean ====
section
/-! DEFINITION. Mirror ports (12 R278 to R296): the phases of a mirror start, lock, mirror faults and port restarts. -/

namespace Sys2Proof.Machine

open Sys2Proof

/-- The folios from which a port's target amplitudes come: those of a stitch while they ramp forward (07 R166). -/
def ampTarget (s : State) (p : Port) : Nat :=
  min (fnat (itemStore s (.amp p)) (mirrorAmp p)) (if s.emit.cal.isEmpty then 65535 else calAmpMax s.emit.cal p)

def slowTarget (s : State) (p : Port) : Nat :=
  min (fnat (itemStore s (.slowAmp p)) (mirrorSlowAmp p)) (if s.emit.cal.isEmpty then 65535 else calSlowMax s.emit.cal p)

/-- The reset domain of a port's clock. -/
def portDomain : Port → Domain
  | .a => .mirA
  | .b => .mirB

/-- The number of the phase of a mirror start; 0 for a port that is locked and running (R284). -/
def phaseNumber : MirrorPhase → Nat
  | .check => 1
  | .kick => 2
  | .ring => 3
  | .capture => 4
  | _ => 0

/-- A mirror start is under way. -/
def starting (q : PortState) : Bool := 1 ≤ phaseNumber q.phase

/-! Failures. -/

/-- A port that was serving or starting stops: at a restart or after it has served, the fault is counted; in its qualification it is
the qualification that has lost a unit, and port B may go on alone (R85). -/
def portFault (p : Port) (phase : Nat) (s : State) : State :=
  let q := portOf s p
  let t := updPort (coastPort p s) p fun q => { q with down := true }
  if q.served || q.restarting then takeover true (countMirrorFault p t)
  else takeover false (portFailsQual (updPort t p fun q => { q with failedPhase := phase }))

/-- A mirror start fails (R284). -/
def startFails (p : Port) (phase : Nat) (s : State) : State :=
  portFault p phase (report evMirrorStartFailed phase (portNum p) s)

/-! Measurements (R285). -/

/-- A fast amplitude in 0.01° from counts of the fast sense, through `AMP_SCALE`, rounded to nearest. -/
def ampOf (s : State) (p : Port) (counts : Nat) : Nat := (roundNear (100 * counts : Nat) (calAmpScale s.emit.cal p)).toNat

/-- A slow position in 0.01° from counts of the slow sense, through `SLOW_SCALE`, rounded to nearest. -/
def slowOf (s : State) (p : Port) (counts : Int) : Int := roundNear (100 * counts) (calSlowScale s.emit.cal p)

/-- The fast drive phase from the current centroid of a drive pulse, in sixteenths of a stall of its period: less stall 2,048 or 6,144. -/
def drivePhaseOf (centroid : Int) : Int := if centroid < 65536 then centroid - 32768 else centroid - 98304

/-! The bridges (R278, R279). -/

/-- The phase word rounded to whole stalls, halves up. -/
def phaseStalls (q : PortState) : Int := roundNear q.driveP 16

/-- A stall of the fast-axis period lies in a pulse of w stalls that is centred at a stall. -/
def inPulse (w : Nat) (centre at_ : Int) : Bool := (at_ - (centre - (w / 2 : Nat))) % 8192 < (w : Int)

/-- What the fast coil sees at a stall of its period: the pulses of R278, and a short at every other stall; an open bridge after
COIL_OVERCURRENT, in the ring of a start (Table 12-2), and without `VIN` (02 Table 2-2). -/
def fastCoil (s : State) (p : Port) (at_ : Int) : CoilDrive :=
  let q := portOf s p
  let w := min q.driveW (if s.emit.cal.isEmpty then 4095 else calDriveMax s.emit.cal p)
  if !s.supply.vin then .floating
  else if s.jtag.instr == .extest then .shorted
  else if 0 < q.coilZ || q.phase == .ring then .floating
  else if inPulse w (2048 + phaseStalls q) at_ then .plus
  else if inPulse w (6144 + phaseStalls q) at_ then .minus
  else .shorted

/-- What the slow coil sees, and for which share of its modulation period in 1/2,048: its level as a duty cycle (R278). -/
def slowCoil (s : State) (p : Port) : CoilDrive × Nat :=
  let q := portOf s p
  let m := if s.emit.cal.isEmpty then 2047 else calSlowDriveMax s.emit.cal p
  let d := min q.driveSlow.natAbs m
  if !s.supply.vin then (.floating, 0)
  else if s.jtag.instr == .extest then (.shorted, 0)
  else if 0 < q.coilZ then (.floating, 0)
  else if d = 0 then (.shorted, 0)
  else (if 0 < q.driveSlow then .plus else .minus, d)

/-! Starting (R282). -/

/-- The resonance estimate in mHz: `F_NOM` × (1 + `TEMPCO` × (T − `T_REF`) × 10^−6), T in 0.01 °C, rounded to nearest. -/
def estimateHz (s : State) (p : Port) : Nat :=
  let b := s.emit.cal
  let ref := 100 * calTRef b p
  let t := ((cartTemp s).or s.cart.lastTemp).getD ref
  (roundNear ((calFNom b p : Int) * (100000000 + calTempco b p * (t - ref))) 100000000).toNat

/-- The frequency of kick j (R282): stepping alternately above and below the estimate. -/
def kickHz (s : State) (p : Port) (j : Nat) : Nat :=
  let q := portOf s p
  let step := (j / 2) * fnat q.mirrorFields (mirrorSearchStep p)
  let f : Int := q.fEst
  (roundNear (f * (1000000 + if j % 2 = 0 then (step : Int) else -(step : Int))) 1000000).toNat

/-- The kick's pulse width, limited by the calibration (R278). -/
def kickWidth (s : State) (p : Port) : Nat :=
  min (fnat (portOf s p).mirrorFields (mirrorStartDrive p)) (calDriveMax s.emit.cal p)

/-- Kick number j begins: open loop, the DCO preset to 8,192 times the estimate (R281). -/
def beginKick (p : Port) (j : Nat) (s : State) : State :=
  let f := kickHz s p j
  let w := kickWidth s p
  updPort s p fun q => { q with phase := .kick, kicks := j, fKick := f, dco := 8192 * q.fEst, driveW := w, driveP := 0, driveSlow := 0 }

/-- A port may begin a mirror start. -/
def mayStart (s : State) (p : Port) : Bool :=
  let q := portOf s p
  (headPorts s).contains p && (q.phase == .off || q.phase == .coast) && s.supply.vmir && s.cart.present &&
    !s.emit.cal.isEmpty && !q.outOfService && !q.failedLatch && !domainHeld s (portDomain p) && !q.wheel.gate

/-- The Check phase begins; a section that declares no scanner fails at once (R295). -/
def beginStart (p : Port) (s : State) : State :=
  let f := estimateHz s p
  let t := updPort s p fun q =>
    { q with phase := .check, mirrorFields := live s, fEst := f, fRing := 0, fLock := 0, kicks := 0, coilZ := 0
             restartDue := false, restarting := q.restartDue }
  if calFNom t.emit.cal p = 0 then startFails p 1 t else reportClamp (itemStore t (.amp p)) p t

/-- MIRROR_START (R282): at the mirror-start step of qualification, which the other port may have ended first, or afresh after a keeper reset
of the port's domain (R294). -/
def execMirrorStart (p : Port) (s : State) : Out :=
  let q := portOf s p
  let step := s.cart.step == .mirror || s.cart.step == .photodiodes || s.cart.qualified
  guarded (sysRuns s && mayStart s p && ((step && !q.served && q.failedPhase = 0) || (s.cart.qualified && q.restartDue))) s
    (beginStart p s)

/-- The common mode of a sense input within 0.3 V to 1.5 V (Table 12-2, Table 12-4). -/
def commonOk (mv : Nat) : Bool := 300 ≤ mv && mv ≤ 1500

/-- MIRROR_CHECK_DONE (R282): the common mode of all four sense inputs, and `VMIR`. -/
def execMirrorCheckDone (p : Port) (commonMv : List Nat) (s : State) : Out :=
  guarded (sysRuns s && (portOf s p).phase == .check) s
    (if commonMv.all commonOk && s.supply.vmir then beginKick p 1 s else startFails p 1 s)

/-- KICK_END (R282): the fast coil turns high-impedance and the free ring is timed. -/
def execKickEnd (p : Port) (s : State) : Out :=
  guarded (running s && (portOf s p).phase == .kick) s (updPort s p fun q => { q with phase := .ring, driveW := 0 })

/-- The ring passes: large enough, in the range of the mirrors, and near the estimate. -/
def ringPasses (s : State) (p : Port) (milliHz amp : Nat) : Bool :=
  let q := portOf s p
  fnat q.mirrorFields (mirrorRingMin p) * ampTarget s p ≤ 100 * amp && 18000000 ≤ milliHz && milliHz ≤ 40000000 &&
    20 * absDiff milliHz q.fEst ≤ q.fEst

/-- The capture begins: the DCO preset to the ring, the loop closed, the fast loops preset from the last kick's drive (R281,
R285). -/
def beginCapture (p : Port) (milliHz amp : Nat) (s : State) : State :=
  let w := kickWidth s p
  updPort s p fun q => { q with phase := .capture, fRing := milliHz, dco := 8192 * milliHz, driveW := w, amp }

/-- RING_DONE (R282, R284). milliHz and counts are the mean frequency of the 64 periods and the fast sense at the last. -/
def execRingDone (p : Port) (milliHz counts : Nat) (s : State) : Out :=
  let q := portOf s p
  let amp := ampOf s p counts
  let t :=
    if ringPasses s p milliHz amp then beginCapture p milliHz amp s
    else if q.kicks < fnat q.mirrorFields (mirrorSearchTries p) then beginKick p (q.kicks + 1) s
    else startFails p 3 s
  guarded (running s && q.phase == .ring) s t

/-- The DPLL's phase error in sixteenths of a stall (R280): the forward zero crossing, delayed by `PHASE_OFS`, against stall 2,048. -/
def phaseError (s : State) (p : Port) (crossing : Int) : Int := crossing + calPhaseOfs s.emit.cal p - 32768

/-- A fast amplitude within ±`AMP_TOL` of its target (R283, R287). -/
def ampWithin (s : State) (p : Port) (amp : Nat) : Bool :=
  let t := ampTarget s p
  1000 * absDiff amp t ≤ fnat (portOf s p).mirrorFields (mirrorAmpTol p) * t

/-- A slow position, in 0.01°, within ±`SLOW_TOL` of the park position (R283). -/
def parkWithin (s : State) (p : Port) (slow : Int) : Bool :=
  let t := slowTarget s p
  1000 * (slow - (t : Int)).natAbs ≤ fnat (portOf s p).mirrorFields (mirrorSlowTol p) * t

/-- The three conditions of R283 hold in a run of periods, but for how long the slow position has been in its band. -/
def lockHolds (s : State) (p : Port) (r : LockSegment) : Bool :=
  ampWithin s p (ampOf s p r.amp) && (phaseError s p r.crossing).natAbs ≤ 16 && parkWithin s p (slowOf s p r.slow)

/-- The periods at the front of the runs, newest first, on which a test holds. -/
def heldFor (test : LockSegment → Bool) (segs : List LockSegment) : Nat := ((segs.takeWhile test).map (·.periods)).sum

/-- The periods of 1 ms at a frequency in mHz. -/
def msPeriods (milliHz : Nat) : Nat := ceilDiv milliHz 1000000

/-- A port has locked (R283): its conditions have held together for `LOCK_PERIODS`, in each of which the slow position had been in its band for
at least 1 ms. -/
def hasLocked (s : State) (p : Port) (milliHz : Nat) (segs : List LockSegment) : Bool :=
  let n := fnat (portOf s p).mirrorFields (mirrorLockPeriods p)
  n ≤ heldFor (lockHolds s p) segs && n + msPeriods milliHz ≤ heldFor (fun r => parkWithin s p (slowOf s p r.slow)) segs

/-- PORT_LOCKED (R283): the port is locked, and its raster starts once its ring is clear (R233, R276). -/
def execPortLocked (e : PortLock) (s : State) : Out :=
  let p := e.port
  let t := updPort s p fun q => { q with phase := .locked, failedPhase := 0, fLock := e.milliHz }
  let u := if t.cart.step == .mirror then setStep .photodiodes t else t
  guarded (running s && (portOf s p).phase == .capture && hasLocked s p e.milliHz e.segs) s
    (if (portOf u p).wheel.clearing then u else startRaster p u)

/-- MIRROR_START_TIMEOUT (R284). -/
def execMirrorStartTimeout (p : Port) (s : State) : Out :=
  guarded (running s && starting (portOf s p)) s (startFails p 5 s)

/-! Faults (R292, R293). -/

def faultEvent : MirrorFault → Nat
  | .fastStall _ _ => evFastStall
  | .phaseSlip _ _ => evPhaseSlip
  | .overExcursion _ _ => evOverExcursion
  | .senseLost _ => evSenseLost
  | .slowTrack _ => evSlowTrack
  | .coilOvercurrent => evCoilOvercurrent
  | .senseFrozen _ _ => evSenseFrozen

/-- At least n readings, each of which meets a test. -/
def lastAll {α : Type} (n : Nat) (l : List α) (test : α → Bool) : Bool := n ≤ l.length && (l.take n).all test

/-- A fault is detected (Table 12-4, 16 R379); `STALL_PCT`, `OVER_PCT` and `SLOW_FAULT` are those of the live signature (R296). Lists hold the
newest reading first. -/
def faultSeen (s : State) (p : Port) : MirrorFault → Bool
  | .fastStall noCrossing amps =>
    noCrossing || lastAll 4 amps fun a => 100 * ampOf s p a < fnat (live s) (mirrorStallPct p) * ampTarget s p
  | .phaseSlip crossing milliHz =>
    1024 < (phaseError s p crossing).natAbs || milliHz < 18000000 || 40000000 < milliHz ||
      (portOf s p).fRing < 20 * absDiff milliHz (portOf s p).fRing
  | .overExcursion amps slow =>
    (lastAll 2 amps fun a => fnat (live s) (mirrorOverPct p) * ampTarget s p < 100 * ampOf s p a || calAmpMax s.emit.cal p < ampOf s p a) ||
      11 * calSlowMax s.emit.cal p < 10 * (slowOf s p slow).natAbs
  | .senseLost commonMv => lastAll 4 commonMv fun v => !commonOk v
  | .slowTrack errors => lastAll 8 errors fun e => fnat (live s) (mirrorSlowFault p) * slowTarget s p < 100 * e.natAbs
  | .coilOvercurrent => true
  | .senseFrozen _ counts =>
    let n := fnat (live s) integritySenseStale
    n != 0 && portIsLocked (portOf s p) && lastAll n counts fun c => some c == counts.head?

/-- MIRROR_FAULT (R284, R289, R291 to R293, 16 R379): a fault that is detected. COIL_OVERCURRENT leaves the bridges high-impedance
for 10 µs. In a mirror start it ends the start with the number of its phase; the frozen-sense watch runs only while the port is
locked. -/
def execMirrorFault (p : Port) (f : MirrorFault) (s : State) : Out :=
  let q := portOf s p
  let n := phaseNumber q.phase
  let t := report (faultEvent f) n (portNum p) s
  let u := if starting q then startFails p n t else portFault p 4 t
  let v := if f == .coilOvercurrent then updPort u p fun q => { q with coilZ := 10 } else u
  guarded (running s && (portIsLocked q || starting q) && faultSeen s p f) s v

/-- PORT_RESTART (R293): a mirror start, whose cross-check follows at its raster. -/
def execPortRestart (p : Port) (s : State) : Out :=
  guarded (sysRuns s && (portOf s p).restartDue && s.cart.qualified && mayStart s p) s
    (updPort (beginStart p s) p fun q => if q.phase == .check then { q with restarting := true } else q)

end Sys2Proof.Machine
end

