-- ==== Sys2Proof/Machine/Loop.lean ====
section
/-! DEFINITION. The loop law of the control engine (13 R301 to R311, R316): sources, set-points, and the three stages through
which the computing slots of a rank pass. -/

namespace Sys2Proof.Machine

open Sys2Proof

/-! Sources (Table 13-2). -/

/-- The latest reading of a source that a converter or a port delivers. -/
def reading (s : State) (c : Nat) : Option Int := (s.engine.readings.find? fun e => e.1 == c).map (·.2)

/-- A port from whose mirror the engine takes measurements, and to which it gives drive words: from the capture onwards
(12 R285). -/
def portDriven (s : State) (p : Port) : Bool := (portOf s p).phase == .capture || (portOf s p).phase == .locked

/-- The power of a channel as a photodiode gives it, while it is valid (14 R337). -/
def laserPower (s : State) (c : Nat) (pdA : Bool) : Option Int :=
  let l := laserOf s c
  if l.assigned.any (gateOpen s) && !s.pins.killLow && s.safety.causes.isEmpty then (if pdA then l.powerA else l.powerB)
  else none

/-- The lowest of a list. -/
def lowest : List Int → Option Int
  | [] => none
  | x :: rest => some (rest.foldl min x)

/-- Source 0x20 (14 R333). -/
def laserHeadroom (s : State) : Option Int :=
  lowest ((s.emit.lasers.filter fun (l : Laser) => l.litWindow).map fun (l : Laser) => l.sinkMv)

/-- Source 0x21 (14 R355). -/
def lampHeadroom (s : State) : Option Int := lowest (s.lamp.litLast.map fun c => s.lamp.tracking.getD c 0)

/-- Source 0x2C (R308): in analogue mode the filtered reading of 14 bits, scaled to 0 to 65,535. -/
def brightValue (s : State) : Option Int :=
  let mode := fnat (live s) loopBrightMode
  if mode = 2 || (mode = 0 && s.bright.pulse) then some s.bright.value
  else (reading s 44).map fun v => roundNear (v * 65535) 16383

/-- The port of a mirror source. -/
def sourcePort (c : Nat) : Option Port :=
  if 24 ≤ c && c ≤ 26 then some .a else if 28 ≤ c && c ≤ 30 then some .b else none

/-- A source's measurement for a slot; none while it is not valid. -/
def measurement (s : State) (k : Slot) (c : Nat) : Option Int :=
  if c = 0 then some 0
  else if c ≤ 4 then laserPower s (c - 1) true
  else if c ≤ 8 then laserPower s (c - 5) false
  else if c = 16 then thermTemp s 0
  else if c = 17 then thermTemp s 1
  else if c = 18 then cartTemp s
  else if c = 32 then laserHeadroom s
  else if c = 33 then lampHeadroom s
  else if c = 44 then brightValue s
  else if c = 47 then some s.pack.mv
  else if c = 49 then some (if k.softStart then 0 else s.engine.encoder - k.enc1)
  else
    match sourcePort c with
    | some p => if portDriven s p then reading s c else none
    | none => reading s c

/-! Destinations (Table 13-8). -/

/-- The port whose coil takes a destination. -/
def destPort (d : Nat) : Option Port :=
  if 8 ≤ d && d ≤ 10 then some .a else if 12 ≤ d && d ≤ 14 then some .b else none

/-- The value a destination last received. -/
def destValue (s : State) (d : Nat) : Int :=
  match destPort d with
  | some p =>
    let q := portOf s p
    if d % 4 = 0 then q.driveW else if d % 4 = 1 then q.driveP else q.driveSlow
  | none => appliedTo s d

/-- The range of a destination, the coil words limited by the calibration in force. -/
def destLimits (s : State) (d : Nat) : Int × Int :=
  let r := destRange d
  match destPort d with
  | some p =>
    if s.emit.cal.isEmpty then r
    else if d % 4 = 0 then (0, min r.2 (calDriveMax s.emit.cal p))
    else if d % 4 = 2 then
      let m : Int := calSlowDriveMax s.emit.cal p
      (max r.1 (-m), min r.2 m)
    else r
  | none => r

/-- What a slot's destination last received; a slot that only reports has received its own proposals. -/
def heldOutput (s : State) (st : Store) (k : Nat) (sl : Slot) : Int :=
  let d := fnat st (slotDest k)
  if d = 0 then sl.a1 else destValue s d

/-- A destination is overridden: a port that coasts or is starting takes no drive word (12 R279). -/
def destTakes (s : State) (d : Nat) : Bool :=
  match destPort d with
  | some p => portDriven s p
  | none => true

/-! Set-points (R310). -/

/-- One measurement unit in the units of the ramped set-point. -/
def spUnit : Nat := 10 ^ 9 * 2 ^ 48

/-- v × m × 2^e in those units, for an exponent of at least −48. -/
def spScaled (v m e : Int) : Int := v * m * 10 ^ 9 * 2 ^ (e + 48).toNat

/-- Frames from one computation of a slot to the next. -/
def slotPeriod (st : Store) (k : Nat) : Nat := 2 ^ fnat st (slotRate k)

/-- A slew in units per ms, as the step of one computation. -/
def slewStep (st : Store) (k perMs : Nat) : Nat := perMs * slotPeriod st k * 10 ^ 6 * 2 ^ 48

/-- A source value on its way to the ramped set-point: the target, the largest step, and whether it is clamped. -/
structure SetPoint where
  target : Int
  step : Option Nat
  clamped : Bool := false
deriving DecidableEq, Repr

/-- The slow waveform at a line of the frame (12 R286), and whether the line belongs to the flyback. Line boundaries hold the
value at the line's start. -/
def slowWave (s : State) (p : Port) : Int × Bool :=
  let q := portOf s p
  let st := q.vertFields
  let amp : Int := slowTarget s p
  let line := q.wheel.position.toNat / 4096
  let d := line - q.fbLine
  let left := q.nextFb - line
  let vact := fnat st (rasterVact p)
  let vsync := fnat st (rasterVsync p)
  let vbp := fnat st (rasterVbp p)
  if q.fbLine != 0 && q.fbLine ≤ line && d < vact then
    (roundNear (amp * spUnit * (2 * d - vact)) vact, false)
  else if vsync + vbp < left then (amp * spUnit, false)
  else if vbp < left then
    (roundNear (amp * 10 ^ 9 * cosFix (vsync + vbp - left) vsync) (2 ^ 16), true)
  else (-(amp * spUnit), false)

/-- The set-point that a port's mirror gives a slot for a coil word (sources 0x08 and 0x09). -/
def mirrorSetPoint (s : State) (st : Store) (k d : Nat) (wave : Bool) (r : Int) (p : Port) : Option SetPoint :=
  let q := portOf s p
  let m := q.mirrorFields
  if wave then
    if d % 4 != 2 then none
    else if q.raster then
      let w := slowWave s p
      some { target := w.1, step := if w.2 then none else some (slewStep st k (fnat m (mirrorSlowSlew p))) }
    else
      some { target := if portIsLocked q || ampWithin s p q.amp then (slowTarget s p : Int) * spUnit else r
             step := some (slewStep st k (fnat m (mirrorSlowSlew p))) }
  else if d % 4 = 0 then
    some { target := (ampTarget s p : Int) * spUnit, step := some (slewStep st k (fnat m (mirrorAmpSlew p))) }
  else if d % 4 = 1 then
    some { target := fval (itemStore s (.drivePhase p)) (mirrorDrivePhase p) * spUnit
           step := some (slotPeriod st k * axisHz q * 2 ^ 48) }
  else none

/-- Source 0x0A (14 R338). -/
def laserSetPoint (s : State) (d : Nat) : Option SetPoint :=
  if 1 ≤ d && d ≤ 4 then
    let t := fnat (live s) (emitTarget (d - 1))
    let cap := (safeCaps s).map fun c => c.1 * 95 / 100
    let v := cap.elim t (min t)
    some { target := (v : Int) * spUnit, step := none, clamped := v < t }
  else none

/-- The value that an `AIN`, `BRIGHT` or encoder set-point source reads; none before its first reading. -/
def spReading (s : State) (sl : Slot) (src : Nat) : Option Int :=
  if src ≤ 4 then reading s (39 + src)
  else if src = 5 then brightValue s
  else if src = 6 then some s.engine.encoder
  else some (if sl.softStart then 0 else s.engine.encoder - sl.enc1)

/-- The set-point of a slot: a source that has not been read yet leaves it where it is. -/
def setPointOf (s : State) (st : Store) (k : Nat) (sl : Slot) : SetPoint :=
  let d := fnat st (slotDest k)
  let src := fnat st (slotSpSrc k)
  let sp := fval (itemStore s (.setPoint k)) (slotSp k) * spUnit
  let ramp := fnat st (slotRamp k)
  let step := if ramp = 0 then none else some (slewStep st k ramp)
  let free : SetPoint := { target := Config.noSetPoint k * spUnit, step := none }
  if src = 0 then { target := sp, step }
  else if src ≤ 7 then
    match spReading s sl src with
    | some v => { target := sp + spScaled v (fval st (slotSpGainM k)) (fval st (slotSpGainE k)), step }
    | none => { target := sl.r0, step }
  else if src = 10 then (laserSetPoint s d).getD free
  else ((destPort d).bind (mirrorSetPoint s st k d (src == 9) sl.r0)).getD free

/-- One step of a ramp. -/
def slewTo (r : Int) (t : SetPoint) : Int :=
  match t.step with
  | none => t.target
  | some m => clampInt (r - m) t.target (r + m)

/-! Manual values (R316). -/

/-- One destination unit in the units of the manual value. -/
def manUnit : Nat := 1000 * 16383 * 65535

/-- The target of the manual value; none where it holds. -/
def manualTarget (s : State) (st : Store) (k : Nat) (sl : Slot) : Option Int :=
  let src := fnat st (slotManSrc k)
  let lo := slotOut st k slotUMin
  let hi := slotOut st k slotUMax
  let full : Int := if src = 5 then 65535 else 16383
  if src = 0 then none
  else (spReading s sl src).map fun v => lo * manUnit + (hi - lo) * v * (manUnit / full)

def manualStep (s : State) (st : Store) (k : Nat) (sl : Slot) : Int :=
  match manualTarget s st k sl with
  | none => sl.manualValue
  | some t => slewTo sl.manualValue { target := t, step := some (fnat st (slotManSlew k) * slotPeriod st k * 16383 * 65535) }

/-! Set-point preparation and the sample latch. -/

/-- A slot that computes in the frame. -/
structure Term where
  slot : Nat
  kept : Slot
  x : Int
  alt : Option Int
  /-- Its set-point stands at its source value. -/
  there : Bool
  /-- Its integrator is preset in place of the integration. -/
  load : Bool
  /-- Its set-point takes a clamped target in this frame. -/
  clamps : Bool
  err : Frac
  fa : Frac
deriving DecidableEq, Repr

/-- A loop's photodiode does not serve, and its `ALT` is the one that does (04 R85, 16 R391). -/
def pdAlt (s : State) (st : Store) (k : Nat) : Bool :=
  let c := fnat st (slotMeas k)
  let a := fnat st (slotAlt k)
  (s.cart.pd == .onlyB && 1 ≤ c && c ≤ 4 && 5 ≤ a && a ≤ 8) || (s.cart.pd == .onlyA && 5 ≤ c && c ≤ 8 && 1 ≤ a && a ≤ 4)

/-- The slot measures on `ALT`. -/
def usesAlt (s : State) (st : Store) (k : Nat) (sl : Slot) : Bool := sl.onAlt || pdAlt s st k

/-- The measurement source in use. -/
def sourceOf (s : State) (st : Store) (k : Nat) (sl : Slot) : Nat :=
  if usesAlt s st k sl then fnat st (slotAlt k) else fnat st (slotMeas k)

/-- A freeze that begins at a port's loss of lock (R311). -/
def lockLost (s : State) (st : Store) (k c : Nat) : Bool :=
  match sourcePort c with
  | some p => !portDriven s p
  | none =>
    let d := fnat st (slotDest k)
    1 ≤ d && d ≤ 4 && (laserOf s (d - 1)).assigned.any fun p => !portIsLocked (portOf s p)

/-- The slot is in manual while `MANUAL_N` is low. -/
def inManual (s : State) (st : Store) (k : Nat) : Bool := s.pins.manualLow && fbit st (slotManual k)

/-- Prepare a slot that computes: its ramps, its manual value and its error. -/
def prepare (s : State) (st : Store) (k : Nat) (sl : Slot) (x : Int) : Term :=
  let man := inManual s st k
  let resumed := sl.frozen && heldOutput s st k sl != sl.a1
  let soft := sl.softStart || (sl.manual && !man)
  let t := setPointOf s st k sl
  let here := x * spUnit
  let r := if soft || man then here else slewTo sl.r0 t
  let r1 := if soft then here else sl.r0
  let r2 := if soft then here else sl.r1
  let value := if man && !sl.manual then heldOutput s st k sl * manUnit else sl.manualValue
  let kept := { sl with
    r0 := r, r1, r2, frozen := false, softStart := false, preset := false, manual := man, enc1 := s.engine.encoder
    grace := if sl.frozen then 2 else sl.grace
    manualValue := if man then manualStep s st k { sl with manualValue := value } else sl.manualValue }
  let e := if fbit st (slotDir k) then here - r else r - here
  { slot := k, kept, x, alt := measurement s sl (fnat st (slotAlt k)), there := r == t.target
    load := soft || sl.preset || resumed, clamps := t.clamped && r == t.target && sl.r0 != t.target, err := ⟨e, spUnit⟩
    fa := fracMul (fracCoef (fval st (slotKaM k)) (fval st (slotKaE k))) ⟨r - 2 * r1 + r2, spUnit⟩ }

/-- A slot's frame up to the sample latch: a disabled slot holds nothing, a failed one proposes `SAFE_OUT`, one whose
measurement is not valid is frozen, and one whose turn it is computes (R298, R306, R319). -/
def latchSlot (s : State) (st : Store) (k : Nat) (sl : Slot) : Slot × Option Term :=
  let due := s.engine.frame % slotPeriod st k == fnat st (slotPhase k) % slotPeriod st k
  if !fbit st (slotEn k) then ({}, none)
  else if sl.failed then
    (if due then { sl with proposal := slotOut st k slotSafeOut, frozen := false } else sl, none)
  else
    let c := sourceOf s st k sl
    match measurement s sl c with
    | none => ({ sl with frozen := true, softStart := sl.softStart || (!sl.frozen && lockLost s st k c) }, none)
    | some x => (sl, if due then some (prepare s st k sl x) else none)

/-! Block floating point (R301). -/

/-- Every value fits an 18-bit mantissa at exponent e. -/
def fitsAt (vs : List Frac) (e : Int) : Bool :=
  vs.all fun v =>
    let m := fracRound (fracShift v (-e))
    (-131072) ≤ m && m ≤ 131071

/-- The least exponent from e on at which the values fit, up to 31. -/
def blockExp (vs : List Frac) : Nat → Int → Option Int
  | 0, _ => none
  | fuel + 1, e => if fitsAt vs e then some e else blockExp vs fuel (e + 1)

/-- A rank's stage after its normalisation, and whether it saturated. -/
def normalise (vs : List Frac) : List Frac × Bool :=
  match blockExp vs 64 (-32) with
  | some e => (vs.map fun v => fracShift (fracInt (fracRound (fracShift v (-e)))) e, false)
  | none => (vs.map fun v => fracShift (fracInt (clampInt (-131072) (fracRound (fracShift v (-31))) 131071)) 31, true)

/-! Integrators (R303, R305). -/

/-- A number modulo 2^24, as two's complement. -/
def wrap24 (n : Int) : Int := (n + 2 ^ 23) % 2 ^ 24 - 2 ^ 23

/-- An integrator after an add or a preset. -/
def settleInteg (st : Store) (k : Nat) (m : Int) : Int :=
  if fbit st (slotWrap k) then wrap24 m else clampInt (-(2 ^ 22)) (wrap24 m) (2 ^ 22)

/-- The voltage feed-forward factor *v_nom* / *v*, from 0.25 to 4 (R304). -/
def feedForward (s : State) (st : Store) (k : Nat) (sl : Slot) : Frac :=
  let c := fnat st (slotVffSrc k)
  let nom := fnat st (slotVNom k)
  if c = 0 then fracInt 1
  else
    match measurement s sl c with
    | none => fracInt 1
    | some v => if 4 * v ≤ nom then fracInt 4 else if 4 * nom ≤ v then ⟨1, 4⟩ else ⟨nom, v.toNat⟩

/-- The bumpless preset against an applied output (R305). -/
def bumpless (st : Store) (k : Nat) (ff p fa : Frac) (a : Int) : Int :=
  let u := fracMul (fracInt a) ⟨ff.den, ff.num.toNat⟩
  settleInteg st k (fracRound (fracShift (fracSub (fracSub u p) fa) (-(fval st (slotIExp k)))))

/-- An increment in integrator units, and whether it is limited (R303). -/
def increment (st : Store) (k : Nat) (err : Frac) : Int × Bool :=
  let i := fracRound (fracShift (fracMul (fracCoef (fval st (slotKiM k)) (fval st (slotKiE k))) err)
    (-(fval st (slotIExp k))))
  let j := clampInt (-(2 ^ 21)) i (2 ^ 21)
  (j, i != j)

/-! The stages of a rank (R299, R304). -/

/-- A slot after the U stage. -/
structure Done where
  term : Term
  p : Frac
  ff : Frac
  integ : Int
  prop : Int
  /-- Its proposal is clamped. -/
  held : Bool
  limited : Bool
deriving DecidableEq, Repr

/-- The clamp of a proposal (R304). -/
def clampProp (s : State) (st : Store) (k : Nat) (v : Int) : Int :=
  let l := destLimits s (fnat st (slotDest k))
  clampInt (max (slotOut st k slotUMin) l.1) v (min (slotOut st k slotUMax) l.2)

/-- The integrator after the add, or its preset. -/
def integStage (s : State) (st : Store) (t : Term) (err p ff : Frac) : Int × Bool :=
  let k := t.slot
  if t.load then (bumpless st k ff p t.fa (heldOutput s st k t.kept), false)
  else
    let i := increment st k err
    (settleInteg st k (t.kept.integ + i.1), i.2)

/-- The proposal of a slot from its normalised sum, or its manual value. -/
def proposal (t : Term) (u ff : Frac) : Int :=
  if t.kept.manual then roundHalfEven t.kept.manualValue manUnit else fracRound (fracMul u ff)

/-- One rank of a lane: its slots through the three stages, and how many normalisations saturated. -/
def rankStages (s : State) (st : Store) (ts : List Term) : List Done × Nat :=
  let es := normalise (ts.map (·.err))
  let ps := normalise (List.zipWith
    (fun (t : Term) e => fracMul (fracCoef (fval st (slotKpM t.slot)) (fval st (slotKpE t.slot))) e) ts es.1)
  let rows := ts.zip (es.1.zip ps.1)
  let mid := rows.map fun (r : Term × Frac × Frac) =>
    let ff := feedForward s st r.1.slot r.1.kept
    (r.1, r.2.2, ff, integStage s st r.1 r.2.1 r.2.2 ff)
  let us := normalise (mid.map fun (m : Term × Frac × Frac × Int × Bool) =>
    fracAdd (fracAdd m.2.1 (fracCoef m.2.2.2.1 (fval st (slotIExp m.1.slot)))) m.1.fa)
  let fin := List.zipWith (fun (m : Term × Frac × Frac × Int × Bool) u =>
    let v := proposal m.1 u m.2.2.1
    let c := clampProp s st m.1.slot v
    ({ term := m.1, p := m.2.1, ff := m.2.2.1, integ := m.2.2.2.1, prop := c, held := c != v, limited := m.2.2.2.2 } : Done))
    mid us.1
  (fin, es.2.toNat + ps.2.toNat + us.2.toNat)

/-- The ranks of a lane. -/
def laneStages (s : State) (st : Store) (ts : List Term) : List Done × Nat :=
  let ranks := (List.range 6).map fun r => rankStages s st (ts.filter fun t => t.slot / 8 == r)
  (ranks.flatMap (·.1), (ranks.map (·.2)).sum)

/-! Convergence (12 R287, R326). -/

/-- The slow position was within ±`SLOW_TOL` of the waveform on every active line of one whole frame of the port's vertical fields; counts holds
its readings, line by line. -/
def slowFollows (s : State) (p : Port) (counts : List Int) : Bool :=
  let q := portOf s p
  let n := fnat q.vertFields (rasterVact p)
  let amp := slowTarget s p
  q.vact == n && counts.length == n && counts.zipIdx.all fun e =>
    1000 * (slowOf s p e.1 * n - (amp : Int) * (2 * e.2 - n)).natAbs ≤ fnat q.mirrorFields (mirrorSlowTol p) * amp * n

/-- An item passes its convergence test (Table 12-3, R326): amplitudes and drive-pulse centroids of the latest periods, newest first, the slow
positions of a frame, or the engine's own run of 64 computations of a set-point's slot. -/
def itemConverges (s : State) (readings : List Int) : SItem → Bool
  | .amp p => lastAll 64 readings fun v => ampWithin s p (ampOf s p v.toNat)
  | .drivePhase p =>
    lastAll 64 readings fun v => (drivePhaseOf v - fval (itemStore s (.drivePhase p)) (mirrorDrivePhase p)).natAbs ≤ 16
  | .slowAmp p => slowFollows s p readings
  | .vertical p => slowFollows s p readings
  | .setPoint k =>
    let slots := match s.engine.serving with
      | .a => s.engine.slotsA
      | .b => s.engine.slotsB
    64 ≤ (slots.getD k {}).convRun

/-- S_ITEM_CONVERGED (R287, R326). -/
def execSItemConverged (e : Convergence) (s : State) : Out :=
  let t := { s with gather := { s.gather with ramping := s.gather.ramping.filter (· != e.item) } }
  guarded (running s && s.gather.ramping.contains e.item && itemConverges s e.readings e.item &&
    (s.gather.state == .ramp || s.gather.state == .restore)) s (restoreProgress t)

end Sys2Proof.Machine
end

