-- ==== Sys2Proof/Machine/Engine.lean ====
section
/-! DEFINITION. The control engine's schedule frame (13 R297 to R300, R312 to R327): halters and caps, tracking, the two lanes,
the model test, and the inputs that the engine counts and times itself. -/

namespace Sys2Proof.Machine

open Sys2Proof

/-! Slots of a lane. -/

def laneSlots (s : State) : Lane → List Slot
  | .a => s.engine.slotsA
  | .b => s.engine.slotsB

def setLane (l : Lane) (ks : List Slot) (s : State) : State :=
  match l with
  | .a => { s with engine := { s.engine with slotsA := ks } }
  | .b => { s with engine := { s.engine with slotsB := ks } }

def mapLanes (f : Nat → Slot → Slot) (s : State) : State :=
  let g := fun (ks : List Slot) => ks.zipIdx.map fun e => f e.2 e.1
  setLane .b (g s.engine.slotsB) (setLane .a (g s.engine.slotsA) s)

def laneDomain : Lane → Domain
  | .a => .loopA
  | .b => .loopB

/-! What a frame latches (R299, R307, R313, R325). -/

/-- A port's measurement from what its stages deliver (12 R285); none without its calibration. -/
def portReading (s : State) (e : Nat × Int) : Option (Nat × Int) :=
  match sourcePort e.1 with
  | none => some e
  | some p =>
    if s.emit.cal.isEmpty then none
    else
      some (e.1, if e.1 % 4 = 0 then (ampOf s p e.2.toNat : Int) else if e.1 % 4 = 1 then drivePhaseOf e.2 else slowOf s p e.2)

/-- A new reading of a source, `AIN` and `BRIGHT` as 14-bit counts; these two pass their filter, which lies between the output before and the new
reading. -/
def takeReading (st : Store) (l : List (Nat × Int)) (e : Nat × Int) : List (Nat × Int) :=
  let tau := fnat st loopSpTau
  let old := (l.find? fun r => r.1 == e.1).map (·.2)
  let raw := if 40 ≤ e.1 && e.1 ≤ 44 then clampInt 0 e.2 16383 else e.2
  let v :=
    match old with
    | some y =>
      if tau != 0 && 40 ≤ e.1 && e.1 ≤ 44 then clampInt (min y raw) (Config.lowPass tau y raw) (max y raw) else raw
    | none => raw
  l.filter (fun r => r.1 != e.1) ++ [(e.1, v)]

/-- A port's amplitude is its latest reading while it is driven. -/
def takeAmp (p : Port) (s : State) : State :=
  match reading s (match p with | .a => 24 | .b => 28) with
  | some v => if portDriven s p then updPort s p fun q => { q with amp := v.toNat } else s
  | none => s

/-- The folios whose I fields apply from this frame: a slot that a swap changes is preset, and one that it enables starts
afresh (R325). -/
def takeFolios (s : State) : State :=
  let old := s.engine.fields
  let new := live s
  let t := { s with engine := { s.engine with fields := new } }
  if folioBytes old 14 == folioBytes new 14 then t
  else
    mapLanes (fun k sl =>
      if !fbit new (slotEn k) || !fbit old (slotEn k) then {}
      else
        let same := (slotFields k).all fun f => f == slotSp k || sameField old new f
        { sl with preset := sl.preset || !same }) t

/-- An upset replaces a slot's integrator in one lane. -/
def upset (u : Lane × Nat × Int) (s : State) : State :=
  setLane u.1 (modAt (laneSlots s u.1) u.2.1 fun k => { k with integ := wrap24 u.2.2 }) s

/-- A new serving lane presets its slots (R322). -/
def takePreset (s : State) : State :=
  if s.engine.presetDue then
    let t := { s with engine := { s.engine with presetDue := false } }
    let l := t.engine.serving
    setLane l ((laneSlots t l).map fun k => { k with preset := true }) t
  else s

/-- What the engine takes before the sample latch. -/
def latchFrame (i : FrameInputs) (s : State) : State :=
  let st := live s
  let t := { s with engine :=
    { s.engine with
      readings := (i.readings.filterMap (portReading s)).foldl (takeReading st) s.engine.readings
      outOfRange := i.outOfRange, rt0 := i.rt0, rt1 := i.rt1
      grants := if i.capsArrived then s.yard.grants else s.engine.grants } }
  let u := takeAmp .b (takeAmp .a t)
  let v := if u.cart.hasQualified then { u with cart := { u.cart with lastTemp := (cartTemp u).or u.cart.lastTemp } } else u
  i.upsets.foldl (fun w x => upset x w) (takePreset (takeFolios v))

/-! Halters (R312, R313). -/

/-- The cap of a halter: none without a class. -/
def haltCap (s : State) (st : Store) (h d : Nat) : Option Int :=
  let c := fnat st (halterCapClass h)
  if c = 0 then none
  else
    let g := nth s.engine.grants (c - 1)
    some (min (destLimits s d).2 ((g * fnat st (halterCapShare h) * fnat st (halterCapGain h) / 65536 : Nat) : Int))

/-- What a member brings to its halter: a frozen one counts as the value last applied. -/
def memberValue (s : State) (st : Store) (ks : List Slot) (k : Nat) : Int :=
  let sl := ks.getD k {}
  if sl.frozen then heldOutput s st k sl else sl.proposal

/-- The lowest of a list of values with their slots; ties go to the earlier. -/
def lowestOf : List (Nat × Int) → Option (Nat × Int)
  | [] => none
  | e :: rest => some (rest.foldl (fun b x => if x.2 < b.2 then x else b) e)

/-- The members of a halter by ascending slot. -/
def sortedMembers (st : Store) (h : Nat) : List Nat := (List.range 48).filter fun k => (members st h).contains k

/-- A halter's selection: the winner, 48 for the cap, and the value. -/
def haltChoice (s : State) (st : Store) (ks : List Slot) (h : Nat) : Option (Nat × Int) :=
  let ms := sortedMembers st h
  let d := fnat st (slotDest (ms.headD 0))
  lowestOf (ms.map (fun k => (k, memberValue s st ks k)) ++ ((haltCap s st h d).map fun c => (48, c)).toList)

/-- A value that a lane would write: destination, winner and value. -/
structure Write where
  dest : Nat
  winner : Nat
  value : Int
deriving DecidableEq, Repr

/-- The values that a lane would write at cycle 64. A slot outside every halter writes while it is not frozen. -/
def laneWrites (s : State) (st : Store) (ks : List Slot) : List Write :=
  let halts := (List.range 8).filterMap fun h =>
    let ms := sortedMembers st h
    if ms.isEmpty then none
    else (haltChoice s st ks h).map fun (c : Nat × Int) => ({ dest := fnat st (slotDest (ms.headD 0)), winner := c.1, value := c.2 } : Write)
  let singles := (enabledSlots st).filterMap fun k =>
    let sl := ks.getD k {}
    if (halterOf st k).isSome || sl.frozen then none
    else some ({ dest := fnat st (slotDest k), winner := k, value := sl.proposal } : Write)
  (halts ++ singles).filter fun w => w.dest != 0

/-! Applying values. -/

def setApplied (l : List (Nat × Int)) (d : Nat) (v : Int) : List (Nat × Int) :=
  if l.any fun e => e.1 == d then l.map fun e => if e.1 == d then (d, v) else e else l ++ [(d, v)]

/-- A destination receives a value, unless it is overridden. -/
def applyWrite (s : State) (w : Write) : State :=
  if !destTakes s w.dest then s
  else
    match destPort w.dest with
    | some p =>
      updPort s p fun q =>
        if w.dest % 4 = 0 then { q with driveW := w.value.toNat }
        else if w.dest % 4 = 1 then { q with driveP := w.value }
        else { q with driveSlow := w.value }
    | none => { s with engine := { s.engine with applied := setApplied s.engine.applied w.dest w.value } }

/-- A destination that no enabled slot writes returns to its reset value (R324). -/
def dropUnwritten (st : Store) (s : State) : State :=
  let ds := (enabledSlots st).map fun k => fnat st (slotDest k)
  let t := { s with engine := { s.engine with applied := s.engine.applied.filter fun e => ds.contains e.1 } }
  let port := fun (u : State) (p : Port) =>
    let b := match p with | .a => 8 | .b => 12
    if !portDriven u p then u
    else updPort u p fun q =>
      { q with driveW := if ds.contains b then q.driveW else 0, driveP := if ds.contains (b + 1) then q.driveP else 0
               driveSlow := if ds.contains (b + 2) then q.driveSlow else 0 }
  port (port t .a) .b

/-! Tracking and the model test (R305, R318, R319). -/

/-- What a slot's destination would receive from a lane. -/
def outputOf (s : State) (st : Store) (ws : List Write) (k : Nat) (prop : Int) : Int :=
  let d := fnat st (slotDest k)
  if d = 0 then prop
  else if !destTakes s d then destValue s d
  else ((ws.find? fun w => w.dest == d).map (·.value)).getD (destValue s d)

/-- A slot's proposal is not the one applied. -/
def loses (s : State) (st : Store) (ws : List Write) (d : Done) : Bool :=
  let k := d.term.slot
  let dest := fnat st (slotDest k)
  d.held || d.term.kept.manual || outputOf s st ws k d.prop != d.prop ||
    (dest != 0 && (ws.find? fun w => w.dest == dest).any fun w => w.winner != k)

/-- The integrator after cycles 60 to 62. -/
def tracked (s : State) (st : Store) (ws : List Write) (d : Done) : Int :=
  if loses s st ws d then bumpless st d.term.slot d.ff d.p d.term.fa (outputOf s st ws d.term.slot d.prop) else d.integ

/-- The prediction of the slot's model (R318). -/
def plantModel (st : Store) (k : Nat) (x a : Int) : Frac :=
  fracAdd (fracAdd (fracMul (fracCoef (fval st (slotMaM k)) (fval st (slotMaE k))) (fracInt x))
    (fracMul (fracCoef (fval st (slotMbM k)) (fval st (slotMbE k))) (fracInt a))) (fracInt (fval st (slotMc k)))

/-- A sample fails against the model. -/
def sampleFails (st : Store) (k : Nat) (x x1 a1 : Int) : Bool :=
  fracLt (fracInt (fnat st (slotResTol k))) (fracAbs (fracSub (fracInt x) (plantModel st k x1 a1)))

/-- The run of passing computations on `ALT`. -/
def altPasses (st : Store) (oor : List Nat) (k : Nat) (sl : Slot) (alt : Option Int) : Nat :=
  match alt, sl.alt1 with
  | some x, some x1 =>
    if oor.contains (fnat st (slotAlt k)) || sampleFails st k x x1 sl.a1 then 0 else min 64 (sl.altRun + 1)
  | _, _ => 0

/-- A slot's feedback is implausible: it goes to `ALT`, or fails (R319). -/
def implausible (s : State) (st : Store) (k : Nat) (sl : Slot) : Slot :=
  if !usesAlt s st k sl && fnat st (slotAlt k) != 255 && fnat st (slotResCount k) ≤ sl.altRun then
    { sl with onAlt := true, preset := true, failRun := 0, x1 := sl.alt1 }
  else { sl with failed := true, failRun := 0 }

/-- Cycles 65 to 99 of a slot that computed: its model test and its convergence (R318, R326); a is what its destination
received. -/
def judge (s : State) (st : Store) (oor : List Nat) (d : Done) (m a : Int) : Slot :=
  let k := d.term.slot
  let sl := d.term.kept
  let n := fnat st (slotResCount k)
  let tests := sl.grace = 0
  let bad := match sl.x1 with
    | some x1 => sampleFails st k d.term.x x1 sl.a1
    | none => false
  let run := if !tests || n = 0 then sl.failRun else if bad then sl.failRun + 1 else 0
  let conv := d.term.there && !fracLt (fracInt (fnat st (slotConvTol k))) (fracAbs d.term.err)
  let next := { sl with
    integ := m, proposal := d.prop, a1 := a, lastErr := some d.term.err.num, x1 := some d.term.x, alt1 := d.term.alt
    failRun := run, altRun := altPasses st oor k sl d.term.alt, grace := sl.grace - 1
    convRun := if conv then min 64 (sl.convRun + 1) else 0 }
  if tests && ((n != 0 && n ≤ run) || oor.contains (sourceOf s st k sl)) then implausible s st k next else next

/-! A lane's frame. -/

/-- A lane after cycle 64: its slots, what it would write, what it computed and how often it saturated. -/
structure LaneRun where
  slots : List Slot
  writes : List Write
  done : List Done
  saturated : Nat
deriving DecidableEq, Repr

/-- A slot that has computed takes its integrator and its proposal. -/
def putDone (ks : List Slot) (d : Done) : List Slot :=
  ks.set d.term.slot { d.term.kept with integ := d.integ, proposal := d.prop }

/-- A lane's frame up to its outputs. -/
def runLane (s : State) (st : Store) (ks : List Slot) : LaneRun :=
  let l := ks.zipIdx.map fun e => latchSlot s st e.2 e.1
  let r := laneStages s st (l.filterMap (·.2))
  let slots := r.1.foldl putDone (l.map (·.1))
  { slots, writes := laneWrites s st slots, done := r.1, saturated := r.2 }

/-- A lane's integrator of a slot that computed, at the lane comparison. -/
def integAt (s : State) (st : Store) (r : LaneRun) (d : Done) : Nat × Int := (d.term.slot, tracked s st r.writes d)

/-- The slots on which two lanes disagree (R320). -/
def disagreeing (s : State) (st : Store) (a b : LaneRun) : List Nat :=
  let tol := fnat st loopLaneTol
  let value := fun (r : LaneRun) (k : Nat) => outputOf s st r.writes k (r.slots.getD k {}).proposal
  let ma := a.done.map (integAt s st a)
  let mb := b.done.map (integAt s st b)
  (enabledSlots st).filter fun k =>
    tol < (value a k - value b k).natAbs ||
      ((ma.find? fun e => e.1 == k).map fun e => wrap24 e.2) != ((mb.find? fun e => e.1 == k).map fun e => wrap24 e.2)

/-- A lane's score on a slot (R321). -/
def laneScore (s : State) (st : Store) (r : LaneRun) (d : Done) : Frac :=
  fracAbs (fracSub ⟨d.term.kept.r0, spUnit⟩
    (plantModel st d.term.slot d.term.x (outputOf s st r.writes d.term.slot d.prop)))

/-- The standby lane wins the arbitration: the lower score on the lowest disagreeing slot that has a model. -/
def standbyWins (s : State) (st : Store) (serve stand : LaneRun) (ks : List Nat) : Bool :=
  match ks.find? fun k => fnat st (slotResCount k) != 0 with
  | none => false
  | some k =>
    match serve.done.find? (fun (d : Done) => d.term.slot == k), stand.done.find? (fun (d : Done) => d.term.slot == k) with
    | some d, some e => fracLt (laneScore s st stand e) (laneScore s st serve d)
    | _, _ => false

/-- A lane's slots at the end of the frame: what their destinations received is known. -/
def endLane (s : State) (st : Store) (oor : List Nat) (r : LaneRun) (wrote : Bool) : List Slot :=
  r.done.foldl (fun ks d =>
    let k := d.term.slot
    let a := if wrote then outputOf s st r.writes k d.prop else heldOutput s st k d.term.kept
    ks.set k (judge s st oor d (tracked s st r.writes d) a)) r.slots

/-! Records and reports (R300, R315). -/

/-- The lowest proposal of a halter's members. -/
def lowestMember (s : State) (st : Store) (ks : List Slot) (h : Nat) : Nat :=
  ((lowestOf ((sortedMembers st h).map fun k => (k, memberValue s st ks k))).map fun e => e.2.toNat).getD 0

def halterRecord (s : State) (st : Store) (ks : List Slot) (h : Nat) : HalterRecord :=
  let d := fnat st (slotDest ((sortedMembers st h).headD 0))
  { cap := (haltCap s st h d).map Int.toNat, winner := (haltChoice s st ks h).map (·.1)
    demand := lowestMember s st ks h * 16 / fnat st (halterCapGain h) }

/-- The demand of a class in mA: the largest over its halters. -/
def classDemand (s : State) (st : Store) (ks : List Slot) (c : Nat) : Nat :=
  (((List.range 8).filter fun h => fnat st (halterCapClass h) = c).map fun h =>
    lowestMember s st ks h * 65536 / (fnat st (halterCapGain h) * fnat st (halterCapShare h))).foldl max 0

/-- The thermal headroom in mA. -/
def thermalHeadroom (st : Store) (ks : List Slot) : Nat :=
  ((enabledSlots st).filter fun k => fbit st (slotHr k)).foldl (fun m k =>
    match (ks.getD k {}).lastErr with
    | some e => min m (e.toNat * fnat st (slotHrGain k) / (256 * spUnit))
    | none => m) 65535

/-- The events of the serving lane's slots in the frame (14 R338, R319). -/
def slotEvents (st : Store) (before after : List Slot) (done : List Done) (s : State) : State :=
  done.foldl (fun (t : State) (d : Done) =>
    let k := d.term.slot
    let o := before.getD k {}
    let n := after.getD k {}
    let t1 := if d.term.clamps then report evTargetClamped 0 (fnat st (slotDest k) - 1) t else t
    let t2 := if n.onAlt && !o.onAlt then report evFeedbackSwitch 0 k t1 else t1
    if n.failed && !o.failed then report evLoopFailed 0 k { t2 with engine := { t2.engine with loopFailed := true } } else t2) s

/-- The end of a frame for the lane that serves. -/
def finish (st : Store) (r : LaneRun) (before ks : List Slot) (s : State) : State :=
  let t := { s with engine :=
    { s.engine with
      saturations := satAdd s.engine.saturations r.saturated
      limited := satAdd s.engine.limited (r.done.filter fun (d : Done) => d.limited).length
      halters := (List.range 8).map (halterRecord s st ks)
      demands := [1, 2, 3].map (classDemand s st ks)
      headroom := thermalHeadroom st ks } }
  slotEvents st before ks r.done t

/-- A joining lane copies the serving lane's slots, and stands by from the third frame (R323). -/
def joinLane (s : State) : State :=
  let l := otherLane s.engine.serving
  match s.engine.standby with
  | .joining n =>
    let t := setLane l (laneSlots s s.engine.serving) s
    if n = 0 then { t with engine := { t.engine with standby := .joining 1 } }
    else report evLaneJoined 0 (laneNum l) { t with engine := { t.engine with standby := .present } }
  | _ => s

/-- The outputs of a frame that is written. -/
def writeFrame (st : Store) (r : LaneRun) (s : State) : State :=
  rescale (dropUnwritten st (r.writes.foldl applyWrite s))

/-- A frame in which one lane serves alone. -/
def frameAlone (st : Store) (s : State) : State :=
  let l := s.engine.serving
  let before := laneSlots s l
  let r := runLane s st before
  let ks := endLane s st s.engine.outOfRange r true
  joinLane (finish st r before ks (setLane l ks (writeFrame st r s)))

/-- A frame in which both lanes compute: their comparison, the arbitration, and the outputs (R320 to R323). -/
def frameBoth (st : Store) (s : State) : State :=
  let l := s.engine.serving
  let m := otherLane l
  let before := laneSlots s l
  let a := runLane s st before
  let b := runLane s st (laneSlots s m)
  let ks := disagreeing s st a b
  let agree := ks.isEmpty
  let oor := s.engine.outOfRange
  let sa := endLane s st oor a agree
  let sb := endLane s st oor b agree
  let t := setLane m sb (setLane l sa s)
  if agree then finish st a before sa (writeFrame st a t)
  else
    let u := finish st a before sa t
    if standbyWins s st a b ks then resetDomain (laneDomain l) (laneTakeover u) else resetDomain (laneDomain m) u

/-! Lanes lost outright (R321, R323). -/

/-- An uncorrectable error in a lane's loop table: the other lane serves alone; with both in error the head halts. -/
def tableError (l : Lane) (s : State) : State :=
  let t := match l with
    | .a => { s with engine := { s.engine with tableErrA := true } }
    | .b => { s with engine := { s.engine with tableErrB := true } }
  if t.engine.tableErrA && t.engine.tableErrB then halt t
  else
    let u := loseLane l t
    { u with engine := { u.engine with standby := .absent } }

def lanesLost (i : FrameInputs) (s : State) : State :=
  let t := i.tableErr.elim s fun l => tableError l s
  i.m6Err.elim t fun l => if domainHeld t (laneDomain l) then t else resetDomain (laneDomain l) t

/-! The frame. -/

/-- The bridges of a port that COIL_OVERCURRENT turned off short its coils again after 10 µs (12 R292). -/
def passCoil (s : State) : State :=
  let one := fun (q : PortState) => { q with coilZ := q.coilZ - 1 }
  updPort (updPort s .a one) .b one

/-- SCHEDULE_FRAME (R298, R299), by which recovery intervals (04 R93), the spread of `CK_LAMP` (05 R113) and the delay lines (11 R272) are counted
too. -/
def execScheduleFrame (i : FrameInputs) (s : State) : Out :=
  let t := latchFrame i (delayFrame i.comparisons i.dllLocked (spreadFrame (passCoil (passRecovery s))))
  let st := t.engine.fields
  let u :=
    if domainHeld t (laneDomain t.engine.serving) then t
    else if t.engine.standby == .present && !domainHeld t (laneDomain (otherLane t.engine.serving)) then frameBoth st t
    else frameAlone st t
  let v := lanesLost i u
  guarded (running s && s.core.plls && !s.core.halted) s
    { v with engine := { v.engine with frame := (v.engine.frame + 1) % 2 ^ 32 } }

/-! Inputs that `CK_SYS` samples (R308, R309, R316). -/

/-- MANUAL_CHANGE (R316). -/
def execManualChange (low : Bool) (s : State) : Out :=
  .next { s with pins := { s.pins with manualLow := low } }

/-- The phase of a quadrature pair. -/
def quadrature (a b : Bool) : Nat := if a then (if b then 2 else 1) else if b then 3 else 0

/-- A number modulo 2^32, as two's complement. -/
def wrap32 (n : Int) : Int := (n + 2 ^ 31) % 2 ^ 32 - 2 ^ 31

/-- ENCODER_EDGE (R309): `ENC_A` leading counts up. Both inputs changed in one sample is an error. -/
def execEncoderEdge (a b : Bool) (s : State) : Out :=
  let d := (quadrature a b + 4 - quadrature s.pins.encA s.pins.encB) % 4
  let t := { s with pins := { s.pins with encA := a, encB := b } }
  let inv := (fnat (live s) loopEncCfg).testBit 1
  let move : Int := if (d == 1) != inv then 1 else -1
  let u :=
    if !sysRuns s || d = 0 then t
    else if d = 2 then { t with engine := { t.engine with encErrors := satInc t.engine.encErrors } }
    else { t with engine := { t.engine with encoder := wrap32 (t.engine.encoder + move) } }
  .next u

/-- ENC_Z_INDEX (R309). -/
def execEncZIndex (s : State) : Out :=
  guarded (sysRuns s && (fnat (live s) loopEncCfg).testBit 0) s
    { s with engine := { s.engine with encoder := fval (live s) loopEncZValue } }

/-- A `BRIGHT` period from 10 µs to 10 ms, in ticks of `CK_SYS` (200 MHz). -/
def brightInRange (n : Nat) : Bool := 2000 ≤ n && n ≤ 2000000

/-- A period of `BRIGHT` has ended. -/
def brightPeriod (mode : Nat) (n high : Nat) (b : Bright) : Bright :=
  if !brightInRange n then { b with pulse := mode = 2, periods := [] }
  else
    let ps := ((n, high) :: b.periods).take 4
    let full := ps.length = 4
    let pulse := mode != 1 && (full || b.pulse || mode = 2)
    let one := fun (e : Nat × Nat) => fracMul (fracInt 65535) ⟨e.2, e.1⟩
    let v := (fracRound (fracMul ((ps.map one).foldl fracAdd (fracInt 0)) ⟨1, ps.length⟩)).toNat
    { b with periods := ps, pulse, value := if full then v else b.value }

/-- BRIGHT_EDGE (R308). ticks counts from the edge before it. -/
def execBrightEdge (rising : Bool) (ticks : Nat) (s : State) : Out :=
  let mode := fnat (live s) loopBrightMode
  let b := s.bright
  let n :=
    if rising then
      let c := match b.high with
        | some h => if b.started then brightPeriod mode (h + ticks) h b else b
        | none => b
      { c with started := true, high := none }
    else if b.started then { b with high := some ticks }
    else b
  guarded (sysRuns s) s { s with bright := n }

/-- BRIGHT_ANALOGUE_TIMEOUT (R308): with `BRIGHT_MODE` at 2 the value is held. -/
def execBrightAnalogueTimeout (s : State) : Out :=
  let pulse := fnat (live s) loopBrightMode = 2
  guarded (sysRuns s) s
    { s with bright := { s.bright with pulse, periods := [], started := false, high := none } }

end Sys2Proof.Machine
end

