-- ==== Sys2Proof/Machine/Emitters.lean ====
section
/-! DEFINITION. Photodiode windows (14 R333, R336, R337): dark samples, channel powers, sink-voltage estimates, and the
blindness test of the laser safety path (16 R387). -/

namespace Sys2Proof.Machine

open Sys2Proof

/-! Samples (R336). -/

/-- A dark sample: no channel lit for the settling time. -/
def isDark (st : Store) (x : PdSample) : Bool := x.lit.isEmpty && fnat st emitPdSettle ≤ x.heldNs

/-- A sample that qualifies for a channel. -/
def qualifies (st : Store) (c : Nat) (x : PdSample) : Bool :=
  x.lit == [c] && fnat st emitPdMinLevel ≤ x.level && fnat st emitPdSettle ≤ x.heldNs

/-- The raw count of a photodiode: 0 is A, 1 is B. -/
def rawOf (pd : Nat) (x : PdSample) : Nat := if pd = 0 then x.rawA else x.rawB

/-- The dark samples with those of the window in front, at most 256. -/
def addDark (pd : Nat) (old : List Nat) (new : List PdSample) : List Nat := ((new.map (rawOf pd)).reverse ++ old).take 256

/-- The dark value of a photodiode: the mean of its dark samples. Before the first it is not stated. -/
def darkMean (s : State) (l : List Nat) : Frac := if l.isEmpty then fracInt (Config.unstated s.free) else ⟨l.sum, l.length⟩

/-- The calibration gain of a photodiode for a channel. -/
def pdGain (s : State) (pd c : Nat) : Nat := if pd = 0 then calGainA s.emit.cal c else calGainB s.emit.cal c

/-- 4^`PD_RANGE` of a photodiode. -/
def pdScale (st : Store) (pd : Nat) : Nat := 4 ^ (fnat st emitPdRange / 4 ^ pd % 4)

/-- The power that a sample shows at its own level, in nW. -/
def samplePower (s : State) (pd c : Nat) (dark : Frac) (x : PdSample) : Frac :=
  fracMul (fracSub (fracInt (rawOf pd x)) dark) ⟨pdGain s pd c * pdScale (live s) pd, 256⟩

/-- The full-level power of a qualifying sample (R336). -/
def fullPower (s : State) (pd c : Nat) (dark : Frac) (x : PdSample) : Frac :=
  fracMul (samplePower s pd c dark x) ⟨4095, x.level⟩

def fracSum (l : List Frac) : Frac := l.foldl fracAdd (fracInt 0)

/-- The mean over the qualifying samples of a window that held at least 4 of them (R337). -/
def windowPower (s : State) (pd c : Nat) (dark : Frac) (xs : List PdSample) : Option Int :=
  let q := xs.filter (qualifies (live s) c)
  if q.length < 4 then none
  else some (fracRound (fracMul (fracSum (q.map (fullPower s pd c dark))) ⟨1, q.length⟩))

/-- A photodiode's receiver is at the top of its range on some sample. -/
def atTop (pd : Nat) (xs : List PdSample) : Bool := xs.any fun x => rawOf pd x == 4095

/-- A measurement after a window: none with the receiver at its top, the new mean, or the one before. -/
def nextPower (s : State) (pd c : Nat) (dark : Frac) (xs : List PdSample) (old : Option Int) : Option Int :=
  if atTop pd xs then none else (windowPower s pd c dark xs).or old

/-! Sink voltages (R333). -/

/-- The estimate after the window's lit runs of at least 40 ns. -/
def sinkEstimate (runs : List SinkRun) (c : Nat) (v : Int) : Int :=
  (runs.filter fun (r : SinkRun) => r.channel == c && 40 ≤ r.ns).foldl (fun v r => if r.above then v + 25 else v - 25) v

/-- A lit channel's estimate is below `HR_MIN`: LD_HEADROOM, once per frame of its port. -/
def headroomEvent (c : Nat) (s : State) : State :=
  let l := laserOf s c
  if l.litWindow && l.sinkMv < fval (live s) emitHrMin && !l.hrReported then
    report evLdHeadroom 0 c (updLaser c (fun l => { l with hrReported := true }) s)
  else s

/-- A window's effect on the four channels. -/
def windowChannels (xs : List PdSample) (runs : List SinkRun) (s : State) : State :=
  let st := live s
  let dark := xs.filter (isDark st)
  let a := addDark 0 s.emit.darkA dark
  let b := addDark 1 s.emit.darkB dark
  let t := { s with emit := { s.emit with darkA := a, darkB := b } }
  let one := fun (e : Laser × Nat) =>
    { e.1 with
      powerA := nextPower t 0 e.2 (darkMean t a) xs e.1.powerA
      powerB := nextPower t 1 e.2 (darkMean t b) xs e.1.powerB
      sinkMv := sinkEstimate runs e.2 e.1.sinkMv
      litWindow := (xs.any fun x => x.lit.contains e.2) || runs.any fun r => r.channel == e.2 }
  let u := { t with emit := { t.emit with lasers := t.emit.lasers.zipIdx.map one } }
  [0, 1, 2, 3].foldl (fun w c => headroomEvent c w)
    (if a.isEmpty || b.isEmpty then { u with free := u.free + 1 } else u)

/-! Blindness (16 R387). -/

/-- The power predicted from the sink code of a sample. -/
def predicted (s : State) (c : Nat) (x : PdSample) : Nat :=
  calSlope s.emit.cal c * (sinkCode s c x.level - calIth s.emit.cal c) * 10

/-- The samples of a channel's blindness measurement: those of its monitor pulses, or, without monitor pulses, those of a window
that holds a measurement. -/
def blindSamples (s : State) (c : Nat) (xs : List PdSample) : List PdSample :=
  let q := xs.filter (qualifies (live s) c)
  if (fnat (live s) emitMonEn).testBit c then q.filter (·.monitor) else if q.length < 4 then [] else q

/-- A photodiode reads below `BLIND_PCT` % of the prediction on a channel; none without a measurement. -/
def readsBlind (s : State) (pd c : Nat) (dark : Frac) (xs : List PdSample) : Option Bool :=
  let q := blindSamples s c xs
  let want := (q.map (predicted s c)).sum
  if q.isEmpty || want = 0 then none
  else some (fracLt (fracMul (fracInt 100) (fracSum (q.map (samplePower s pd c dark)))) (fracInt (fnat (live s) safetyBlindPct * want)))

/-- The run of blind measurements of a photodiode after a window. -/
def blindRun (s : State) (pd : Nat) (dark : Frac) (xs : List PdSample) (run : Nat) : Nat :=
  [0, 1, 2, 3].foldl (fun n c =>
    match readsBlind s pd c dark xs with
    | some true => min 7 (n + 1)
    | some false => 0
    | none => n) run

/-- The blindness test of a window: PD_BLIND for a photodiode that turns blind, and a trip once both are. -/
def windowBlind (xs : List PdSample) (s : State) : State :=
  let a := blindRun s 0 (darkMean s s.emit.darkA) xs s.emit.blindA
  let b := blindRun s 1 (darkMean s s.emit.darkB) xs s.emit.blindB
  let newA := 4 ≤ a && s.emit.blindA < 4
  let newB := 4 ≤ b && s.emit.blindB < 4
  let t := { s with emit := { s.emit with blindA := a, blindB := b } }
  let u := if newA then report evPdBlind 0 0 t else t
  let v := if newB then report evPdBlind 0 1 u else u
  if 4 ≤ a && 4 ≤ b && !v.safety.causes.contains .pdBlind then trip .pdBlind (if newB then 5 else 4) v else v

/-- PD_WINDOW_END (R333, R337, R387). -/
def execPdWindowEnd (samples : List PdSample) (runs : List SinkRun) (s : State) : Out :=
  guarded (running s && s.core.plls && !s.core.halted && !domainHeld s .edge) s
    (windowBlind samples (windowChannels samples runs s))

/-- PD_MEASUREMENT_AGED (R337). -/
def execPdMeasurementAged (channel : Nat) (s : State) : Out :=
  guarded (running s) s (updLaser channel (fun l => { l with powerA := none, powerB := none }) s)

end Sys2Proof.Machine
end

