-- ==== Sys2Proof/Machine/LampField.lean ====
section
/-! DEFINITION. The lamp field (14 R341 to R357): levels and codes of a row-frame, the mask it takes, probe slots and lamp faults,
and the sinks' own protection. -/

namespace Sys2Proof.Machine

open Sys2Proof

def updLamps (f : LampField → LampField) (s : State) : State := { s with lamp := f s.lamp }

/-! Geometry and classes (R341). -/

/-- A row belongs to the Signal class. -/
def signalRow (st : Store) (r : Nat) : Bool := (fnat st lampSignalRows).testBit r

/-- A lamp's row. -/
def rowOf (f : LampField) (i : Nat) : Nat := i / max 1 f.cols

def signalLamp (f : LampField) (i : Nat) : Bool := signalRow f.fields (rowOf f i)

/-- The type of a lamp: a cool one has bit 7 of `CHROMA` set. -/
def coolLamp (st : Store) (i : Nat) : Bool := 128 ≤ fnat st (lampcalChroma i)

def lampBin (st : Store) (i : Nat) : Nat := fnat st (lampcalChroma i) % 128

/-- A dark lamp, for neighbour fill (R353). -/
def deadLamp (l : Lamp) : Bool := l.latched || l.eccDark

/-- The slot length *S* and the plane unit *U* (R342, R344). -/
def slotTicks (f : LampField) : Nat := rowSlot f.fields f.rows

def fieldUnit (f : LampField) : Nat := planeUnit f.fields f.rows

/-! Temperature (R346). -/

/-- The junction temperature estimate in 0.1 °C. -/
def lampTj (st : Store) (i : Nat) (l : Lamp) : Int :=
  let t := if coolLamp st i then 1 else 0
  250 + roundNear (-((l.vf - vf25 st i) * 10000)) (-(fval st (lampcalTcv t))).toNat

/-- The temperature factor *K*. -/
def lampK (st : Store) (i : Nat) (l : Lamp) : Nat :=
  let t := if coolLamp st i then 1 else 0
  let d := 10000000 + fval st (lampcalFluxTc t) * (lampTj st i l - 250)
  let top := fnat st lampcalKtMax
  if d ≤ 0 then top else max 2048 (min top (roundNear (4096 * 10000000) d.toNat).toNat)

/-! Colour (R347). -/

/-- A mired value. -/
def mired (k : Nat) : Int := roundNear 1000000 k

/-- The target colour temperature × 16,383. -/
def targetCct (s : State) (st : Store) : Nat :=
  let src := fnat st lampCctSrc
  if src = 0 then 16383 * fnat st lampCct
  else 16383 * 2700 + 3800 * ((reading s (39 + src)).getD 0).toNat

/-- The warm share of a pair, from 0 to 4,096. -/
def warmShare (s : State) (st : Store) (warm cool : Nat) : Nat :=
  let mw := mired (fnat st (lampcalCctW (lampBin st warm)))
  let mc := mired (fnat st (lampcalCctC (lampBin st cool)))
  let m := roundNear (1000000 * 16383) (targetCct s st)
  let w := if mw = mc then Config.pairShare m mw
    else if mc < mw then roundNear (4096 * (m - mc)) (mw - mc).toNat else roundNear (4096 * (mc - m)) (mc - mw).toNat
  (clampInt 0 w 4096).toNat

/-- The mixing factor *F* of a lamp. -/
def lampF (s : State) (st : Store) (i : Nat) : Nat :=
  if !fbit st lampPairing then 4096
  else
    let cool := coolLamp st i
    let mate := if i % 2 = 0 then i + 1 else i - 1
    let w := if cool then warmShare s st mate i else warmShare s st i mate
    let top := max w (4096 - w)
    (roundNear (4096 * (if cool then 4096 - w else w : Nat)) top).toNat

/-! Levels (R345). -/

/-- A lamp's level in a mask, or with none in force. -/
def maskLevel (s : State) (f : LampField) (i : Nat) : Nat :=
  match f.mask.bind (penOf s) with
  | some q => nth q.image.samples i
  | none => if signalLamp f i then 0 else 255

/-- The level of a lamp: the higher of a pair's two. -/
def lampLevel (s : State) (f : LampField) (i : Nat) : Nat :=
  if fbit f.fields lampPairing then max (maskLevel s f i) (maskLevel s f (if i % 2 = 0 then i + 1 else i - 1))
  else maskLevel s f i

/-- The class level *C* × 65,535. -/
def classLevel (s : State) (f : LampField) (i : Nat) : Nat :=
  let st := f.fields
  if signalLamp f i then fnat st lampSignalLevel * 65535
  else if fbit st lampBrightWork then fnat st lampWorkLevel * ((brightValue s).getD 0).toNat
  else fnat st lampWorkLevel * 65535

/-! Codes (R348, R353). -/

/-- The largest code, 2^*N* − 1. -/
def topCode (st : Store) : Nat := 2 ^ fnat st lampPlanes - 1

/-- The aimed code of a lamp before neighbour fill. -/
def aimedCode (s : State) (f : LampField) (i : Nat) (l : Lamp) : Nat :=
  let st := f.fields
  let top := topCode st
  let n := top * lampLevel s f i * classLevel s f i * fnat st (lampcalGain i) * lampK st i l * lampF s st i
  min top (roundHalfEven n (255 * 65535 * 4096 * 32768 * 4096 * 4096)).toNat

/-- The places of a lamp's neighbours. -/
def neighbours (f : LampField) (i : Nat) : List Nat :=
  let c := i % max 1 f.cols
  let step := if fbit f.fields lampPairing then 2 else 1
  (if i < f.cols then [] else [i - f.cols]) ++ (if i + f.cols < f.rows * f.cols then [i + f.cols] else []) ++
    (if c < step then [] else [i - step]) ++ if c + step < f.cols then [i + step] else []

/-- A neighbour's share of what a dark lamp would have shown. -/
def fillShare (f : LampField) (a : Nat) : Nat := (roundNear (a * fnat f.fields lampFill : Nat) 4096).toNat

/-- What a working lamp adds for the dark lamps beside it. -/
def fillFor (f : LampField) (codes : List Nat) (i : Nat) : Nat :=
  (((neighbours f i).filter fun j =>
    deadLamp (f.lamps.getD j {}) && signalLamp f j == signalLamp f i && coolLamp f.fields j == coolLamp f.fields i).map
      fun j => fillShare f (nth codes j)).sum

/-- The displayed code under a class's scale and plane drop. -/
def shownCode (st : Store) (a f q : Nat) : Nat :=
  min (2 ^ (fnat st lampPlanes - q) - 1) (roundHalfEven (a * f) (4096 * 2 ^ q)).toNat

/-- A lamp's codes for the row-frame. -/
def lampCodes (f : LampField) (codes : List Nat) (i : Nat) (l : Lamp) : Lamp :=
  if deadLamp l then { l with aimed := 0, code := 0 }
  else
    let a := min (topCode f.fields) (nth codes i + fillFor f codes i)
    { l with aimed := a, code := if signalLamp f i then shownCode f.fields a f.fSignal 0 else shownCode f.fields a f.fWork f.qWork }

/-- The codes of a row-frame. -/
def computeCodes (s : State) : State :=
  let f := s.lamp
  let codes := f.lamps.zipIdx.map fun e => aimedCode s f e.2 e.1
  updLamps (fun f => { f with lamps := f.lamps.zipIdx.map fun e => lampCodes f codes e.2 e.1 }) s

/-! The row slot (R342, R343, Table 14-2). -/

/-- The intervals of a row slot. -/
inductive RowPhase where
  | blank | settle | probe
  | plane (k : Nat)
  | rest
deriving DecidableEq, Repr

/-- The plane lit at a tick of the planes' interval; the first argument counts the planes still to come. -/
def planeAt (u : Nat) : Nat → Nat → RowPhase
  | 0, _ => .rest
  | k + 1, t => if t < 2 ^ k * u then .plane k else planeAt u k (t - 2 ^ k * u)

/-- The interval of a row's slot at a tick; the rows of Work leave out the planes that the yard drops (R348). -/
def rowPhase (f : LampField) (row t : Nat) : RowPhase :=
  let b := fnat f.fields lampBlank
  let e := fnat f.fields lampSettle
  if t < b then .blank
  else if t < b + e then .settle
  else if t < b + e + 48 then .probe
  else planeAt (fieldUnit f) (fnat f.fields lampPlanes - if signalRow f.fields row then 0 else f.qWork) (t - (b + e + 48))

/-- A row output is on at a tick of a row's slot: `ROW0` of a one-row geometry stays on. While the field is dark, rows are off. -/
def rowOn (f : LampField) (row t r : Nat) : Bool :=
  !f.dark && r == row % 16 && (f.rows == 1 || rowPhase f row t != .blank)

/-- What a sink draws at a tick of a row's slot. -/
inductive SinkDrive where
  | off | probe | lit
deriving DecidableEq, Repr

def sinkDrive (f : LampField) (row c t : Nat) : SinkDrive :=
  if f.dark || f.hot.contains c then .off
  else
    match rowPhase f row t with
    | .probe => .probe
    | .plane k => if (f.lamps.getD (row * f.cols + c) {}).code.testBit k then .lit else .off
    | _ => .off

/-- `ROWX` is high: for 24 ticks in the blank of row 0, and for 3 in those of rows 16, 32 and 48, from the blank's start. DESIGN CHOICE of
the place in the blank: log 120. -/
def rowxHigh (rows row t : Nat) : Bool :=
  16 < rows && ((row == 0 && t < 24) || ((row == 16 || row == 32 || row == 48) && t < 3))

/-! What a row-frame start takes. -/

/-- The folios: a forward-voltage estimate restarts where its lamp's bin changes (R356). -/
def takeLampFields (s : State) : State :=
  let old := s.lamp.fields
  let new := live s
  let one := fun (e : Lamp × Nat) =>
    if sameField old new (lampcalVf e.2) then e.1 else { e.1 with vf := vf25 new e.2 }
  updLamps (fun f =>
    { f with fields := new, lamps := if folioBytes old 18 == folioBytes new 18 then f.lamps else f.lamps.zipIdx.map one }) s

/-- The entry whose mask the lamp engine shows, and whether a pending selection is being taken (10 R244). While the lead port has taken no
entry yet, the entry last in force goes on. -/
def lampChoice (s : State) : Option Nat × Bool :=
  match leadPort s with
  | some p => (((portOf s p).taken.or (portOf s p).shown).or s.select.current, false)
  | none =>
    let ready := (takeable s).filter fun e => leavesHeld s s.binding.live (maskLeaf s s.binding.live e).toList
    match ready with
    | some e => (some e, true)
    | none => (s.select.current, false)

/-- The take of a pending selection: it becomes the current entry, and on a head whose ports cannot run it is shown. -/
def takeLampEntry (e : Nat) (s : State) : State :=
  if (headPorts s).isEmpty then { s with select := { pending := none, current := some e, lastShown := some e } }
  else { s with select := { s.select with current := some e } }

/-- The pen of the bridge mask, while a bridge shows it (07 R165). -/
def bridgePen (s : State) : Option Nat :=
  if s.gather.bridge then livePenFor s (leafRef s.binding.live gatherBridgeMask) else none

/-- The lamp mask of a row-frame: the bridge mask, or the mask of the entry; a mask that no pen holds yet leaves the one in force,
and inside a bridge the field keeps its old state. -/
def takeMask (s : State) : State :=
  match bridgePen s with
  | some i => updLamps (fun f => { f with mask := some i }) s
  | none =>
    let c := lampChoice s
    let t := if c.2 then c.1.elim s fun e => takeLampEntry e s else s
    let leaf := c.1.bind (maskLeaf t t.binding.live)
    let pen := livePenFor t leaf
    if leaf.isSome && pen.isNone then t
    else
      let old := (t.pens.list.filter fun e => e.2.kind == .lampMask && e.2.state == .shown && some e.1 != pen).map (·.1)
      retirePens old (markShown pen (updLamps (fun f => { f with mask := pen }) t))

/-- The scales of the yard (15 R368, R369). -/
def takeScales (s : State) : State :=
  updLamps (fun f => { f with fWork := s.yard.fWork, qWork := s.yard.qWork, fSignal := s.yard.fSignal }) s

/-- What every row-frame start does: the dark of a kill ends, sinks turned off are on again, and the sinks lit in the row-frame
that ends are those of source 0x21 (R354, R355, R357). -/
def turnFrame (s : State) : State :=
  updLamps (fun f =>
    { f with dark := s.pins.killLow || s.jtag.instr == .extest, cut := false, hot := [], litLast := f.litNow, litNow := []
             sinceHeadroom := min 100 (f.sinceHeadroom + 1) }) s

/-- LAMP_HEADROOM, once per 100 row-frames (R355). -/
def lampHeadroomEvent (s : State) : State :=
  if (lampHeadroom s).any (· < fval s.lamp.fields lampHrMin) && 100 ≤ s.lamp.sinceHeadroom then
    report evLampHeadroom 0 0 (updLamps (fun f => { f with sinceHeadroom := 0 }) s)
  else s

/-- The lamp field runs its row-frames. -/
def lampRuns (s : State) : Bool :=
  running s && s.core.plls && !s.core.halted && s.lamp.running && !domainHeld s .lamp

/-- ROW_FRAME_START (R342, R345, R350, R356). Codes that are not ready, as while `CK_SYS` is in reset, repeat the row-frame; its start is a
stitch boundary all the same (07 R163). -/
def execRowFrameStart (codesReady : Bool) (s : State) : Out :=
  let t := lampHeadroomEvent (turnFrame s)
  let u :=
    if codesReady && !domainHeld s .sys then computeCodes (takeScales (takeMask (passRowFrame (takeLampFields t))))
    else report evLampRepeat 0 0 (updLamps (fun f => { f with repeats := satInc f.repeats }) t)
  guarded (lampRuns s) s (if domainHeld s .sys then u else stitchAtTick (restoreProgress u))

/-! Probe slots (R346, R351, R352). -/

/-- The probe results of the row are discarded. -/
def probeDiscarded (s : State) : Bool :=
  s.pins.killLow || s.jtag.instr == .extest || s.lamp.cut || (lampHeadroom s).any (· < fval s.lamp.fields lampHrMin)

/-- The open and short decisions of a probe. -/
def probeOpen (st : Store) (sink : Nat) : Bool := sink < fnat st lampOpenMv
def probeShort (st : Store) (rail sink : Nat) : Bool := (rail : Int) - fval st lampShortMv < sink

/-- A lamp after its probe: the estimate moves by 2 mV, and the runs of agreeing probes go on. -/
def probeLamp (st : Store) (rail sink : Nat) (l : Lamp) : Lamp :=
  if l.latched then l
  else
    { l with
      vf := if (rail : Int) - l.vf < sink then l.vf - 2 else l.vf + 2
      openRun := if probeOpen st sink then min 15 (l.openRun + 1) else 0
      shortRun := if probeShort st rail sink then min 15 (l.shortRun + 1) else 0 }

/-- The lamps of a row. -/
def rowLamps (f : LampField) (row : Nat) : List Nat := (List.range f.cols).map fun c => row * f.cols + c

/-- Latch a lamp's fault. -/
def latchLamp (i : Nat) (s : State) : State :=
  updLamps (fun f => { f with lamps := modAt f.lamps i fun l => { l with latched := true } }) s

/-- The fault of one lamp: open first, then short. -/
def lampFault (s : State) (i : Nat) : State :=
  let n := fnat s.lamp.fields lampFaultProbes
  let l := s.lamp.lamps.getD i {}
  if l.latched then s
  else if n ≤ l.openRun then report evLampOpen 0 i (latchLamp i s)
  else if n ≤ l.shortRun then report evLampShort 0 i (latchLamp i s)
  else s

/-- The run of probes on which a whole row read open. -/
def rowRun (f : LampField) (row : Nat) : Nat := ((f.rowOpen.find? fun e => e.1 == row).map (·.2)).getD 0

def setRowRun (f : LampField) (row n : Nat) : LampField :=
  { f with rowOpen := (f.rowOpen.filter fun e => e.1 != row) ++ if n = 0 then [] else [(row, n)] }

/-- A probe of a row that counts. -/
def probeRow (row rail : Nat) (sinks : List Nat) (s : State) : State :=
  let st := s.lamp.fields
  let free := (rowLamps s.lamp row).filter fun i => !(s.lamp.lamps.getD i {}).latched
  let all := !free.isEmpty && free.all fun i => probeOpen st (nth sinks (i % max 1 s.lamp.cols))
  let run := if all then rowRun s.lamp row + 1 else 0
  let t := updLamps (fun f => setRowRun { f with
    lamps := f.lamps.zipIdx.map fun e =>
      if rowOf f e.2 = row then probeLamp st rail (nth sinks (e.2 % max 1 f.cols)) e.1 else e.1 } row run) s
  if fnat st lampFaultProbes ≤ run then
    report evRowOpen 0 row (updLamps (fun f => setRowRun f row 0) (free.foldl (fun u i => latchLamp i u) t))
  else (rowLamps t.lamp row).foldl lampFault t

/-- The tracking estimates move 10 mV towards the sinks' voltages, by the comparators' decisions at the end of the first lit plane
of the row slot (R355). -/
def trackSinks (track : List (Nat × Bool)) (s : State) : State :=
  updLamps (fun f =>
    { f with
      tracking := track.foldl (fun l e => modAt l e.1 fun v => if e.2 then v + 10 else v - 10) f.tracking
      litNow := (f.litNow ++ track.map (·.1)).eraseDups }) s

/-- PROBE_SLOT_END (R351, R352, R354, R355); `VLAMP_SENSE` has a full scale of 24 V (02 R37). track holds the sinks that the planes of
the row slot before this one lit, with the decisions of their comparators. -/
def execProbeSlotEnd (row vlampMv : Nat) (sinkMv : List Nat) (track : List (Nat × Bool)) (s : State) : Out :=
  let t := trackSinks track (updLamps (fun f => { f with hot := [] }) s)
  guarded (lampRuns s && row < s.lamp.rows) s (if probeDiscarded t then t else probeRow row (min 24000 vlampMv) sinkMv t)

/-- SINK_HOT (R354). -/
def execSinkHot (sink : Nat) (s : State) : Out :=
  guarded (lampRuns s && !s.lamp.dark && sink < s.lamp.cols && !s.lamp.hot.contains sink) s
    (report evSinkHot 0 sink (updLamps (fun f => { f with hot := f.hot ++ [sink], hotCount := satInc f.hotCount }) s))

end Sys2Proof.Machine
end

