-- ==== Sys2Proof/Machine/Yard.lean ====
section
/-! DEFINITION. The budget yard (15 R361 to R371): the budget, the allocation, the grants, their outcomes, and the yard tick, from
which the keeper, the beacon's timer and the release of the trip latch are counted. Lists hold Guide, Work, Signal. -/

namespace Sys2Proof.Machine

open Sys2Proof

/-! The budget (R361). -/

/-- The budget and the term that sets it: 1 pack, 2 thermal, 3 cap; equals go to the first. -/
def budgetOf (pack thermal cap : Nat) : Nat × Nat :=
  let b := min pack (min thermal cap)
  (b, if pack = b then 1 else if thermal = b then 2 else 3)

/-! Demands (R349, R362). -/

/-- The lamp demand of a class in mA of head budget, from the latest row-frame. -/
def lampDemand (f : LampField) (signal : Bool) : Nat :=
  let st := f.fields
  let sum := ((f.lamps.zipIdx.filter fun e => signalLamp f e.2 == signal).map fun e => e.1.aimed).sum
  sum * fnat st lampISink * 120 * fieldUnit f * fnat st lampBudgetGain / (4095 * f.rows * slotTicks f * 4096)

/-- The demands of a tick. -/
def demandsOf (s : State) : List Nat :=
  let e := s.engine.demands
  [nth e 0, nth e 1 + lampDemand s.lamp false, nth e 2 + lampDemand s.lamp true]

/-! Absence (R363). -/

/-- The lamp field has a lamp of a class. -/
def hasLamps (s : State) (signal : Bool) : Bool :=
  s.lamp.running && (List.range s.lamp.rows).any fun r => signalRow s.lamp.fields r == signal

/-- A halter names a class. -/
def haltsClass (s : State) (c : Nat) : Bool := (List.range 8).any fun h => fnat (live s) (halterCapClass h) == c

/-- The classes present. -/
def presentOf (s : State) : List Bool :=
  [guidePresent s, hasLamps s false || haltsClass s 2, hasLamps s true || haltsClass s 3]

/-! Allocation (R364, R365). -/

/-- The classes of an order field, first to last, as 0 Guide, 1 Work, 2 Signal. -/
def classOrder (field : Nat) : List Nat := (orderOf field).map (· - 1)

/-- The targets of the classes of an order, from what is left of the budget. -/
def allocate (st : Store) (demands : List Nat) (rw : Nat) : List Nat → Nat → List Nat → List Nat
  | [], _, ts => ts
  | k :: rest, a, ts =>
    let d := nth demands k
    let last := rest.isEmpty
    let t :=
      if k = 0 then min (fnat st budgetGuideCap) a
      else if k = 1 then (if last then a else min (d - rw) a)
      else if d ≤ a then (if last then a else d)
      else 0
    allocate st demands rw rest (a - t) (ts.set k (if k = 1 then rw + t else t))

/-- Work's floor (R365). -/
def workFloor (st : Store) (demand : Nat) : Nat := ceilDiv (demand * fnat st budgetWorkFloor) 4096

/-- The targets of a tick. -/
def targetsOf (st : Store) (present : List Bool) (order demands : List Nat) (b : Nat) : List Nat :=
  let rw := if present.getD 1 false then min b (workFloor st (nth demands 1)) else 0
  allocate st demands rw (order.filter fun k => present.getD k false) (b - rw) [0, 0, 0]

/-- A grant moves to its target: down at once, up under `SLEW` (R366). -/
def grantStep (slew t g : Nat) : Nat := if t ≤ g then t else min t (g + slew)

/-! Outcomes (R367, R368). -/

/-- The need of a class. -/
def needOf (st : Store) (k d : Nat) : Nat := if k = 0 then min d (fnat st budgetGuideCap) else d

/-- The outcome of a class: 1 served, 2 trimmed, 3 delayed, 4 refused, 5 absent. -/
def outcomeOf (present : Bool) (k d need t g : Nat) : Nat :=
  if !present then 5
  else if k = 2 && t = 0 && 0 < d then 4
  else if need ≤ g then 1
  else if need ≤ t then 3
  else 2

/-- The granted fraction in 1/4,096. -/
def fractionOf (outcome need g : Nat) : Nat :=
  if outcome = 5 || outcome = 4 then 0 else if need = 0 then 4096 else min 4096 (4096 * g / need)

/-- The scale and plane drop of Work: one more plane is dropped while the scale is below `WORK_DEPTH_AT`. -/
def workDepth (depthAt planes phi : Nat) : Nat → Nat → Nat → Nat × Nat
  | 0, f, q => (f, q)
  | fuel + 1, f, q =>
    if 0 < f && f < depthAt && q < planes - 8 then
      workDepth depthAt planes phi fuel (min 4096 (phi * 2 ^ (q + 1))) (q + 1)
    else (f, q)

/-! The tick. -/

/-- An allocating tick (R361 to R370). BUDGET_FLOOR is reported while the budget is below Work's floor. -/
def allocateTick (s : State) : State :=
  let st := live s
  let b := budgetOf s.pack.limit s.engine.headroom (budgetCapOf s.binding.live)
  let present := presentOf s
  let demands := demandsOf s
  let order := classOrder (if s.pins.trig then fnat st budgetTrigOrder else fnat st budgetIdleOrder)
  let targets := targetsOf st present order demands b.1
  let grants := List.zipWith (grantStep (fnat st budgetSlew)) targets s.yard.grants
  let needs := [0, 1, 2].map fun k => needOf st k (nth demands k)
  let outcomes := [0, 1, 2].map fun k =>
    outcomeOf (present.getD k false) k (nth demands k) (nth needs k) (nth targets k) (nth grants k)
  let fractions := [0, 1, 2].map fun k => fractionOf (nth outcomes k) (nth needs k) (nth grants k)
  let depth := workDepth (fnat st budgetWorkDepthAt) (fnat s.lamp.fields lampPlanes) (nth fractions 1) 6 (nth fractions 1) 0
  let short := List.zipWith (fun o x => x || o == 2 || o == 4) outcomes s.yard.shortSince
  let t := { s with yard :=
    { s.yard with
      allocating := true, budget := b.1, term := b.2, trigOrder := s.pins.trig, demands, targets, grants, outcomes
      fractions, fWork := depth.1, qWork := depth.2, fSignal := if nth outcomes 2 = 1 then 4096 else 0
      headroom := s.engine.headroom, shortSince := short } }
  if present.getD 1 false && b.1 < workFloor st (nth demands 1) then report evBudgetFloor 0 0 t else t

/-- The beacon's timer (17 R399): every `TIMER_MS`-th tick, counted from the first allocating one, triggers while no port runs its
raster or `CK_SYS` is in reset. first is true at the first allocating tick. -/
def tickTimer (first : Bool) (s : State) : State :=
  let b := s.beacon
  let set := fun n due => { s with beacon := { b with sinceTimer := n, timerDue := due } }
  let frames := (leadPort s).isSome && !domainHeld s .sys
  if !s.yard.allocating then set 0 false
  else if first || fnat (live s) beaconTimerMs ≤ b.sinceTimer + 1 then set 0 (!frames)
  else set (b.sinceTimer + 1) false

/-- What is counted in yard ticks: the keeper's time, and the time since a kill release (16 R390). -/
def countTick (trig : Bool) (s : State) : State :=
  { s with
    pins := { s.pins with trig }
    keeper := { s.keeper with ticks := s.keeper.ticks + 1 }
    safety := { s.safety with sinceRelease := s.safety.sinceRelease.map fun n => min 10000 (n + 1) } }

/-- A gathering at a yard tick: what a rollback or a ramp waits for, and the stitch boundary of a head on which neither a port nor a
lamp field runs (07 R163). -/
def tickGather (s : State) : State :=
  let t := restoreProgress s
  if t.lamp.running && !domainHeld t .lamp then t else stitchAtTick t

/-- YARD_TICK (R361, R371). -/
def execYardTick (trig : Bool) (s : State) : Out :=
  let t := countTick trig s
  let first := !t.yard.allocating && serving t
  let u := if serving t then allocateTick t else t
  let v := tickTimer first u
  guarded (running s) s (if sysRuns v then tickGather v else v)

end Sys2Proof.Machine
end

