-- ==== Sys2Proof/Machine/Kill.lean ====
section
/-! DEFINITION. `KILL_N` and the trip latch (02 R39, 14 R357, 16 R383 to R391). -/

namespace Sys2Proof.Machine

open Sys2Proof

/-- KILL_ASSERT (R39, R19): the lasers go dark, the gates close, and the lamp sinks and rows go off. -/
def execKillAssert (s : State) : Out :=
  let t := closeGates (darkAllChannels
    { s with pins := { s.pins with killLow := true }, safety := { s.safety with tripInKill := false }
             lamp := { s.lamp with dark := true } })
  guarded (!s.pins.killLow) s (if running s then report evKill 0 1 t else t)

/-- A release of `KILL_N` clears the trip latch (R390). -/
def releases (heldMs : Nat) (s : State) : Bool :=
  fbit (live s) safetyRelease && !s.safety.causes.isEmpty && s.safety.causes.all releasable && !s.safety.relock &&
    !s.safety.tripInKill && 10 * fnat (live s) safetyReleaseMs ≤ heldMs

/-- The latch clears: every port owes a cross-check before it lights again (R391). -/
def clearLatch (s : State) : State :=
  { s with safety := { s.safety with causes := [], sinceRelease := some 0 }
           portA := { s.portA with qualified := false, checkPassed := false }
           portB := { s.portB with qualified := false, checkPassed := false } }

/-- KILL_RELEASE (R390). heldMs is how long `KILL_N` was low; the lamps light again from the next row-frame start. -/
def execKillRelease (heldMs : Nat) (s : State) : Out :=
  let t := { s with pins := { s.pins with killLow := false } }
  let u := if running s && releases heldMs s then clearLatch t else t
  guarded s.pins.killLow s (if running s then report evKill 0 0 u else u)

/-- The over-current comparator of a channel (R384): a sink current in µA, and for how long in ns it has stood. -/
def overCurrent (s : State) (c microAmps ns : Nat) : Bool :=
  (10 ≤ ns && (laserOf s c).ocCode * 400000 < microAmps * 4095) || (100 ≤ ns && 2000 < microAmps && !channelEnabled s c)

/-- The averaging window of the over-power comparators in ns (R385). -/
def opWindow (st : Store) : Nat :=
  match fnat st safetyOpFilter with
  | 0 => 25
  | 1 => 1000
  | 2 => 10000
  | _ => 100000

/-- A photodiode's dark current in nA: its dark mean, in counts of the full scale of its range (R335, R336). -/
def darkCurrent (s : State) (pd : Nat) : Frac :=
  fracMul (darkMean s (if pd = 0 then s.emit.darkA else s.emit.darkB)) ⟨25000 * pdScale (live s) pd, 4095⟩

/-- The over-power comparator of a photodiode (R385): its photocurrent in nA, averaged over the window chosen. -/
def overPower (s : State) (pd nanoAmps ns : Nat) : Bool :=
  ns == opWindow (live s) &&
    fracLt (fracAdd (fracInt (if pd = 0 then s.emit.opA else s.emit.opB)) (darkCurrent s pd)) (fracInt nanoAmps)

/-- A threshold read back differs from the one loaded (R386): of a channel, or of a photodiode. -/
def readBackDiffers (s : State) (which value : Nat) : Bool :=
  value != if which < 4 then (laserOf s which).ocCode else if which = 4 then s.emit.opA else s.emit.opB

/-- A check trips. value and ns are what its comparator sees, or the threshold read back. -/
def tripHolds (s : State) (which value ns : Nat) : TripCause → Bool
  | .overCurrent => which < 4 && overCurrent s which value ns
  | .overPower => (which == 4 || which == 5) && overPower s (which - 4) value ns
  | .pdBlind => 4 ≤ s.emit.blindA && 4 ≤ s.emit.blindB && !s.safety.causes.contains .pdBlind
  | .threshold => !s.emit.cal.isEmpty && !s.safety.causes.contains .threshold && which < 6 && readBackDiffers s which value
  | .safeRef => 4 ≤ s.safety.refRun && !s.safety.causes.contains .safeRef
  | .codeSafe => 3 ≤ s.safety.safeDiffer && !s.safety.causes.contains .codeSafe

/-- SAFETY_TRIP (R384 to R386, R389). -/
def execSafetyTrip (cause : TripCause) (e : TripSight) (s : State) : Out :=
  guarded (running s && tripHolds s e.which e.value e.ns cause) s (trip cause e.which s)

end Sys2Proof.Machine
end

