-- ==== Sys2Proof/Machine/Integrity.lean ====
section
/-! DEFINITION. ECC and the scrubber (16 R380 to R382, 04 Table 4-5, 08 R204, 09 R222): the scrub walk, the write-back queue, and
what an uncorrectable error does in each region of Table 16-1. -/

namespace Sys2Proof.Machine

open Sys2Proof

def updIntegrity (f : Integrity → Integrity) (s : State) : State := { s with integrity := f s.integrity }

/-! Corrected words (R380). -/

/-- The scrubber empties the write-back queue. -/
def writeBackAll (s : State) : State := updIntegrity (fun q => { q with writeBack := [] }) s

/-- A corrected word, a covered fault without a recovery interval (04 Table 4-4): its address is queued for write-back, and one corrected twice in a cycle is stuck. -/
def correctWord (a : Nat) (s : State) : State :=
  let q := s.integrity
  let room := q.writeBack.length < 16
  let t := updIntegrity (fun q =>
    { q with correctedWords := satInc q.correctedWords, corrected := if q.corrected.contains a then q.corrected else q.corrected ++ [a]
             writeBack := if room then q.writeBack ++ [a] else q.writeBack
             dropped := if room then q.dropped else satInc q.dropped }) s
  coverFault 0 255 (if q.corrected.contains a then reportX evEccStuck 0 (targetOf a) (some (a % 2 ^ 24)) t else t)

/-! Uncorrectable errors (Table 16-1). -/

/-- The eight bytes of a word read as zeros. -/
def zeroWord (bs : List Byte) (off : Nat) : List Byte :=
  bs.zipIdx.map fun e => if e.2 / 8 = off / 8 then 0#8 else e.1

/-- A pen with a word fetched as zeros. -/
def zeroPenWord (off : Nat) (q : Pen) : Pen :=
  let n := formatBytes q.image.format
  let img := { q.image with samples := q.image.samples.zipIdx.map fun e => if n * e.2 / 8 = off / 8 then 0 else e.1 }
  { q with image := img, block := zeroWord q.block off }

/-- The index of the leaf that a pen holds, in the live configuration. -/
def leafOfPen (s : State) (q : Pen) : Option Nat := s.binding.live.leaves.findIdx? fun e => matchesKey { q with state := .shown } e

/-- Ask for a SHOWN pen's content afresh (Table 4-5), unless a newer pen holds it. -/
def askAgain (i : Nat) (q : Pen) (s : State) : State :=
  if q.kind == .calibration then
    let asked := (laneJobs s).any fun j => isCalJob j && j.leaf == s.emit.calCode
    match calEntry s.binding.live s.emit.calCode with
    | some e => if asked then s else enqueue (calJob .recheck false s.binding.live e) s
    | none => s
  else
    match leafOfPen s q with
    | some l =>
      if penWith s (leafOf s.binding.live l) == some i then
        requestLeaf false s.binding.live .recheck ((shownOrLast s).getD 0) l s
      else s
    | none => s

/-- Every SHOWN pen that is in error is asked for again, as long as no decode is refused. -/
def askBadPens (s : State) : State :=
  if decodeRefused s then s
  else (s.pens.list.filter fun e => e.2.bad && e.2.state == .shown).foldl (fun t e => askAgain e.1 e.2 t) s

/-- A STANDBY pen is freed, and what wants it asks for it afresh. -/
def freeStandby (i : Nat) (q : Pen) (s : State) : State :=
  let t := freePen i s
  if q.stitch && t.gather.shadow.isSome && t.gather.state != .restore then
    if q.kind == .calibration then requestStitch { t with gather := { t.gather with calDue := true } } else requestStitch t
  else if q.stitch && t.gather.state == .restore then requestRestore t
  else
    match t.select.pending with
    | some n => if decodeRefused t then t else requestEntry false t.binding.live .pattern n t
    | none => t

/-- The canvas lane's job that fills a pen starts again, once; a second error discards its frame (R204). -/
def restartCanvas (i : Nat) (s : State) : State :=
  match s.canvas.job with
  | some j =>
    if !j.pens.contains i then s
    else if j.restarted then discardCanvas 0x8B s
    else { s with canvas := { s.canvas with job := some { j with restarted := true } } }
  | none => s

/-- The job that fills a pen starts again, once; a second error ends it as a failed read does (R204). -/
def restartFill (i : Nat) (s : State) : State :=
  match s.codec.running with
  | some j =>
    if j.pen != some i then restartCanvas i s
    else if j.restarted then jobBroken j s
    else setRunning { j with restarted := true } s
  | none => restartCanvas i s

/-- The word of an address is rewritten with zeros (Table 16-1). -/
def zeroStored (a : Nat) (s : State) : State :=
  ((List.range 8).map fun k => (8 * (a / 8) + k, (0 : Byte))).foldl writeByte s

/-- An uncorrectable error in the frame store. -/
def frameStoreError (a : Nat) (s : State) : State :=
  match penAt s a with
  | none => zeroStored a s
  | some (i, q, off) =>
    match q.state with
    | .free => s
    | .filling => restartFill i s
    | .standby => freeStandby i q s
    | .retiring => updPen s i (zeroPenWord off)
    | .shown =>
      match q.kind with
      | .table => s
      | .live => updPen s i (zeroPenWord off)
      | .calibration =>
        let t := updPen s i fun q => { zeroPenWord off q with bad := true }
        { t with emit := { t.emit with cal := zeroWord t.emit.cal off } }
      | _ => updPen s i fun q => { zeroPenWord off q with bad := true }

/-- The lamps that a word of the active `LAMPCAL` serves (14 Table 14-6). -/
def lampsOfWord (st : Store) (n off : Nat) : List Nat :=
  let w := 8 * (off / 8)
  (List.range n).filter fun i =>
    w < 16 || (w ≤ 1024 + 4 * i && 1024 + 4 * i < w + 8) ||
      (let at_ := if coolLamp st i then 512 + 2 * lampBin st i else 256 + 2 * lampBin st i
       fbit st lampPairing && w ≤ at_ && at_ < w + 8)

/-- An uncorrectable error in a half of T4 or T5. -/
def tableStoreError (a : Nat) (s : State) : State :=
  let active := upperHalf a == s.matrix.halves
  if !active then
    if s.gather.shadow.isSome || (s.binding.reader.stitch && s.gather.state == .validate) then
      if (s.mem.reading.toList ++ s.mem.waiting).contains .shadowFolio then s
      else pumpReads { s with mem := { s.mem with waiting := s.mem.waiting ++ [.shadowFolio] } }
    else zeroStored a s
  else if targetOf a = 4 then
    let ls := lampsOfWord (live s) s.lamp.lamps.length ((a - 0x00200000) % 32768)
    { s with lamp := { s.lamp with lamps := ls.foldl (fun l i => modAt l i fun k => { k with eccDark := true }) s.lamp.lamps } }
  else halt s

/-- The row of Table 16-1 that an address falls under, from 1. -/
def regionRow (s : State) (a : Nat) : Nat :=
  if targetOf a < 4 then
    match penAt s a with
    | none => 1
    | some (_, q, _) =>
      match q.state with
      | .filling => 2
      | .standby => 3
      | .shown => if q.kind == .live then 5 else if q.kind == .table then 6 else 4
      | _ => 1
  else if upperHalf a == s.matrix.halves then 9
  else if s.gather.shadow.isSome || (s.binding.reader.stitch && s.gather.state == .validate) then 8
  else 7

/-- An uncorrectable error (R382). -/
def uncorrectable (a : Nat) (s : State) : State :=
  let t := reportX evEccUncorrectable (regionRow s a) (targetOf a) (some (a % 2 ^ 24)) s
  if targetOf a < 4 then frameStoreError a t else if targetOf a < 6 then tableStoreError a t else s

/-! The walk (R381). -/

/-- The target that the walk is at. -/
def walkTarget (w : Nat) : Nat := if w < 8192 then w / 2048 else if w < 8448 then 4 else 5

/-- A cycle that lasts too long is reported once. -/
def scrubLate (s : State) : State :=
  let q := s.integrity
  if fnat (live s) integrityScrubCycleMax < s.keeper.ticks - q.cycleStart && !q.lateReported then
    report evScrubLate 0 (walkTarget q.walk) (updIntegrity (fun q => { q with lateReported := true }) s)
  else s

/-- The walk goes on to the next burst; after 8,576 bursts a cycle begins. -/
def advanceWalk (s : State) : State :=
  let n := (s.integrity.walk + 1) % 8576
  updIntegrity (fun q =>
    if n = 0 then { q with walk := 0, burstWaits := false, cycleStart := s.keeper.ticks, lateReported := false, corrected := [] }
    else { q with walk := n, burstWaits := false }) s

/-- SCRUB_TICK (R380 to R382). A burst that is not granted waits, and the walk with it. -/
def execScrubTick (r : ScrubResult) (s : State) : Out :=
  let t := scrubLate (askBadPens (writeBackAll s))
  let u :=
    if r.granted then
      askBadPens (r.uncorrectable.foldl (fun w a => uncorrectable a w)
        (r.corrected.foldl (fun w a => correctWord a w) (advanceWalk t)))
    else updIntegrity (fun q => { q with burstWaits := true }) t
  guarded (sysRuns s && s.core.plls) s u

/-- SCRUB_WITHDRAWN (R222): the burst is retried at the next period. -/
def execScrubWithdrawn (s : State) : Out :=
  let t := updIntegrity (fun q => { q with burstWaits := false }) s
  guarded (sysRuns s && s.integrity.burstWaits) s
    { t with matrix := { t.matrix with deferrals := satInc t.matrix.deferrals } }

end Sys2Proof.Machine
end

