-- ==== Sys2Proof/Machine/Record.lean ====
section
/-! DEFINITION. The beacon's record (17 R398 to R404): triggers, the capture with its page and events, and the end of a record;
and the end of a `FAULT_N` pulse (R397). -/

namespace Sys2Proof.Machine

open Sys2Proof

/-! Fields. -/

/-- A signed number in two's complement of k bytes. -/
def leInt (k : Nat) (v : Int) : List Byte := leBytes k (v % 256 ^ k).toNat

/-- A temperature in 0.1 °C; 0x8000 means no reading. -/
def tempBytes (t : Option Int) : List Byte := t.elim (leBytes 2 0x8000) (leInt 2)

/-- A 16-bit field. -/
def word (n : Nat) : List Byte := leBytes 2 (min 65535 n)

/-- From 0.01 °C to 0.1 °C. -/
def tenths (t : Option Int) : Option Int := t.map fun v => roundNear v 10

/-! Pages (Table 17-4). -/

/-- Page 0; a `PACK_T` that reads outside its codes gives no temperature. -/
def pagePack (s : State) : List Byte :=
  let p := s.pack
  let ident := if p.scheme = 3 then p.ident3 / 1024 % 16 + 16 * (p.ident3 / 256 % 4) + 64 * (p.ident3 / 16384 % 2) else p.band
  leBytes 1 (p.scheme + bit (p.present && !p.detecting && (p.identRead || p.unidentified)) 2 + bit p.unidentified 3) ++
    leBytes 1 ident ++ word p.limit ++ word p.mv ++ tempBytes (if p.tFault then none else p.temp) ++ word s.yard.headroom ++ leBytes 2 0

def pageYard (s : State) : List Byte := (s.yard.demands ++ s.yard.grants).flatMap word

/-- The coding of `MEM_MODE` (Table 6-2). -/
def memModeNum : MemMode → Nat
  | .s1 => 0
  | .s4 => 1
  | .d8 => 2

/-- The cartridge code: the qualified one, before that the band read, and 0 with no cartridge. -/
def pageCode (s : State) : Nat :=
  if !s.cart.present then 0 else if s.cart.qualified then s.cart.code else s.aon.cartAgree.getD 0

def pageIdentity (s : State) : List Byte :=
  let n := (recent (fnat (live s) hotplugChatterWindow) s.keeper.ticks s.cart.history).length
  leBytes 4 s.binding.live.build ++ leBytes 2 (fnat (live s) identVariant) ++ leBytes 1 (pageCode s) ++ leBytes 1 s.cart.reached ++
    leBytes 1 (min 255 n) ++ leBytes 1 (memModeNum s.mem.mode) ++ leBytes 1 s.mem.mhz ++ leBytes 1 0

def pageWheel (q : PortState) : List Byte :=
  let c := q.wheel.counters
  [c.lateDropped, c.lateExecuted, c.lineSkipped, c.heldEvents, c.tagMismatch, c.ringParity].flatMap word

def pagePicture (s : State) : List Byte :=
  let seq := (leadPort s).elim 0 fun p => (portOf s p).liveSeq
  [s.portA.underruns, s.portB.underruns, s.canvas.late, s.canvas.discards, seq].flatMap word ++
    leBytes 1 s.canvas.lastReason ++ leBytes 1 s.codec.lastError

def pageMatrix (s : State) : List Byte :=
  [s.matrix.decodeErrors.foldl satAdd 0, s.matrix.scanEmpty.foldl satAdd 0, s.matrix.deferrals, s.integrity.correctedWords, s.integrity.dropped,
    (resetFields s).lockBroken].flatMap word

/-- The hottest lamp in 0.1 °C. -/
def hottestLamp (s : State) : Option Int :=
  (s.lamp.lamps.zipIdx.map fun e => lampTj s.lamp.fields e.2 e.1).foldl (fun m v => some (m.elim v (max v))) none

def pageThermal (s : State) : List Byte :=
  tempBytes (tenths (cartTemp s)) ++ tempBytes (hottestLamp s) ++ tempBytes (tenths (reading s 56)) ++
    word (s.lamp.lamps.filter fun l => l.latched).length ++ word s.engine.saturations ++ word s.lamp.repeats

/-- A port's part of page 8. -/
def pageMirror (q : PortState) : List Byte :=
  word (if portIsLocked q then lockedHz q / 1000 else 0) ++ word q.amp ++ leBytes 1 q.kicks

def pageMirrors (s : State) : List Byte :=
  pageMirror s.portA ++ pageMirror s.portB ++ word (satAdd s.portA.faultCount s.portB.faultCount)

def pageHost (s : State) : List Byte :=
  [s.beacon.stitchIgnored, s.beacon.pstbIgnored, s.beacon.patternEmpty, s.beacon.codeDiffer, s.beacon.scheme3Bad,
    s.engine.encErrors].flatMap word

/-- A page's twelve bytes. -/
def pageData (s : State) : Nat → List Byte
  | 0 => pagePack s
  | 1 => pageYard s
  | 2 => pageIdentity s
  | 3 => pageWheel s.portA
  | 4 => pageWheel s.portB
  | 5 => pagePicture s
  | 6 => pageMatrix s
  | 7 => pageThermal s
  | 8 => pageMirrors s
  | 9 => pageHost s
  | _ => List.replicate 12 0#8

/-- The page of the next record: the next of those in rotation, wrapping at the end. -/
def nextPage (s : State) : Option Nat :=
  let set := (List.range 10).filter (fnat (live s) beaconPages).testBit
  match s.beacon.lastPage with
  | some p => (set.find? fun k => p < k).or set.head?
  | none => set.head?

/-! Events (R402). -/

/-- The oldest entries of the queue that fit four places, and the rest. -/
def takeEvents : Nat → List EventEntry → List EventEntry × List EventEntry
  | _, [] => ([], [])
  | room, e :: rest =>
    if entryPlaces e ≤ room then
      let r := takeEvents (room - entryPlaces e) rest
      (e :: r.1, r.2)
    else ([], e :: rest)

/-- An entry's bytes, with its extension. -/
def eventBytes (e : EventEntry) : List Byte :=
  leBytes 1 e.code ++ leBytes 1 e.aux ++ leBytes 2 e.subject ++ e.ext.elim [] fun v => leBytes 1 255 ++ leBytes 3 v

/-! The record (Table 17-2). -/

def stateByte (s : State) (frame : Bool) : Nat :=
  stat s + bit (ready s) 3 + bit (faultLatched s) 4 + bit frame 5 + bit s.pins.abortLow 6

def copyBit (c : Copy) : Bool := c == .b

def sigFlags (s : State) : Nat :=
  let b := s.binding
  bit (copyBit b.readCopy) 0 + bit b.twin 1 + bit (b.live.origin == .flashEndpaper) 2 + bit (b.live.origin == .builtin) 3 +
    bit b.live.isSealed 4 + bit (copyDegraded s) 5

/-- The outcomes with the *short since last* bits (R401). -/
def outcomesWord (s : State) : Nat :=
  let y := s.yard
  nth y.outcomes 0 + 8 * nth y.outcomes 1 + 64 * nth y.outcomes 2 + bit (y.shortSince.getD 0 false) 9 +
    bit (y.shortSince.getD 1 false) 10 + bit (y.shortSince.getD 2 false) 11

def unitsByte (s : State) : Nat :=
  refNum s.clocks.selected + bit s.clocks.vrefB 2 + bit (s.engine.serving == .b) 3 + bit (s.engine.standby == .present) 4 +
    bit (leadPort s == some .b) 5 +
    bit ((match s.engine.serving with | .a => s.engine.slotsA | .b => s.engine.slotsB).any fun k => k.onAlt) 6

def portsByte (s : State) : Nat :=
  bit (portIsLocked s.portA) 0 + bit (portIsLocked s.portB) 1 + (resetFields s).emits +
    bit s.cart.present 4 + bit s.cart.qualified 5 + bit s.pack.present 6

/-- The first sixty bytes of a record. -/
def recordBody (s : State) (frame : Bool) (events : List EventEntry) (page : Option Nat) : List Byte :=
  let ev := events.flatMap eventBytes
  let y := s.yard
  let r := resetFields s
  [0x42#8, 0x43#8] ++ leBytes 2 s.beacon.seq ++ [0xB1#8] ++ leBytes 1 (stateByte s frame) ++ leBytes 1 (toolCode s) ++
    leBytes 1 (sigFlags s) ++ leBytes 4 (if s.binding.live.origin == .builtin then 0 else s.binding.live.gen) ++
    leBytes 1 r.shown ++ leBytes 1 r.pending ++ leBytes 1 r.gather ++ leBytes 1 r.reason ++ word y.budget ++ leBytes 2 (outcomesWord s) ++
    leBytes 1 (y.term + bit y.trigOrder 2 + 8 * y.qWork) ++ leBytes 1 (unitsByte s) ++ y.fractions.flatMap word ++
    leBytes 1 (portsByte s) ++ leBytes 1 (page.getD 15 + 16 * (ev.length / 4)) ++
    leBytes 2 ((events.head?.map (·.number)).getD s.beacon.nextEvent) ++ ev ++ List.replicate (16 - ev.length) 0#8 ++
    page.elim (List.replicate 12 0#8) (pageData s)

/-- A record with its check value (R400). -/
def recordOf (s : State) (frame : Bool) : List Byte :=
  let b := recordBody s frame (takeEvents 4 s.beacon.queue).1 (nextPage s)
  b ++ leBytes 4 (crc32c b)

/-- The capture: the record starts to be sent, its events leave the queue, and the *short since last* bits start afresh from the
latest tick (R401). -/
def capture (frame : Bool) (s : State) : State :=
  { s with
    beacon := { s.beacon with sending := some (recordOf s frame), queue := (takeEvents 4 s.beacon.queue).2
                              seq := (s.beacon.seq + 1) % 65536, lastPage := (nextPage s).or s.beacon.lastPage, deferred := none }
    yard := { s.yard with shortSince := s.yard.outcomes.map fun o => o == 2 || o == 4 } }

/-! The line (00 R10). -/

/-- A byte on the line: a start bit, its bits from the least significant up, and a stop bit, with no parity. -/
def frameByte (b : Byte) : List Bool := false :: (List.range 8).map b.getLsbD ++ [true]

/-- The levels of `BEACON` over a record, bit by bit. -/
def recordLine (record : List Byte) : List Bool := record.flatMap frameByte

/-- What `BEACON` carries: the record under way, and a high level between records. -/
def beaconLine (s : State) : List Bool := s.beacon.sending.elim [true] recordLine

/-! Triggers (R399). -/

/-- Records are triggered by the lead port's frames, and otherwise by the timer. -/
def frameMode (s : State) : Bool := (leadPort s).isSome && !domainHeld s .sys

/-- A trigger is due. A frame trigger comes before its frame boundary; a raster's first frame boundary triggers. -/
def triggerDue (s : State) (frame : Bool) : Bool :=
  if frame then frameMode s && s.beacon.sinceFrame % fnat (live s) beaconFrameDiv == 0
  else !frameMode s && s.beacon.timerDue

/-- BEACON_RECORD_TRIGGER (R399): while a record is being sent, the trigger is deferred. -/
def execBeaconRecordTrigger (frame : Bool) (s : State) : Out :=
  let t := if frame then s else { s with beacon := { s.beacon with timerDue := false } }
  let u := if t.beacon.sending.isSome then { t with beacon := { t.beacon with deferred := some frame } } else capture frame t
  guarded (running s && (beaconBaud s).isSome && triggerDue s frame) s u

/-- BEACON_RECORD_SENT (R398, R399): the record and its idle time have ended; a deferred trigger captures now. -/
def execBeaconRecordSent (s : State) : Out :=
  let t := { s with beacon := { s.beacon with sending := none, lastRecord := s.beacon.sending.getD s.beacon.lastRecord } }
  guarded (running s && s.beacon.sending.isSome) s
    (match t.beacon.deferred with
     | some f => capture f t
     | none => t)

/-- FAULT_PULSE_END (R397). -/
def execFaultPulseEnd (s : State) : Out :=
  guarded (running s && s.beacon.pulse) s { s with beacon := { s.beacon with pulse := false } }

end Sys2Proof.Machine
end

