-- ==== Sys2Proof/Machine/Balls.lean ====
section
/-! DEFINITION. What the output balls show (02 R22 to R31, Tables 2-2 and 2-3): high-impedance without their supply, the held state of
the status ring, the reset state, and what the running part drives. -/

namespace Sys2Proof.Machine

open Sys2Proof

/-- The level of a ball. -/
inductive Level where
  | hiZ | low | high
deriving DecidableEq, Repr

def levelOf (b : Bool) : Level := if b then .high else .low

/-! The status ring (R30). -/

/-- How the status ring stands. -/
inductive Ring where
  /-- Without `VIN`, or with `VDDIO_H` below its detection threshold. -/
  | floating
  /-- The always-on domain holds it. -/
  | held
  /-- The core drives it. -/
  | driven
deriving DecidableEq, Repr

/-- The ring's state. The core drives it once `VDDIO_H` counts as valid, in reset too, where Table 2-3 gives `FAULT_N` high. DEDUCED: log
118. -/
def statusRing (s : State) : Ring :=
  if !s.supply.vin || !s.supply.ringHAbove then .floating else if s.supply.aonUp && s.supply.ringH then .driven else .held

/-- A status ball: its held level, and its driven one. -/
def statusBall (held : Level) (driven : Bool) (s : State) : Level :=
  match statusRing s with
  | .floating => .hiZ
  | .held => held
  | .driven => levelOf driven

def readyBall (s : State) : Level := statusBall .low (ready s) s
def faultBall (s : State) : Level := statusBall .hiZ (!faultLow s) s
def statBall (k : Nat) (s : State) : Level := statusBall .low ((stat s).testBit k) s

/-- `BEACON` at a bit of the record under way; high between records. -/
def beaconBall (at_ : Nat) (s : State) : Level := statusBall .high (((beaconLine s)[at_]?).getD true) s

/-- `TDO` is driven only while a test-port command shifts; between commands it floats. -/
def tdoBall (shifting bit : Bool) (s : State) : Level :=
  if s.supply.vin && s.supply.ringHAbove && shifting then levelOf bit else .hiZ

/-! The memory ring (R25, R26). -/

/-- `HOLD_ACK_N`: low in reset and while the bus is the host's. -/
def holdAckBall (s : State) : Level := if s.supply.vin && s.supply.ringM then levelOf (!s.mem.ackLow) else .hiZ

/-- The part drives the other memory-port balls. -/
def busDriven (s : State) : Bool := s.supply.vin && s.supply.ringM && running s && !s.mem.ackLow

/-! Rows, `ROWX` and the trims (R24, R40, 14 R343). -/

/-- `ROW0` to `ROW15` are open-drain: pulled low when on, and otherwise high-impedance, without `VIN` and in reset too. -/
def rowBall (r row tick : Nat) (s : State) : Level := if lampRuns s && rowOn s.lamp row tick r then .low else .hiZ

/-- `ROWX`, in a slot's tick. -/
def rowxBall (row tick : Nat) (s : State) : Level :=
  if !s.supply.vin then .hiZ else levelOf (lampRuns s && rowxHigh s.lamp.rows row tick)

/-- `LD_ADJ` and `LAMP_ADJ`: high-impedance without `VIN`; in reset their current is zero. -/
def trimBall (current : Int) (s : State) : Option Int :=
  if !s.supply.vin then none else if running s then some current else some 0

/-! Coils (Table 2-2, R23, 12 R279). -/

/-- A port's coil balls are both low: it coasts with its bridges closed, or EXTEST holds them in their reset state (R23). Without `VIN`
they are high-impedance. -/
def coilsShorted (s : State) (p : Port) : Bool :=
  s.supply.vin && (s.jtag.instr == .extest ||
    (((portOf s p).phase == .off || (portOf s p).phase == .coast) && (portOf s p).coilZ == 0))

end Sys2Proof.Machine
end

