-- ==== Sys2Proof/Machine/TestPort.lean ====
section
/-! DEFINITION. The test port (00 R8, 02 R23, 18 R421): its four instructions, the boundary cells in the order of Table 2-3, and
what EXTEST does to the balls. -/

namespace Sys2Proof.Machine

open Sys2Proof

/-- The port is powered: it belongs to the ring of `VDDIO_H`. -/
def testPortUp (s : State) : Bool := s.supply.vin && s.supply.ringH

/-- The classes of balls that the model tells apart, with the number of balls of each row of Table 2-3, the test port's own balls
left out: true for the classes LS, SK, RO and CL, whose cells are observe-only. -/
def cellRows : List (Nat × Bool) :=
  [(1, false), (1, false), (1, false), (1, false), (3, false), (1, false), (6, false), (3, false), (1, false), (1, false),
    (1, false), (3, false), (1, false), (6, false), (1, false), (1, false), (9, false), (1, false), (1, false), (1, false),
    (7, false), (1, false), (1, false), (1, false), (1, false), (1, false), (4, false), (2, false), (4, true), (4, true),
    (4, false), (4, false), (4, true), (2, false), (2, false), (2, false), (32, true), (16, true), (1, false), (1, false)]

/-- The cells: whether each is observe-only. -/
def observeOnly : List Bool := cellRows.flatMap fun r => List.replicate r.1 r.2

/-- The level of a driven ball. -/
def knownOf : Level → Option Bool
  | .hiZ => none
  | .low => some false
  | .high => some true

/-- The cells of the balls that the part drives or keeps the level of (by place in the list above). -/
def knownLevel (s : State) (n : Nat) : Option Bool :=
  if n = 1 then some (!s.pins.abortLow)
  else if n = 2 then some (!s.pins.killLow)
  else if n = 6 then some s.pins.trig
  else if n = 7 then some (!s.pins.manualLow)
  else if n = 14 then some s.pins.encA
  else if n = 15 then some s.pins.encB
  else if n = 18 then knownOf (readyBall s)
  else if n = 19 then knownOf (faultBall s)
  else if 20 ≤ n && n ≤ 22 then knownOf (statBall (22 - n) s)
  else if n = 23 && beaconIdle s then knownOf (beaconBall 0 s)
  else if n = 42 then some (!s.pins.holdLow)
  else if n = 43 then knownOf (holdAckBall s)
  else none

/-- What a cell captures: a level that the model keeps, or a free value. -/
def captureCell (s : State) (n : Nat) : Bool := (knownLevel s n).getD (Config.scanCapture s.free n)

/-- JTAG_BYPASS (R8). tdi is the bit shifted into the bypass register. -/
def execJtagBypass (tdi : Bool) (s : State) : Out :=
  guarded (testPortUp s) s { s with jtag := { s.jtag with instr := .bypass, bypass := tdi } }

/-- JTAG_IDCODE (R421). -/
def execJtagIdcode (s : State) : Out :=
  guarded (testPortUp s) s { s with jtag := { s.jtag with instr := .idcode, shift := 0x24032001#32 } }

/-- JTAG_SAMPLE_PRELOAD (R8): every cell is captured, and the cells shifted in are preloaded. -/
def execJtagSamplePreload (cells : List (Nat × Bool)) (s : State) : Out :=
  let n := observeOnly.length
  guarded (testPortUp s) s
    { s with
      jtag := { s.jtag with instr := .sample, captured := (List.range n).map fun k => (k, captureCell s k)
                            preloaded := cells.filter fun c => c.1 < n }
      free := s.free + 1 }

/-- The level that EXTEST drives on a ball: none on an observe-only cell (R23), and none without EXTEST. -/
def extestDrive (s : State) (n : Nat) : Option Bool :=
  if s.jtag.instr == .extest && !observeOnly.getD n true then (s.jtag.preloaded.find? fun c => c.1 == n).map (·.2) else none

/-- JTAG_EXTEST (R23): the laser sinks, lamp sinks, rows and coil drives stay in their reset state; no laser sink is enabled. -/
def execJtagExtest (s : State) : Out :=
  let t := closeGates (darkAllChannels { s with jtag := { s.jtag with instr := .extest } })
  guarded (testPortUp s) s { t with lamp := { t.lamp with dark := true } }

end Sys2Proof.Machine
end

