-- ==== Sys2Proof/Machine/Traffic.lean ====
section
/-! DEFINITION. The decisions of the bus matrix (09 R216 to R223, R226): the burst that is over, the levels sampled, which request a target
grants, a breach of a locked sequence, and what T7 answers to a request that no target takes. -/

namespace Sys2Proof.Machine

open Sys2Proof

/-! Error responses (R220). -/

/-- A codec lane whose M3 or M4 transaction has an error response: its job ends without publishing (R220, 08 R201), the leaf lane's as
a read that failed, the canvas lane's as a discard. DESIGN CHOICE of the two reasons: log 111. -/
def laneErrs (l : Lane) (s : State) : State :=
  match l with
  | .a =>
    match s.codec.running.filter (·.started) with
    | some j => jobBroken j s
    | none => s
  | .b => discardCanvas 0x8B s

/-- An M3 or M4 transaction has an error response: the binding reader's item fails, or the lane's job ends. -/
def codecErrs (r : MatrixReq) (s : State) : State := if r.reader then endRead none s else laneErrs r.lane s

/-- A lane of the control engine whose M6 transaction has an error response loses outright and is reset (R220, 13 R321, R323). -/
def loopErrs (l : Lane) (s : State) : State :=
  let d := match l with
    | .a => Domain.loopA
    | .b => Domain.loopB
  if domainHeld s d then s else resetDomain d s

/-- A decode error is reported with its master, the target addressed and the address (R220); the latest one stands. -/
def noteDecodeError (r : MatrixReq) (s : State) : State :=
  { s with matrix := { s.matrix with decodeError := some (r.master, targetOf r.addr, r.addr) } }

/-- What T7 answers (R220): M0 to M2 receive zeros, which are counted; the jobs of M3 to M5 end, a raw canvas frame as one whose job ends;
a lane of M6 loses; and M7 skips a step, so that nothing changes. -/
def defaultAnswer (r : MatrixReq) (s : State) : State :=
  let t := noteDecodeError r s
  let e := answerError r.master r.id t
  match r.master with
  | 0 | 1 | 2 =>
    answer r.master { id := r.id, error := false, data := List.replicate r.beats 0 }
      { t with matrix := { t.matrix with decodeErrors := modAt t.matrix.decodeErrors r.master satInc } }
  | 3 | 4 => codecErrs r e
  | 5 => discardFrame 0x8B e
  | 6 => loopErrs r.lane e
  | _ => e

/-! Granting (R216, R221 to R224). -/

/-- The levels of a decision: the buffers of Table 9-4 hold no more than their sizes, and M0 and M1 are raised or lowered. -/
def sampleLevels (l : MatrixLevels) (s : State) : State :=
  let k : MatrixLevels :=
    { scanA := min 512 l.scanA, scanB := min 512 l.scanB, lampFill := min 128 l.lampFill, canvasFill := min 32 l.canvasFill }
  { s with matrix :=
    { s.matrix with levels := k, raised0 := raisedNow (live s) s.matrix.raised0 k.scanA
                    raised1 := raisedNow (live s) s.matrix.raised1 k.scanB } }

/-- The request that a decision grants (R221): while a lock is held, only its holder's next burst. -/
def grantFor (target : Nat) (here : List MatrixReq) (s : State) : Option MatrixReq :=
  match lockAt s target with
  | some l => here.find? (ofLock l)
  | none => decide9 (live s) s.matrix.raised0 s.matrix.raised1 s.matrix.levels (arbiterAt s target).ptr here

/-- The target whose lock a request belongs to. -/
def heldTarget (s : State) (r : MatrixReq) : Option Nat :=
  (List.range 8).find? fun k => (lockAt s k).any fun l => ofLock l r

/-- A request at a target that breaks the rules of locked sequences (R223): a ninth beat, a beat of the sequence to another target, or a
lock request to T6 or T7. It answers the target of the sequence. -/
def breachAt (target : Nat) (s : State) (r : MatrixReq) : Option Nat :=
  if !r.lock || !(r.master == 6 || r.master == 7) then none
  else
    match heldTarget s r with
    | some k => if k != target || 8 < (((lockAt s k).map (·.beats)).getD 0) + r.beats then some k else none
    | none => if 6 ≤ target || 8 < r.beats then some target else none

/-- A breach ends the sequence; one that has not started is ended as it starts. -/
def endBreach (k : Nat) (r : MatrixReq) (s : State) : State :=
  lockBreach k ((lockAt s k).getD { master := r.master, lane := r.lane, id := r.id, beats := 0, journal := [] }) s

/-- A read of M0 to M2 that meets an uncorrectable word: it is delivered as zeros and counted (R220). Whoever reads it, Table 4-5 and Table
16-1 say what becomes of the word. -/
def meetBad (r : MatrixReq) (s : State) : State :=
  match r.bad with
  | none => s
  | some a =>
    let t := if r.master < 3 then
        { s with matrix := { s.matrix with eccZeros := modAt s.matrix.eccZeros r.master satInc } }
      else s
    uncorrectable a t

/-- The beats of a granted read: zeros for the uncorrectable word, the flash's data at T6, and otherwise the target's contents. -/
def readData (target : Nat) (r : MatrixReq) (s : State) : List Nat :=
  if target = 6 then (List.range r.beats).map fun k => r.payload.getD k 0
  else
    (readBeats s (((lockAt s target).map (·.journal)).getD []) r).zipIdx.map fun e =>
      match r.bad with
      | some a => if a / 16 = r.addr / 16 + e.2 then zeroHalf (a / 8 % 2) e.1 else e.1
      | none => e.1
where
  /-- A beat with one of its two words read as zeros. -/
  zeroHalf (k v : Nat) : Nat := if k = 0 then v / 2 ^ 64 * 2 ^ 64 else v % 2 ^ 64

/-- The flash offset of an address of T6 (Table 9-3). -/
def flashOffset (a : Nat) : Nat := a - 0x10000000

/-- A granted read of T6 reaches the memory port, whose commands cover it; the read of an item has issued its commands when it started. -/
def reachFlash (target : Nat) (r : MatrixReq) (s : State) : State :=
  if target = 6 && !readUnderWay s && busFree s then issueReads [(flashOffset r.addr, 16 * r.beats)] s else s

/-- A grant (R221): the pointer moves to the master, a lock starts or goes on (R223), and the burst holds the path. T7 answers at once. -/
def grant (target : Nat) (r : MatrixReq) (s : State) : State :=
  let b : Burst := { request := r, data := if r.write then [] else readData target r s }
  let t := updArbiter target (fun a =>
    { ptr := r.master, lock := if target < 6 then lockWith a.lock r else none, burst := if target < 7 then some b else none }) s
  let u := { t with matrix := { t.matrix with granted := some (r.master, target, r.addr) } }
  if target = 7 then defaultAnswer r u else reachFlash target r (if r.write then u else meetBad r u)

/-- What a decision does with the request that is its turn: one in breach gets an error response, and one at T7 its answer as well. -/
def decideFor (target : Nat) (here : List MatrixReq) (s : State) : State :=
  match here.find? fun r => (breachAt target s r).isSome with
  | some r =>
    let t := endBreach ((breachAt target s r).getD target) r s
    if target = 7 then grant target r t else answerError r.master r.id t
  | none =>
    match grantFor target here s with
    | none => s
    | some r => grant target r s

/-- ARBITER_DECISION (R216 to R223): the burst that held the path is over, the urgencies are sampled, and the most urgent request is
granted. While the host holds the bus, a burst at T6 stays granted (R228). -/
def execArbiterDecision (target : Nat) (levels : MatrixLevels) (reqs : List MatrixReq) (s : State) : Out :=
  let t := sampleLevels levels (completeBurst target s)
  guarded (sysRuns s && target < 8 && !(target == 6 && s.mem.ackLow)) s
    (decideFor target (eligible t target (outstanding t reqs)) t)

end Sys2Proof.Machine
end

