-- ==== Sys2Proof/Machine/Dispatch.lean ====
section
/-! DEFINITION. The dispatch of a command to its meaning. -/

namespace Sys2Proof.Machine

open Sys2Proof

/-- A command's effect on everything but the queue of waiting commands. -/
def exec (i : Instr) (s : State) : Host.Outcome State Fault Refusal :=
  match i with
  | .vinValid => Sys2Proof.Machine.execVinValid s
  | .aonUp => Sys2Proof.Machine.execAonUp s
  | .vinInvalid => Sys2Proof.Machine.execVinInvalid s
  | .vddioHValid level33 => Sys2Proof.Machine.execVddioHValid level33 s
  | .vddioHInvalid => Sys2Proof.Machine.execVddioHInvalid s
  | .vddioMValid level33 => Sys2Proof.Machine.execVddioMValid level33 s
  | .vddioMInvalid => Sys2Proof.Machine.execVddioMInvalid s
  | .memSupplyTimeout => Sys2Proof.Machine.execMemSupplyTimeout s
  | .vmirLow => Sys2Proof.Machine.execVmirLow s
  | .vmirRestored => Sys2Proof.Machine.execVmirRestored s
  | .rstNAssert lowNs => Sys2Proof.Machine.execRstNAssert lowNs s
  | .coreRelease pins => Sys2Proof.Machine.execCoreRelease pins s
  | .pllLocked crystalHz refinHz => Sys2Proof.Machine.execPllLocked crystalHz refinHz s
  | .keeperRestart => Sys2Proof.Machine.execKeeperRestart s
  | .codePass r => Sys2Proof.Machine.execCodePass r s
  | .codeChanged ball => Sys2Proof.Machine.execCodeChanged ball s
  | .codeSafeChange => Sys2Proof.Machine.execCodeSafeChange s
  | .packPresent => Sys2Proof.Machine.execPackPresent s
  | .packRemoved => Sys2Proof.Machine.execPackRemoved s
  | .packRetryExpired => Sys2Proof.Machine.execPackRetryExpired s
  | .packTFault => Sys2Proof.Machine.execPackTFault s
  | .scheme3Frame idleUs segs => Sys2Proof.Machine.execScheme3Frame idleUs segs s
  | .packS3WaitExpired => Sys2Proof.Machine.execPackS3WaitExpired s
  | .packSilent => Sys2Proof.Machine.execPackSilent s
  | .cartRemoved byDet => Sys2Proof.Machine.execCartRemoved byDet s
  | .cartPresenceNoted => Sys2Proof.Machine.execCartPresenceNoted s
  | .cartRetryExpired => Sys2Proof.Machine.execCartRetryExpired s
  | .pdCrossCheck p r => Sys2Proof.Machine.execPdCrossCheck p r s
  | .keeperHeartbeatSample beats cvsToggling => Sys2Proof.Machine.execKeeperHeartbeatSample beats cvsToggling s
  | .domainRestart d => Sys2Proof.Machine.execDomainRestart d s
  | .pllLockLost d => Sys2Proof.Machine.execPllLockLost d s
  | .driftWindowEnd refs ring aon => Sys2Proof.Machine.execDriftWindowEnd refs ring aon s
  | .refLost => Sys2Proof.Machine.execRefLost s
  | .refReturn => Sys2Proof.Machine.execRefReturn s
  | .vrefCheck other bandgap safeRef => Sys2Proof.Machine.execVrefCheck other bandgap safeRef s
  | .flashResetEnd => Sys2Proof.Machine.execFlashResetEnd s
  | .bindingReadStart => Sys2Proof.Machine.execBindingReadStart s
  | .memReadDone r => Sys2Proof.Machine.execMemReadDone r s
  | .dqsTimeout => Sys2Proof.Machine.execDqsTimeout s
  | .holdRequest e => Sys2Proof.Machine.execHoldRequest e s
  | .holdRelease => Sys2Proof.Machine.execHoldRelease s
  | .statusPoll wip => Sys2Proof.Machine.execStatusPoll wip s
  | .memBusy => Sys2Proof.Machine.execMemBusy s
  | .holdLong => Sys2Proof.Machine.execHoldLong s
  | .lampOnlyServiceStart => Sys2Proof.Machine.execLampOnlyServiceStart s
  | .gatheringOpen lowNs => Sys2Proof.Machine.execGatheringOpen lowNs s
  | .gatheringCancel highNs => Sys2Proof.Machine.execGatheringCancel highNs s
  | .gatheringTimeout => Sys2Proof.Machine.execGatheringTimeout s
  | .stitchRequest highNs => Sys2Proof.Machine.execStitchRequest highNs s
  | .stitchValidated => Sys2Proof.Machine.execStitchValidated s
  | .stitchDecodeDone => Sys2Proof.Machine.execStitchDecodeDone s
  | .decodeLimitExpired => Sys2Proof.Machine.execDecodeLimitExpired s
  | .sItemConverged e => Sys2Proof.Machine.execSItemConverged e s
  | .bridgeLimitExpired => Sys2Proof.Machine.execBridgeLimitExpired s
  | .restoreRetry => Sys2Proof.Machine.execRestoreRetry s
  | .abort e => Sys2Proof.Machine.execAbort e s
  | .abortComplete => Sys2Proof.Machine.execAbortComplete s
  | .abortRelease => Sys2Proof.Machine.execAbortRelease s
  | .leafJobStart header => Sys2Proof.Machine.execLeafJobStart header s
  | .leafJobEnd data trailer readOk => Sys2Proof.Machine.execLeafJobEnd data trailer readOk s
  | .calibrationLoadDone block trailer readOk => Sys2Proof.Machine.execCalibrationLoadDone block trailer readOk s
  | .canvasJobEnd => Sys2Proof.Machine.execCanvasJobEnd s
  | .penFreed pen => Sys2Proof.Machine.execPenFreed pen s
  | .arbiterDecision target levels reqs => Sys2Proof.Machine.execArbiterDecision target levels reqs s
  | .lockUnlock target => Sys2Proof.Machine.execLockUnlock target s
  | .lockError target breach master lane => Sys2Proof.Machine.execLockError target breach master lane s
  | .patternSelect psel highNs => Sys2Proof.Machine.execPatternSelect psel highNs s
  | .latchPoint p => Sys2Proof.Machine.execLatchPoint p s
  | .frameBoundary p => Sys2Proof.Machine.execFrameBoundary p s
  | .renderLine p lag moves missing => Sys2Proof.Machine.execRenderLine p lag moves missing s
  | .composeStaleLine p => Sys2Proof.Machine.execComposeStaleLine p s
  | .wheelLate p => Sys2Proof.Machine.execWheelLate p s
  | .ringCleared p => Sys2Proof.Machine.execRingCleared p s
  | .timelineValid p => Sys2Proof.Machine.execTimelineValid p s
  | .dllLockLost channel => Sys2Proof.Machine.execDllLockLost channel s
  | .canvasFrame periods => Sys2Proof.Machine.execCanvasFrame periods s
  | .canvasFrameStalled periods => Sys2Proof.Machine.execCanvasFrameStalled periods s
  | .liveStale p => Sys2Proof.Machine.execLiveStale p s
  | .mirrorStart p => Sys2Proof.Machine.execMirrorStart p s
  | .mirrorCheckDone p commonMv => Sys2Proof.Machine.execMirrorCheckDone p commonMv s
  | .kickEnd p => Sys2Proof.Machine.execKickEnd p s
  | .ringDone p milliHz amp => Sys2Proof.Machine.execRingDone p milliHz amp s
  | .portLocked e => Sys2Proof.Machine.execPortLocked e s
  | .mirrorStartTimeout p => Sys2Proof.Machine.execMirrorStartTimeout p s
  | .mirrorFault p f => Sys2Proof.Machine.execMirrorFault p f s
  | .portRestart p => Sys2Proof.Machine.execPortRestart p s
  | .scheduleFrame inputs => Sys2Proof.Machine.execScheduleFrame inputs s
  | .manualChange low => Sys2Proof.Machine.execManualChange low s
  | .encoderEdge a b => Sys2Proof.Machine.execEncoderEdge a b s
  | .encZIndex => Sys2Proof.Machine.execEncZIndex s
  | .brightEdge rising ticks => Sys2Proof.Machine.execBrightEdge rising ticks s
  | .brightAnalogueTimeout => Sys2Proof.Machine.execBrightAnalogueTimeout s
  | .pdWindowEnd samples runs => Sys2Proof.Machine.execPdWindowEnd samples runs s
  | .pdMeasurementAged channel => Sys2Proof.Machine.execPdMeasurementAged channel s
  | .rowFrameStart codesReady => Sys2Proof.Machine.execRowFrameStart codesReady s
  | .probeSlotEnd row vlampMv sinkMv track => Sys2Proof.Machine.execProbeSlotEnd row vlampMv sinkMv track s
  | .sinkHot sink => Sys2Proof.Machine.execSinkHot sink s
  | .yardTick trig => Sys2Proof.Machine.execYardTick trig s
  | .killAssert => Sys2Proof.Machine.execKillAssert s
  | .killRelease heldMs => Sys2Proof.Machine.execKillRelease heldMs s
  | .safetyTrip cause e => Sys2Proof.Machine.execSafetyTrip cause e s
  | .scrubTick r => Sys2Proof.Machine.execScrubTick r s
  | .scrubWithdrawn => Sys2Proof.Machine.execScrubWithdrawn s
  | .beaconRecordTrigger frame => Sys2Proof.Machine.execBeaconRecordTrigger frame s
  | .beaconRecordSent => Sys2Proof.Machine.execBeaconRecordSent s
  | .faultPulseEnd => Sys2Proof.Machine.execFaultPulseEnd s
  | .jtagBypass tdi => Sys2Proof.Machine.execJtagBypass tdi s
  | .jtagIdcode => Sys2Proof.Machine.execJtagIdcode s
  | .jtagSamplePreload cells => Sys2Proof.Machine.execJtagSamplePreload cells s
  | .jtagExtest => Sys2Proof.Machine.execJtagExtest s
  | .stallFetch p e => Sys2Proof.Machine.execStallFetch p e s
  | .vddioHThresholdCrossed above => Sys2Proof.Machine.execVddioHThresholdCrossed above s

end Sys2Proof.Machine
end

