-- ==== Sys2Proof/Machine/Instant.lean ====
section
/-! DEFINITION. Events of one instant (00 R425): supply validity and resets come first, the laser safety path's extinction next, and
clocked work last, in the order in which it is seen. -/

namespace Sys2Proof.Machine

open Sys2Proof

/-- The place of a command among those of its instant. DEDUCED: log 119. -/
def instantRank : Instr → Nat
  | .vinValid => 0
  | .vinInvalid => 0
  | .vddioHValid _ => 0
  | .vddioHInvalid => 0
  | .vddioHThresholdCrossed _ => 0
  | .vddioMValid _ => 0
  | .vddioMInvalid => 0
  | .vmirLow => 0
  | .vmirRestored => 0
  | .rstNAssert _ => 0
  | .keeperRestart => 0
  | .keeperHeartbeatSample _ _ => 0
  | .pllLockLost _ => 0
  | .killAssert => 1
  | .safetyTrip _ _ => 1
  | .codeSafeChange => 1
  | .cartRemoved _ => 1
  | _ => 2

/-- The commands of a rank, as they were seen. -/
def ofRank (k : Nat) (l : List Instr) : List Instr := l.filter fun c => instantRank c == k

/-- The order in which the commands of one instant act. -/
def orderInstant (l : List Instr) : List Instr := ofRank 0 l ++ ofRank 1 l ++ ofRank 2 l

/-- The commands of one instant join the queue behind those of earlier instants. -/
def State.submit (l : List Instr) (s : State) : State := { s with pending := s.pending ++ orderInstant l }

end Sys2Proof.Machine
end

