-- ==== Sys2Proof/Safety.lean ====
section
/-! DEFINITION. The terms in which claims about the part are made: a safe run, the parts of the state and what a command leaves
alone, the bounds of the event queue (17 R402), the frame store's blocks (09 R208), and darkness (02 R39, 16 R389). -/

namespace Sys2Proof

open Machine

/-! Safe runs. -/

/-- A step that answers a next state. -/
def StepSafe (s : State) : Prop := ∃ t, step s = .next t

/-- The first n steps from a state all answer a next state. -/
def RunSafe : Nat → State → Prop
  | 0, _ => True
  | n + 1, s => ∃ t, step s = .next t ∧ RunSafe n t

/-! Frames. -/

/-- The parts of the state, one for each field of `State`. -/
inductive Part where
  | fuses | supply | pins | aon | pack | safety | jtag | core | cart | keeper | clocks | mem | binding | gather | codec | pens
  | matrix | select | canvas | portA | portB | engine | bright | emit | lamp | yard | integrity | beacon | free | pending
deriving DecidableEq, Repr

/-- A part is the same in two states. -/
def Part.same : Part → State → State → Prop
  | .fuses, s, t => t.fuses = s.fuses
  | .supply, s, t => t.supply = s.supply
  | .pins, s, t => t.pins = s.pins
  | .aon, s, t => t.aon = s.aon
  | .pack, s, t => t.pack = s.pack
  | .safety, s, t => t.safety = s.safety
  | .jtag, s, t => t.jtag = s.jtag
  | .core, s, t => t.core = s.core
  | .cart, s, t => t.cart = s.cart
  | .keeper, s, t => t.keeper = s.keeper
  | .clocks, s, t => t.clocks = s.clocks
  | .mem, s, t => t.mem = s.mem
  | .binding, s, t => t.binding = s.binding
  | .gather, s, t => t.gather = s.gather
  | .codec, s, t => t.codec = s.codec
  | .pens, s, t => t.pens = s.pens
  | .matrix, s, t => t.matrix = s.matrix
  | .select, s, t => t.select = s.select
  | .canvas, s, t => t.canvas = s.canvas
  | .portA, s, t => t.portA = s.portA
  | .portB, s, t => t.portB = s.portB
  | .engine, s, t => t.engine = s.engine
  | .bright, s, t => t.bright = s.bright
  | .emit, s, t => t.emit = s.emit
  | .lamp, s, t => t.lamp = s.lamp
  | .yard, s, t => t.yard = s.yard
  | .integrity, s, t => t.integrity = s.integrity
  | .beacon, s, t => t.beacon = s.beacon
  | .free, s, t => t.free = s.free
  | .pending, s, t => t.pending = s.pending

/-- Every part outside the list is the same in both states. -/
def ChangesOnly (l : List Part) (s t : State) : Prop := ∀ p, p ∉ l → p.same s t

/-- The part of the state that holds a port. -/
def portPart : Port → Part
  | .a => .portA
  | .b => .portB

/-! What each command may change. -/

/-- The parts of the state that a command may change. Whatever it leaves out, the command leaves as it is. -/
def touches : Instr → List Part
  | .vinValid | .aonUp => [.supply]
  | .vinInvalid =>
    [.supply, .pins, .aon, .pack, .safety, .jtag, .core, .cart, .keeper, .clocks, .mem, .binding, .gather, .codec, .pens,
     .matrix, .select, .canvas, .portA, .portB, .engine, .bright, .emit, .lamp, .yard, .integrity, .beacon, .free]
  | .vddioHValid _ => [.supply]
  | .vddioHInvalid =>
    [.supply, .aon, .safety, .core, .cart, .keeper, .clocks, .mem, .binding, .gather, .codec, .pens, .matrix, .select,
     .canvas, .portA, .portB, .engine, .bright, .emit, .lamp, .yard, .integrity, .beacon, .free]
  | .vddioMValid _ | .vddioMInvalid =>
    [.supply, .pack, .core, .cart, .keeper, .clocks, .mem, .binding, .gather, .codec, .pens, .select, .portA, .portB, .engine,
     .emit, .beacon]
  | .memSupplyTimeout => [.pack, .core, .cart, .keeper, .clocks, .mem, .binding, .codec, .pens, .portA, .portB, .emit, .beacon]
  | .vmirLow => [.supply, .cart, .pens, .portA, .portB, .emit, .beacon]
  | .vmirRestored => [.supply]
  | .rstNAssert _ =>
    [.aon, .safety, .core, .cart, .keeper, .clocks, .mem, .binding, .gather, .codec, .pens, .matrix, .select, .canvas, .portA,
     .portB, .engine, .bright, .emit, .lamp, .yard, .integrity, .beacon, .free]
  | .coreRelease _ => [.pins, .aon, .pack, .core, .cart, .keeper, .mem, .pens, .beacon]
  | .pllLocked _ _ => [.core, .clocks, .beacon]
  | .keeperRestart =>
    [.aon, .safety, .core, .cart, .keeper, .clocks, .mem, .binding, .gather, .codec, .pens, .matrix, .select, .canvas, .portA,
     .portB, .engine, .bright, .emit, .lamp, .yard, .integrity, .beacon, .free]
  | .codePass _ => [.aon, .pack, .safety, .cart, .codec, .pens, .portA, .portB, .emit, .beacon]
  | .codeChanged _ => [.aon, .beacon]
  | .codeSafeChange => [.safety, .portA, .portB, .emit, .beacon]
  | .packPresent => [.aon, .pack, .beacon]
  | .packRemoved => [.aon, .pack, .cart, .keeper, .beacon]
  | .packRetryExpired | .packTFault => [.aon, .pack, .beacon]
  | .scheme3Frame _ _ => [.pack, .beacon]
  | .packS3WaitExpired => [.pack]
  | .packSilent => [.aon, .pack, .beacon]
  | .cartRemoved _ => [.cart, .keeper, .codec, .pens, .portA, .portB, .emit, .beacon]
  | .cartPresenceNoted | .cartRetryExpired => [.cart]
  | .pdCrossCheck _ _ => [.cart, .codec, .pens, .portA, .portB, .emit, .beacon]
  | .keeperHeartbeatSample _ _ =>
    [.pack, .core, .cart, .keeper, .clocks, .mem, .binding, .gather, .codec, .pens, .matrix, .select, .canvas, .portA, .portB,
     .engine, .emit, .lamp, .beacon]
  | .domainRestart _ => [.cart, .keeper, .mem, .gather, .codec, .pens, .portA, .portB, .engine, .emit, .beacon]
  | .pllLockLost _ =>
    [.pack, .core, .cart, .keeper, .clocks, .mem, .binding, .gather, .codec, .pens, .matrix, .select, .canvas, .portA, .portB,
     .engine, .emit, .lamp, .beacon]
  | .driftWindowEnd _ _ _ | .refLost | .refReturn => [.keeper, .clocks, .beacon]
  | .vrefCheck _ _ _ => [.safety, .clocks, .portA, .portB, .emit, .beacon]
  | .flashResetEnd => [.mem]
  | .bindingReadStart => [.mem, .binding]
  | .memReadDone _ | .dqsTimeout =>
    [.pack, .core, .cart, .keeper, .clocks, .mem, .binding, .gather, .codec, .pens, .select, .portA, .portB, .engine, .emit,
     .beacon]
  | .holdRequest _ => [.pins, .mem, .free]
  | .holdRelease => [.pins, .mem]
  | .statusPoll _ => [.mem]
  | .memBusy | .holdLong => [.mem, .beacon]
  | .lampOnlyServiceStart => [.core, .codec, .pens, .select, .lamp]
  | .gatheringOpen _ => [.binding, .gather, .beacon, .free]
  | .gatheringCancel _ => [.mem, .binding, .gather, .codec, .pens, .select, .beacon, .free]
  | .gatheringTimeout => [.mem, .binding, .gather, .codec, .pens, .select, .beacon]
  | .stitchRequest _ => [.mem, .binding, .gather, .beacon, .free]
  | .stitchValidated => [.mem, .binding, .gather, .codec, .pens, .select, .beacon]
  | .stitchDecodeDone => [.gather, .portA, .portB, .engine, .beacon]
  | .decodeLimitExpired => [.mem, .binding, .gather, .codec, .pens, .select, .portA, .portB, .engine, .beacon]
  | .sItemConverged _ => [.mem, .binding, .gather, .codec, .pens, .select, .portA, .portB, .beacon]
  | .bridgeLimitExpired => [.mem, .binding, .gather, .codec, .pens, .select, .portA, .portB, .engine, .beacon]
  | .restoreRetry => [.mem, .binding, .gather, .codec, .pens, .select, .portA, .portB, .beacon]
  | .abort _ =>
    [.pins, .cart, .keeper, .mem, .binding, .gather, .codec, .pens, .matrix, .select, .canvas, .portA, .portB, .engine, .emit,
     .beacon, .free]
  | .abortComplete => [.gather]
  | .abortRelease => [.pins, .aon, .pack, .cart, .mem, .binding, .gather, .codec, .pens, .select, .portA, .portB, .beacon]
  | .leafJobStart _ => [.cart, .mem, .binding, .gather, .codec, .pens, .select, .portA, .portB, .engine, .emit, .beacon]
  | .leafJobEnd _ _ _ | .calibrationLoadDone _ _ _ =>
    [.cart, .keeper, .mem, .binding, .gather, .codec, .pens, .select, .portA, .portB, .engine, .emit, .beacon]
  | .canvasJobEnd => [.codec, .pens, .canvas, .portA, .portB, .beacon]
  | .penFreed _ => [.pens]
  | .arbiterDecision _ _ _ =>
    [.pack, .core, .cart, .keeper, .clocks, .mem, .binding, .gather, .codec, .pens, .matrix, .select, .canvas, .portA, .portB,
     .engine, .emit, .lamp, .beacon]
  | .lockUnlock _ => [.pens, .matrix]
  | .lockError _ _ _ _ => [.matrix, .beacon]
  | .patternSelect _ _ => [.mem, .binding, .gather, .codec, .pens, .select, .portA, .portB, .beacon, .free]
  | .latchPoint _ => [.gather, .codec, .pens, .select, .portA, .portB, .emit]
  | .frameBoundary _ =>
    [.aon, .pack, .cart, .keeper, .clocks, .mem, .binding, .gather, .codec, .pens, .matrix, .select, .canvas, .portA, .portB,
     .engine, .emit, .lamp, .beacon]
  | .renderLine _ _ _ _ => [.matrix, .portA, .portB]
  | .composeStaleLine _ =>
    [.pack, .core, .cart, .keeper, .clocks, .mem, .binding, .gather, .codec, .pens, .matrix, .select, .canvas, .portA, .portB,
     .engine, .emit, .lamp, .beacon]
  | .wheelLate _ => [.portA, .portB, .emit, .beacon]
  | .ringCleared _ => [.cart, .gather, .codec, .pens, .select, .portA, .portB, .emit, .beacon]
  | .timelineValid _ => [.portA, .portB]
  | .dllLockLost _ => [.emit, .beacon]
  | .canvasFrame _ | .canvasFrameStalled _ => [.codec, .pens, .canvas, .portA, .portB, .beacon]
  | .liveStale _ => [.portA, .portB, .beacon]
  | .mirrorStart _ | .mirrorCheckDone _ _ => [.cart, .codec, .pens, .portA, .portB, .emit, .beacon]
  | .kickEnd _ => [.portA, .portB]
  | .ringDone _ _ _ => [.cart, .codec, .pens, .portA, .portB, .emit, .beacon]
  | .portLocked _ => [.cart, .gather, .codec, .pens, .select, .portA, .portB, .emit, .beacon]
  | .mirrorStartTimeout _ | .mirrorFault _ _ | .portRestart _ => [.cart, .codec, .pens, .portA, .portB, .emit, .beacon]
  | .scheduleFrame _ =>
    [.pack, .core, .cart, .keeper, .clocks, .mem, .binding, .gather, .codec, .pens, .matrix, .select, .canvas, .portA, .portB,
     .engine, .emit, .lamp, .beacon]
  | .manualChange _ => [.pins]
  | .encoderEdge _ _ => [.pins, .engine]
  | .encZIndex => [.engine]
  | .brightEdge _ _ | .brightAnalogueTimeout => [.bright]
  | .pdWindowEnd _ _ => [.safety, .portA, .portB, .emit, .beacon, .free]
  | .pdMeasurementAged _ => [.emit]
  | .rowFrameStart _ =>
    [.aon, .pack, .cart, .keeper, .clocks, .mem, .binding, .gather, .codec, .pens, .matrix, .select, .canvas, .portA, .portB,
     .engine, .emit, .lamp, .beacon]
  | .probeSlotEnd _ _ _ _ | .sinkHot _ => [.lamp, .beacon]
  | .yardTick _ =>
    [.pins, .aon, .pack, .safety, .cart, .keeper, .clocks, .mem, .binding, .gather, .codec, .pens, .matrix, .select, .canvas,
     .portA, .portB, .engine, .emit, .lamp, .yard, .beacon]
  | .killAssert => [.pins, .safety, .portA, .portB, .emit, .lamp, .beacon]
  | .killRelease _ => [.pins, .safety, .portA, .portB, .beacon]
  | .safetyTrip _ _ => [.safety, .portA, .portB, .emit, .beacon]
  | .scrubTick _ =>
    [.core, .cart, .keeper, .mem, .binding, .gather, .codec, .pens, .matrix, .select, .canvas, .portA, .portB, .engine, .emit,
     .lamp, .integrity, .beacon]
  | .scrubWithdrawn => [.matrix, .integrity]
  | .beaconRecordTrigger _ | .beaconRecordSent => [.yard, .beacon]
  | .faultPulseEnd => [.beacon]
  | .jtagBypass _ | .jtagIdcode => [.jtag]
  | .jtagSamplePreload _ => [.jtag, .free]
  | .jtagExtest => [.jtag, .portA, .portB, .emit, .lamp]
  | .stallFetch _ _ => [.portA, .portB, .emit, .beacon]
  | .vddioHThresholdCrossed _ => [.supply]

/-! The event queue (17 R402). -/

/-- The queue's entries fill at most its 32 places, no two of them have equal code and subject, and the next event number has
16 bits. -/
def QueueOk (b : Beacon) : Prop :=
  queuePlaces b.queue ≤ 32 ∧ b.queue.Pairwise (fun x y => ¬(x.code = y.code ∧ x.subject = y.subject)) ∧
    b.nextEvent < 65536

/-- An event has been reported: its entry is in the queue, or the queue has no more than one free place, so that it may only have
been numbered. -/
def Reported (code subject : Nat) (t : State) : Prop :=
  (∃ e ∈ t.beacon.queue, e.code = code ∧ e.subject = subject) ∨ 31 ≤ queuePlaces t.beacon.queue

/-! The frame store (09 R208). -/

/-- Every block in use is one of the 128, and no block is used twice, by two pens or by a pen and the live reserve. -/
def BlocksOk (q : Pens) : Prop := (usedBlocks q).Nodup ∧ ∀ b ∈ usedBlocks q, b < 128

/-! Darkness (02 R23, R39, 11 R268, 16 R389). -/

/-- Something forbids guide light whatever else holds: the core's reset, a trip, `KILL_N` low, or EXTEST. -/
def Forbidden (s : State) : Prop :=
  s.core.inReset = true ∨ s.safety.causes ≠ [] ∨ s.pins.killLow = true ∨ s.jtag.instr = .extest

/-- Both gates are closed, and every laser channel is at level 0 with sink code 0. -/
def Dark (s : State) : Prop :=
  s.portA.wheel.gate = false ∧ s.portB.wheel.gate = false ∧ ∀ l ∈ s.emit.lasers, l.level = 0 ∧ l.code = 0

/-- No guide light where it is forbidden. -/
def DarkSafe (s : State) : Prop := Forbidden s → Dark s

end Sys2Proof
end

