-- ==== Sys2Proof/Certificates/Slice0/Obligations.lean ====
section
/-! DEFINITION. The statements about the model, each a proposition. -/

open Sys2Proof Machine

/-! The block as a whole. -/

/-- A step runs the command at the front of the queue on the state with the queue's rest. With no command waiting the block idles,
which is the model's choice (log 12). -/
def Obligations.StepTakesTheFrontCommand : Prop :=
  (∀ (c : Instr) (rest : List Instr) (s : State), s.pending = c :: rest → step s = exec c { s with pending := rest }) ∧
    ∀ s : State, s.pending = [] → step s = .next s

/-- No run ever stops: every number of steps from every state answers next states. -/
def Obligations.EveryRunIsSafe : Prop := ∀ (n : Nat) (s : State), RunSafe n s

/-- What a command may change is what `touches` lists; in particular no command changes the fuses or the queue of commands. -/
def Obligations.EveryCommandKeepsTheOtherParts : Prop :=
  (∀ (c : Instr) (s t : State), exec c s = .next t → ChangesOnly (touches c) s t) ∧
    ∀ (c : Instr) (s t : State), exec c s = .next t → t.fuses = s.fuses ∧ t.pending = s.pending

/-- 17 R402: the event queue keeps its bounds, from every state that has them. -/
def Obligations.EveryStepKeepsTheEventQueue : Prop :=
  ∀ s t : State, QueueOk s.beacon → step s = .next t → QueueOk t.beacon

/-- 09 R208, R213: no block of the frame store is ever used twice, from every state in which none is; and the memory below the pens
keeps its canonical form, which is the model's (log 114). -/
def Obligations.EveryStepKeepsTheBlocksDistinct : Prop :=
  (∀ s t : State, BlocksOk s.pens → step s = .next t → BlocksOk t.pens) ∧
    ∀ s t : State, memoryWf s.matrix = true → step s = .next t → memoryWf t.matrix = true

/-- 02 R23, R29, R39, 11 R268, 16 R389: the core's reset, a trip, `KILL_N` low and EXTEST each keep both gates closed and every
laser channel off. -/
def Obligations.EveryStepKeepsForbiddenLightOff : Prop :=
  ∀ s t : State, DarkSafe s → step s = .next t → DarkSafe t

/-- The reset state meets the four invariants; in it the core is held and no light can be on, and without its supplies the part's balls are
high-impedance (02 R22, R24, R26). Once `VIN` is valid and `VDDIO_H` is above its threshold the always-on domain holds the status balls:
`READY` and `STAT` low, `FAULT_N` high-impedance, `BEACON` high (R30). -/
def Obligations.ResetMeetsTheInvariants : Prop :=
  QueueOk State.reset.beacon ∧ BlocksOk State.reset.pens ∧ DarkSafe State.reset ∧ Dark State.reset ∧
    memoryWf State.reset.matrix = true ∧ State.reset.core.inReset = true ∧ State.reset.lamp.dark = true ∧
    stat State.reset = 0 ∧ ready State.reset = false ∧ faultLow State.reset = false ∧ State.reset.mem.ackLow = true ∧
    (∀ p, coilsShorted State.reset p = false) ∧ readyBall State.reset = .hiZ ∧ faultBall State.reset = .hiZ ∧
    holdAckBall State.reset = .hiZ ∧ busDriven State.reset = false ∧ (∀ k, statBall k State.reset = .hiZ) ∧
    (∀ n, beaconBall n State.reset = .hiZ) ∧
    ∀ s : State, s.supply.vin = true → s.supply.ringHAbove = true → s.supply.ringH = false →
      readyBall s = .low ∧ faultBall s = .hiZ ∧ (∀ k, statBall k s = .low) ∧ ∀ n, beaconBall n s = .high

/-- 16 R390: a cause once latched stays latched through every command but a kill release and the loss of `VIN`. -/
def Obligations.TripLatchHoldsUntilReleased : Prop :=
  ∀ (c : Instr) (s t : State), exec c s = .next t → (∀ n, c ≠ .killRelease n) → c ≠ .vinInvalid →
    ∀ k ∈ s.safety.causes, k ∈ t.safety.causes

/-- 04 R70: nothing but CORE_RELEASE takes the core out of reset. -/
def Obligations.OnlyACoreReleaseEndsTheReset : Prop :=
  ∀ (c : Instr) (s t : State), s.core.inReset = true → exec c s = .next t → t.core.inReset = false → ∃ r, c = .coreRelease r

/-! Supplies and resets (02, 18). -/

/-- 02 R27 to R32, 03 R43, 18 R410: a supply becomes valid, and nothing else happens; the loss of `VIN` leaves the fuses and the
rails outside the part. -/
def Obligations.SuppliesAreFollowed : Prop :=
  ∀ s : State,
    (s.supply.vin = false → exec .vinValid s = .next { s with supply := { s.supply with vin := true } }) ∧
    (s.supply.vin = true → s.supply.aonUp = false →
      exec .aonUp s = .next { s with supply := { s.supply with aonUp := true } }) ∧
    (∀ l, s.supply.aonUp = true → s.supply.ringHAbove = true → s.supply.ringH = false →
      exec (.vddioHValid l) s = .next { s with supply := { s.supply with ringH := true, ringH33 := l } }) ∧
    (∀ a, exec (.vddioHThresholdCrossed a) s = .next { s with supply := { s.supply with ringHAbove := a } }) ∧
    (s.supply.vmir = false → exec .vmirRestored s = .next { s with supply := { s.supply with vmir := true } }) ∧
    (s.supply.vin = true → exec .vinInvalid s = .next
      { State.reset with
        fuses := s.fuses, free := s.free + 1, pending := s.pending
        clocks := { State.reset.clocks with switches := s.clocks.switches }
        supply := { State.reset.supply with ringHAbove := s.supply.ringHAbove, vmir := s.supply.vmir } })

/-- 04 R75: a low level of `RST_N` of 1 µs or more always resets the core, one shorter than 0.25 µs never does, and one between
resets it completely or has no effect. -/
def Obligations.ResetPulseIsWholeOrNothing : Prop :=
  ∀ (n : Nat) (s : State), s.supply.vin = true →
    (1000 ≤ n → exec (.rstNAssert n) s = .next (coreReset s)) ∧
    (n < 250 → exec (.rstNAssert n) s = .next s) ∧
    (250 ≤ n → n < 1000 → exec (.rstNAssert n) s = .next (coreReset { s with free := s.free + 1 }) ∨
      exec (.rstNAssert n) s = .next { s with free := s.free + 1 })

/-- 02 R28, R29, 04 R76, R79: the loss of `VDDIO_H`, which has to lie below its threshold, and a keeper restart reset the core:
everything held in the core is discarded, the runs of differing codes with it, no light is left on, and the rest of the always-on domain,
the pack and the trip latch go on. -/
def Obligations.CoreResetDiscardsTheCore : Prop :=
  (∀ s : State, s.supply.ringH = true →
    (s.supply.ringHAbove = false →
      exec .vddioHInvalid s = .next (coreReset { s with supply := { s.supply with ringH := false } })) ∧
    (s.supply.ringHAbove = true → exec .vddioHInvalid s = .next s)) ∧
  (∀ s : State, running s = true → ∃ t, exec .keeperRestart s = .next t ∧ t.keeper.restarted = true ∧
    t.core = (coreReset s).core ∧ t.pens = (coreReset s).pens ∧ t.safety = (coreReset s).safety ∧ Dark t) ∧
  ∀ s : State, (coreReset s).core.inReset = true ∧ Dark (coreReset s) ∧ (coreReset s).lamp.dark = true ∧
    (coreReset s).pens.list = [] ∧ (coreReset s).pens.reserve = [] ∧ (coreReset s).binding = State.reset.binding ∧
    (coreReset s).gather = State.reset.gather ∧ (coreReset s).codec = State.reset.codec ∧
    (coreReset s).select = State.reset.select ∧ (coreReset s).beacon = State.reset.beacon ∧
    (coreReset s).safety.causes = s.safety.causes ∧ (coreReset s).pack = s.pack ∧
    (coreReset s).aon = { s.aon with balls := s.aon.balls.map fun b => { b with differ := 0, reported := false } } ∧
    (coreReset s).jtag = s.jtag ∧ (coreReset s).core.straps = s.core.straps

/-- 02 R27, R28, R31: the supply of the memory ring is followed, and its loss fails the read in progress: that of the spine's first
copy leaves the copy unread and is reported. -/
def Obligations.MemorySupplyIsFollowed : Prop :=
  (∀ (l : Bool) (s : State), s.supply.aonUp = true → s.supply.ringM = false →
    ∃ t, exec (.vddioMValid l) s = .next t ∧ t.supply = { s.supply with ringM := true, ringM33 := l }) ∧
  (∀ s : State, s.supply.ringM = true →
    ∃ t, exec .vddioMInvalid s = .next t ∧ t.supply = { s.supply with ringM := false } ∧
      (sysRuns s = true → s.mem.reading = some (.spine (copyPref s)) → s.codec.running = none →
        (copyPref s = .a → t.binding.reader.spineA = none) ∧ (copyPref s = .b → t.binding.reader.spineB = none) ∧
          Reported evSigFallback (copyNum (copyPref s)) t)) ∧
  ∀ s : State, s.supply.ringM = true → sysRuns s = false →
    exec .vddioMInvalid s = .next { s with supply := { s.supply with ringM := false } }

/-- 02 R32, 12 R279: on a loss of `VMIR` while the core runs both ports coast and their gates close, and their coils are shorted but for
the frames in which an over-current holds them open; without a running core only the supply is noted. -/
def Obligations.MirrorSupplyLossCoastsThePorts : Prop :=
  ∀ s : State, s.supply.vmir = true →
    (running s = false → exec .vmirLow s = .next { s with supply := { s.supply with vmir := false } }) ∧
    (running s = true → ∃ t, exec .vmirLow s = .next t ∧ t.supply = { s.supply with vmir := false } ∧
      (∀ p, ((portOf s p).coilZ = 0 → coilsShorted t p = true) ∧ (portOf t p).raster = false ∧
        (portOf t p).wheel.gate = false ∧ (portOf t p).driveW = 0 ∧ (portOf t p).driveP = 0 ∧ (portOf t p).driveSlow = 0) ∧
      t.cart.qualified = false ∧ t.cart.present = s.cart.present)

/-! Waking (04, 05, 06). -/

/-- 02 R25, 03 R48, R58 to R60, 04 R70, 06 R118: at its release the core takes the accepted codes and the majority of the straps,
and the bus is the host's while it holds it or is owed a boot hold. -/
def Obligations.CoreReleaseTakesTheCodes : Prop :=
  ∀ (r : ReleasePins) (s : State), s.supply.vin = true → s.supply.aonUp = true → s.supply.ringH = true →
    s.core.inReset = true → 2 ≤ s.aon.passes →
    ∃ t, exec (.coreRelease r) s = .next t ∧ t.core.inReset = false ∧ t.core.straps = majority r.psel1 r.psel2 r.psel3 ∧
      t.core.held = s.aon.balls.map (·.accepted) ∧ t.core.service = s.core.service ∧ t.core.plls = s.core.plls ∧
      t.pins.killLow = r.killLow ∧ t.pins.abortLow = r.abortLow ∧ t.pins.manualLow = r.manualLow ∧
      t.pins.holdLow = r.holdLow ∧ t.mem.ackLow = (r.holdLow || t.core.straps.getLsbD 3) ∧
      t.mem.bootHold = t.core.straps.getLsbD 3 ∧ t.mem.flashReset = (if t.mem.ackLow then .none else .low) ∧
      (t.cart.present = (s.cart.present || (r.detLow && s.aon.cartAgree.isSome && !t.core.straps.getLsbD 2)))

/-- 05 R100: the PLLs lock to the crystal when it is within 3 % of 24 MHz and otherwise to the ring, which is reported; a declared
`REFIN` that does not toggle is latched as failed. -/
def Obligations.PllLockSelectsTheReference : Prop :=
  ∀ (x r : Nat) (s : State), running s = true → s.core.plls = false →
    ∃ t, exec (.pllLocked x r) s = .next t ∧ t.core.plls = true ∧ t.core.inReset = false ∧ t.clocks.crystalHz = x ∧
      t.clocks.refinHz = r ∧ t.clocks.refinToggles = decide (10000000 ≤ r) ∧
      (23280000 ≤ x → x ≤ 24720000 → t.clocks.selected = .crystal) ∧
      (x < 23280000 ∨ 24720000 < x → t.clocks.selected = .ring ∧ Reported evRefStartFallback 0 t) ∧
      (refinDeclared s = true → r < 10000000 → t.clocks.refinFailed = true ∧ Reported evRefSpareFailed 1 t) ∧
      (refinDeclared s = false ∨ 10000000 ≤ r → t.clocks.refinFailed = s.clocks.refinFailed)

/-- 02 R31, 03 R59, R60, 06 R115, R118, R127, R138: the flash's reset pulse ends, the first read is that of the spine's preferred copy
with its other copy behind it, and without the memory's supply the built-in endpaper goes live, but not in a boot hold, which has no
limit. -/
def Obligations.TheFlashIsResetAndRead : Prop :=
  (∀ s : State, running s = true → s.mem.flashReset = .low →
    exec .flashResetEnd s = .next { s with mem := { s.mem with flashReset := .waiting } }) ∧
  (∀ s : State, sysRuns s = true → s.core.plls = true → s.supply.ringM = true → s.core.noBinding = false →
    s.core.folios = false → s.mem.ackLow = false → s.mem.bootHold = false →
    (s.mem.flashReset = .waiting ∨ s.mem.flashReset = .done) → s.mem.statusDue = false → s.binding.reader.phase = .idle →
    domainHeld s .mem = false → s.mem.reading = none → s.mem.waiting = [] →
    ∃ t, exec .bindingReadStart s = .next t ∧ t.mem.flashReset = .done ∧ t.mem.reading = some (.spine (copyPref s)) ∧
      t.mem.waiting = [.spine (otherCopy (copyPref s))] ∧
      t.mem.issued = readCommands s.mem.mode (fnat (live s) memportReadChunk) [(if copyPref s = .a then 0 else 4096, 4096)] ∧
      t.binding.reader.phase = .spines ∧ t.binding.reader.stitch = false ∧ t.binding.reader.n = toolCode s ∧
      t.binding.live = s.binding.live) ∧
  ∀ s : State, running s = true → s.supply.ringM = false → s.core.folios = false →
    (s.mem.bootHold = true → exec .memSupplyTimeout s = .next s) ∧
    (s.mem.bootHold = false →
      ∃ t, exec .memSupplyTimeout s = .next t ∧ t.core.noBinding = true ∧ t.core.folios = true ∧ t.binding.live = builtin ∧
        t.mem.reading = none ∧ t.mem.waiting = [] ∧ Reported evMemSupply 0 t)

/-- 04 R73, 14 R356: lamp-only service begins once the folios are validated; a head with a lamp field starts it, each lamp with its
estimate at 25 °C, and one without starts none. -/
def Obligations.LampOnlyServiceBegins : Prop :=
  ∀ s : State, sysRuns s = true → s.core.plls = true → s.core.folios = true → s.core.service = false →
    ∃ t, exec .lampOnlyServiceStart s = .next t ∧ t.core = { s.core with service := true } ∧
      (∀ r c, geometry s (live s) = some (r, c) → t.lamp.running = true ∧ t.lamp.rows = r ∧ t.lamp.cols = c ∧
        t.lamp.dark = s.pins.killLow ∧ t.lamp.fields = live s ∧ t.lamp.lamps.length = r * c ∧
        ∀ i, i < r * c → t.lamp.lamps[i]? = some { vf := vf25 (live s) i }) ∧
      (geometry s (live s) = none → t.lamp = s.lamp) ∧
      (entryUsed s.binding.live 0 = true → t.select.pending = some 0)

/-! Codes and the pack (03). -/

/-- 03 R42, R43, R46, R48, R49, R61, R66: a pass counts, judges every code ball by its own conversions (the cartridge ball only while its
bias is switched), notes the pack's voltage, and computes the pack limit from what it leaves. -/
def Obligations.CodePassIsJudged : Prop :=
  ∀ (r : PassReadings) (s : State), s.supply.vin = true → s.supply.aonUp = true →
    ∃ t, exec (.codePass r) s = .next t ∧ t.aon.passes = s.aon.passes + 1 ∧ t.aon.balls.length = 7 ∧
      (∀ b, b ≠ .cart → t.aon.balls[ballIndex b]? =
        some (ballPass s.core.inReset (heldCode s b) (s.aon.balls.getD (ballIndex b) {}) (codeOf (passRatio r b)))) ∧
      (cartUnread s = true → t.aon.balls[6]? = some (s.aon.balls.getD 6 {}) ∧ t.aon.cartAgree = none ∧ t.aon.cartOob = 0) ∧
      (cartUnread s = false → t.aon.balls[6]? =
        some (ballPass s.core.inReset (heldCode s .cart) (s.aon.balls.getD 6 {}) (codeOf (ratioOf r.cart)))) ∧
      t.core.held = s.core.held ∧ t.pack.mv = r.vpackMv ∧ t.pack.present = s.pack.present ∧
      t.pack.limit = packLimitOf (live s) s.cart.packChatter t.pack

/-- 03 R49, R50: eight differing passes of a code ball latch `FAULT_N`, and three of `CODE_SAFE` trip the latch. -/
def Obligations.CodeChangesAreActedOn : Prop :=
  (∀ (b : CodeBall) (s : State), running s = true → ballIndex b < 5 → 8 ≤ (s.aon.balls.getD (ballIndex b) {}).differ →
    (s.aon.balls.getD (ballIndex b) {}).reported = false →
    ∃ t, exec (.codeChanged b) s = .next t ∧ t.beacon.codeLatch = true ∧ faultLow t = true ∧
      (t.aon.balls.getD (ballIndex b) {}).reported = true ∧ t.core.held = s.core.held ∧
      Reported evCodeChanged (ballIndex b + 1) t) ∧
  ∀ s : State, running s = true → 3 ≤ s.safety.safeDiffer → .codeSafe ∉ s.safety.causes →
    ∃ t, exec .codeSafeChange s = .next t ∧ t.safety.causes = s.safety.causes ++ [.codeSafe] ∧ Dark t ∧ faultLow t = true

/-- 03 R61, R62, 04 R88: the pack's presence and removal are noted, a removal forgets the identity, and the retry timer's end starts
detection afresh with a pack present. -/
def Obligations.PackPresenceIsFollowed : Prop :=
  (∀ s : State, s.supply.aonUp = true → 2 ≤ s.pack.aboveRun → s.pack.present = false →
    ∃ t, exec .packPresent s = .next t ∧ t.pack.present = true ∧
      t.pack.limit = packLimitOf (live s) s.cart.packChatter t.pack ∧
      (s.cart.packChatter = false → s.pack.retry = false → s.core.inReset = false → t.pack.retry = true) ∧
      (s.cart.packChatter = true ∨ s.pack.retry = true → t.pack.retry = s.pack.retry)) ∧
  (∀ s : State, s.supply.aonUp = true → s.pack.present = true → 2 ≤ s.pack.belowRun →
    ∃ t, exec .packRemoved s = .next t ∧ t.pack.present = false ∧ t.pack.scheme = 0 ∧ t.pack.identRead = false ∧
      t.pack.unidentified = false ∧
      t.pack.limit = (if t.cart.packChatter then fnat (live s) packLimitUnknown else fnat (live s) packLimitAbsent)) ∧
  (∀ s : State, s.supply.aonUp = true → s.pack.present = true → 4 ≤ s.pack.bandRun → s.pack.belowRun < 2 →
    (s.pack.scheme = 1 ∨ s.pack.scheme = 2) →
    ∃ t, exec .packRemoved s = .next t ∧ t.pack.present = true ∧ t.pack.scheme = 0 ∧ t.pack.identRead = false) ∧
  ∀ s : State, s.supply.aonUp = true → s.pack.retry = true →
    (running s = true → s.pins.abortLow = true →
      exec .packRetryExpired s = .next { s with pack := { s.pack with retry := false, expiredDue := true } }) ∧
    (running s = false ∨ s.pins.abortLow = false → s.pack.present = false ∨ s.cart.packChatter = true →
      exec .packRetryExpired s = .next { s with pack := { s.pack with retry := false, expiredDue := false } }) ∧
    (running s = false ∨ s.pins.abortLow = false → s.pack.present = true → s.cart.packChatter = false →
      ∃ t, exec .packRetryExpired s = .next t ∧ t.pack.retry = false ∧ t.pack.present = true ∧
        (t.pack.detecting = true ∨ t.pack.identRead = true ∨ t.pack.unidentified = true))

/-- 03 R62 to R67: the temperature fault, the frames of Scheme 3, a wait without a frame, and a silent pack, each with the pack limit
that follows. -/
def Obligations.PackIdentityIsFollowed : Prop :=
  (∀ s : State, s.supply.aonUp = true → s.pack.scheme = 2 → 2 ≤ s.pack.tBadRun → s.pack.tFault = false →
    ∃ t, exec .packTFault s = .next t ∧ t.pack = { s.pack with tFault := true, limit := t.pack.limit } ∧
      t.pack.limit = packLimitOf (live s) s.cart.packChatter t.pack) ∧
  (∀ s : State, s.supply.aonUp = true → s.pack.present = true → s.pack.scheme = 3 → s.pack.silent = false →
    ∃ t, exec .packSilent s = .next t ∧ t.pack.silent = true ∧ t.pack.lastFrame = none ∧
      t.pack.limit = fnat (live s) packLimitUnknown) ∧
  (∀ s : State, s.supply.aonUp = true → s.pack.detecting = true →
    ∃ t, exec .packS3WaitExpired s = .next t ∧ t.pack.detecting = false ∧ t.pack.unidentified = true ∧
      (s.pack.present = true → t.pack.limit = fnat (live s) packLimitUnknown)) ∧
  ∀ (idle : Nat) (segs : List (Bool × Nat)) (s : State), s.supply.aonUp = true → s.pack.present = true →
    (s.pack.candidate = true ∨ s.pack.scheme = 3) →
    (scheme3Decode idle segs = none → s.core.inReset = true ∨ s.core.halted = true →
      exec (.scheme3Frame idle segs) s = .next s) ∧
    (scheme3Decode idle segs = none → s.core.inReset = false → s.core.halted = false → exec (.scheme3Frame idle segs) s =
      .next { s with beacon := { s.beacon with scheme3Bad := satInc s.beacon.scheme3Bad } }) ∧
    (∀ f, scheme3Decode idle segs = some f → s.pack.lastFrame ≠ some f → exec (.scheme3Frame idle segs) s =
      .next { s with pack := { s.pack with lastFrame := some f } }) ∧
    (∀ f, scheme3Decode idle segs = some f → s.pack.lastFrame = some f →
      ∃ t, exec (.scheme3Frame idle segs) s = .next t ∧ t.pack.ident3 = f ∧ t.pack.silent = false ∧ t.pack.present = true ∧
        t.pack.limit = packLimitOf (live s) s.cart.packChatter t.pack ∧
        (s.pack.scheme ≠ 3 → schemeAccepted (live s) 3 = true → t.pack.scheme = 3 ∧ t.pack.identRead = true) ∧
        (s.pack.scheme ≠ 3 → schemeAccepted (live s) 3 = false → t.pack.unidentified = true))

/-! The cartridge (04). -/

/-- 04 R80 to R87: a removal, seen at the detect ball or by two out-of-band passes, puts every channel out, coasts both ports and
clears the qualification; presence starts the retry timer, whose end begins a qualification unless a latch forbids it. -/
def Obligations.CartridgeComesAndGoes : Prop :=
  (∀ (d : Bool) (s : State), running s = true → s.cart.present = true → cartUnread s = false → (d = true ∨ 2 ≤ s.aon.cartOob) →
    ∃ t, exec (.cartRemoved d) s = .next t ∧ t.cart.present = false ∧ t.cart.qualified = false ∧ t.cart.step = .idle ∧
      t.cart.uncalibrated = false ∧ t.cart.fails = 0 ∧ t.cart.lastTemp = none ∧ Dark t ∧
      (∀ p, ((portOf s p).coilZ = 0 → coilsShorted t p = true) ∧ (portOf t p).raster = false) ∧
      guidePresent t = false ∧ t.lamp = s.lamp ∧
      (fnat (live s) hotplugChatterCount <
          (s.keeper.ticks :: recent (fnat (live s) hotplugChatterWindow) s.keeper.ticks s.cart.history).length →
        t.cart.chatter = true ∧ t.cart.retry = false)) ∧
  (∀ s : State, running s = true → cartUnread s = false → s.cart.present = false → s.aon.cartAgree.isSome = true →
    exec .cartPresenceNoted s = .next
      { s with cart := { s.cart with
          present := true
          retry := s.cart.retry || (!s.cart.retryDue && !s.cart.expiredDue && !s.cart.chatter) } }) ∧
  ∀ s : State, serving s = true → s.cart.retry = true →
    (s.pins.abortLow = true →
      exec .cartRetryExpired s = .next { s with cart := { s.cart with retry := false, expiredDue := true } }) ∧
    (s.pins.abortLow = false → s.cart.present = true → mayQualify s = true →
      ∃ t, exec .cartRetryExpired s = .next t ∧ t.cart.step = .code ∧ t.cart.codePasses = 0 ∧ t.cart.retry = false ∧
        t.cart.present = true ∧ t.cart.qualified = s.cart.qualified) ∧
    (s.pins.abortLow = false → s.cart.present = false ∨ mayQualify s = false →
      exec .cartRetryExpired s = .next { s with cart := { s.cart with retry := false, expiredDue := false } })

/-- 04 R83, R85, R86, 12 R293: a photodiode cross-check that passes marks its port, with the photodiodes that still serve on every port
checked; one that fails, or that leaves no photodiode, ends the qualification, or counts as a mirror fault when the port restarts. -/
def Obligations.CrossCheckDecides : Prop :=
  ∀ (p : Port) (r : CrossCheck) (s : State), serving s = true → crossDue s p = true → s.pins.killLow = false →
    s.safety.causes = [] →
    (∀ v, (crossResult s p r).bind (meetServing s.cart.pd) = some v → ∃ t, exec (.pdCrossCheck p r) s = .next t ∧
      portOf t p = { portOf s p with checkPassed := true } ∧ t.cart = { s.cart with pd := v } ∧
      (∀ q, q ≠ p → portOf t q = portOf s q) ∧ t.emit = s.emit ∧ t.beacon = s.beacon) ∧
    ((crossResult s p r).bind (meetServing s.cart.pd) = none → (portOf s p).restarting = false →
      ∃ t, exec (.pdCrossCheck p r) s = .next t ∧ t.cart.qualified = false ∧ t.cart.step = .idle ∧
        t.cart.fails = s.cart.fails + 1 ∧ t.cart.reached = 5 ∧
        (fnat (live s) hotplugQualTries ≤ s.cart.fails + 1 → t.cart.failedLatch = true) ∧
        ∀ q, ((portOf s q).coilZ = 0 → coilsShorted t q = true) ∧ (portOf t q).wheel.gate = false) ∧
    ((crossResult s p r).bind (meetServing s.cart.pd) = none → (portOf s p).restarting = true →
      ∃ t, exec (.pdCrossCheck p r) s = .next t ∧ (portOf t p).faultCount = satInc (portOf s p).faultCount ∧
        (portOf t p).down = true ∧ ((portOf s p).coilZ = 0 → coilsShorted t p = true) ∧ (portOf t p).wheel.gate = false ∧
        t.cart = s.cart)

/-! The keeper and the references (04, 05). -/

/-- 04 R77, R78, 05 R110: a sample in which every heartbeat has advanced resets nothing and ends every run of stale ones. A lost PLL
lock resets its domain, with the reset noted; the domain is held until its restart, and its third reset within 10 s quarantines it.
A restart releases a domain that is not quarantined. -/
def Obligations.DomainsAreWatchedAndReset : Prop :=
  (∀ (beats : List Nat) (cvs : Bool) (s : State), running s = true → s.core.plls = true → s.core.halted = false →
    s.keeper.domains.length = 9 → (∀ d, nth beats (domainNum d) % 16 ≠ (domainOf s d).beat) →
    ∃ t, exec (.keeperHeartbeatSample beats cvs) s = .next t ∧
      (∀ d, domainOf t d = { domainOf s d with beat := nth beats (domainNum d) % 16, stale := 0 }) ∧
      t = { s with keeper := { s.keeper with domains := t.keeper.domains } }) ∧
  (∀ (d : Domain) (s : State), running s = true → s.core.plls = true → s.core.halted = false → pllDomain d = true →
    domainHeld s d = false → s.keeper.domains.length = 9 →
    ∃ t, exec (.pllLockLost d) s = .next t ∧ (domainOf t d).held = true ∧
      (domainOf t d).resets = s.keeper.ticks :: recent 10000 s.keeper.ticks (domainOf s d).resets ∧
      ((domainOf t d).quarantined = true ↔ 3 ≤ (domainOf t d).resets.length) ∧
      ∀ e, e ≠ d → domainOf t e = domainOf s e) ∧
  ∀ (d : Domain) (s : State), running s = true → s.core.halted = false → (domainOf s d).held = true →
    (domainOf s d).quarantined = false → s.keeper.domains.length = 9 →
    ∃ t, exec (.domainRestart d) s = .next t ∧ domainOf t d = { domainOf s d with held := false, stale := 0 } ∧
      ∀ e, e ≠ d → domainOf t e = domainOf s e

/-- 05 R102, R103, R106, R107: a window counts, keeps a selected ring, and leaves the learned ring as it is where the references differ by
more than a quarter of `CLOCK.TOL_PPM`; with the switch enabled a failed reference is latched and left; a lost one is left for the other, for
a qualified ring, or for a holdover that ends with its return, from which on the divider words are those of its nominal frequency.
A window is given by the cycles counted of the crystal, of `REFIN`, of the ring and of `CK_AON`. -/
def Obligations.ReferencesAreJudged : Prop :=
  (∀ (crystal refin ring aon : Nat) (s : State), running s = true → s.core.plls = true → s.core.folios = true →
    ∃ t, exec (.driftWindowEnd ⟨crystal, refin⟩ ring aon) s = .next t ∧ t.clocks.windows = s.clocks.windows + 1 ∧
      t.clocks.ringOk = (s.clocks.ringOk || decide (4 ≤ s.clocks.windows + 1)) ∧
      (s.clocks.selected = .ring → t.clocks.selected = .ring) ∧
      (watchRefin s = true → 4 ≤ s.clocks.windows →
        (∀ d, (windowOf s crystal refin ring).cr = some d → fnat (live s) clockTolPpm < 4 * d.natAbs) →
        t.clocks.learned = s.clocks.learned) ∧
      (s.clocks.ringOk = false → t.clocks.selected = s.clocks.selected)) ∧
  (∀ (crystal refin ring aon : Nat) (so sw ow : Int) (s : State), running s = true → s.core.plls = true →
    s.core.folios = true → s.clocks.ringOk = true → bothRefs s = true →
    let w := windowOf s crystal refin ring
    let tol := fnat (live s) clockTolPpm
    w.cr = some so → (if s.clocks.selected = .crystal then w.cw else w.rw) = some sw →
    (if s.clocks.selected = .crystal then w.rw else w.cw) = some ow →
    tol < so.natAbs → tol < sw.natAbs → 2 * ow.natAbs ≤ tol →
    ∃ t, exec (.driftWindowEnd ⟨crystal, refin⟩ ring aon) s = .next t ∧ refFailed t s.clocks.selected = true ∧
      t.clocks.selected = (if (fnat (live s) clockSwitch).testBit 0 then otherRef s.clocks.selected else s.clocks.selected)) ∧
  (∀ s : State, running s = true → s.core.plls = true → s.clocks.selected ≠ .ring → s.clocks.holdover = false →
    ∃ t, exec .refLost s = .next t ∧ refFailed t s.clocks.selected = true ∧ Reported evRefLost (refNum s.clocks.selected) t ∧
      (refPresent s (otherRef s.clocks.selected) = true → refFailed s (otherRef s.clocks.selected) = false →
        t.clocks.selected = otherRef s.clocks.selected ∧ t.clocks.holdover = false) ∧
      (refPresent s (otherRef s.clocks.selected) = false ∨ refFailed s (otherRef s.clocks.selected) = true →
        if (fnat (live s) clockSwitch).testBit 1 && s.clocks.ringOk then t.clocks.selected = .ring ∧ t.clocks.holdover = false
        else t.clocks.selected = s.clocks.selected ∧ t.clocks.holdover = true ∧ t.clocks.lost = some s.clocks.selected)) ∧
  ∀ (r : RefSource) (s : State), running s = true → s.clocks.holdover = true → s.clocks.lost = some r →
    ∃ t, exec .refReturn s = .next t ∧ t.clocks.selected = r ∧ t.clocks.holdover = false ∧ t.clocks.lost = none ∧
      pllDividers t = (pllOutputs s).map (fun f => (⟨f, nominalHz (live s) r⟩ : Frac)) ∧ t.clocks.learned = s.clocks.learned ∧
      Reported evRefSwitch (refNum r) t

/-- 05 R104: when all three pairwise deviations exceed half of `CLOCK.TOL_PPM`, and at least one of them exceeds it, no majority
exists: REF_NO_MAJORITY is reported and the selected reference is kept. That the event names the selected source is the model's choice
(log 112). -/
def Obligations.NoMajorityKeepsTheReference : Prop :=
  ∀ (crystal refin ring aon : Nat) (cr cw rw : Int) (s : State), running s = true → s.core.plls = true →
    s.core.folios = true → s.clocks.ringOk = true → bothRefs s = true →
    let w := windowOf s crystal refin ring
    let tol := fnat (live s) clockTolPpm
    w.cr = some cr → w.cw = some cw → w.rw = some rw →
    tol < 2 * cr.natAbs → tol < 2 * cw.natAbs → tol < 2 * rw.natAbs →
    tol < cr.natAbs ∨ tol < cw.natAbs ∨ tol < rw.natAbs →
    ∃ t, exec (.driftWindowEnd ⟨crystal, refin⟩ ring aon) s = .next t ∧ t.clocks.selected = s.clocks.selected ∧
      Reported evRefNoMajority (refNum s.clocks.selected) t

/-- 05 R111, 16 R386: the fourth check in a row on which the selected voltage reference disagrees with the other two latches it and
switches to the other; checks that agree end every run; the fourth above 2 % of the safety reference trips the latch. -/
def Obligations.VoltageReferencesAreChecked : Prop :=
  (∀ (other bandgap safe : Int) (s : State), running s = true → s.core.plls = true → 50 < other.natAbs → 50 < bandgap.natAbs →
    (other - bandgap).natAbs ≤ 25 → s.clocks.vrefAFailed = false → s.clocks.vrefBFailed = false → s.clocks.vselRun = 3 →
    ∃ t, exec (.vrefCheck other bandgap safe) s = .next t ∧ t.clocks.vrefB = !s.clocks.vrefB ∧
      (s.clocks.vrefB = false → t.clocks.vrefAFailed = true ∧ t.clocks.vrefBFailed = false) ∧
      (s.clocks.vrefB = true → t.clocks.vrefBFailed = true ∧ t.clocks.vrefAFailed = false)) ∧
  (∀ (other bandgap safe : Int) (s : State), running s = true → s.core.plls = true → other.natAbs ≤ 50 → bandgap.natAbs ≤ 50 →
    (other - bandgap).natAbs ≤ 50 → safe.natAbs ≤ 200 →
    exec (.vrefCheck other bandgap safe) s =
      .next { s with
        clocks := { s.clocks with vselRun := 0, vothRun := 0 }
        safety := { s.safety with refRun := 0 } }) ∧
  ∀ (other bandgap safe : Int) (s : State), running s = true → s.core.plls = true → 200 < safe.natAbs → 3 ≤ s.safety.refRun →
    .safeRef ∉ s.safety.causes →
    ∃ t, exec (.vrefCheck other bandgap safe) s = .next t ∧ .safeRef ∈ t.safety.causes ∧ Dark t

/-! The memory port (06). -/

/-- 03 R60, 06 R115, R118, R121 to R125: a low level that the part sees makes the bus the host's, with the bytes of the item under way
that are still unread; its release gives the bus back, save that a boot hold ends only after its low was seen, and after a hold the status
is read before any other command; then the rest of the item is read by new commands. -/
def Obligations.HoldsHandOverTheBus : Prop :=
  let status := fun (s : State) => (if s.mem.mode = .d8 then { opcode := 0x05FA, addr := some 0, len := 1 }
    else { opcode := 0x05, addr := none, len := 1 } : FlashCommand)
  (∀ (n r : Nat) (s : State), running s = true → s.pins.holdLow = false →
    (50 ≤ n → exec (.holdRequest ⟨n, r⟩) s = .next
      { s with
        pins := { s.pins with holdLow := true }
        mem := { s.mem with
          ackLow := true, unread := dropSpans r s.mem.unread, bootLow := s.mem.bootLow || s.mem.bootHold, longReported := false } }) ∧
    (n < 50 → ∃ t, exec (.holdRequest ⟨n, r⟩) s = .next t ∧
      (t.mem = s.mem ∧ t.pins = s.pins ∨ t.mem.ackLow = true ∧ t.pins.holdLow = true))) ∧
  (∀ s : State, running s = true → s.pins.holdLow = true →
    (s.mem.bootHold = true → s.mem.bootLow = false →
      exec .holdRelease s = .next { s with pins := { s.pins with holdLow := false } }) ∧
    (s.mem.bootHold = false ∨ s.mem.bootLow = true →
      ∃ t, exec .holdRelease s = .next t ∧ t.pins = { s.pins with holdLow := false } ∧ t.mem.ackLow = false ∧
        t.mem.bootHold = false ∧
        (s.mem.flashReset = .none → t.mem.flashReset = .low ∧ t.mem.statusDue = false) ∧
        (s.mem.flashReset ≠ .none → t.mem.flashReset = s.mem.flashReset ∧ t.mem.statusDue = true))) ∧
  (∀ (w : Option Bool) (s : State), running s = true → s.mem.statusDue = true → s.mem.ackLow = false →
    domainHeld s .mem = false →
    let commands := readCommands s.mem.mode (fnat (live s) memportReadChunk)
    (w ≠ some false → exec (.statusPoll w) s = .next { s with mem := { s.mem with issued := [status s] } }) ∧
    (w = some false → ∃ t, exec (.statusPoll w) s = .next t ∧ t.mem.statusDue = false ∧
      (readUnderWay s = false → s.mem.waiting = [] → t.mem.issued = [status s]) ∧
      (s.core.noBinding = false → s.mem.flashReset = .done →
        (s.mem.reading.isSome = true → t.mem.reading = s.mem.reading ∧ t.mem.unread = s.mem.unread ∧
          t.mem.issued = commands s.mem.unread) ∧
        ∀ m rest, s.mem.reading = none → s.mem.waiting = m :: rest →
          t.mem.reading = some m ∧ t.mem.waiting = rest ∧ t.mem.unread = itemSpans s m ∧
            t.mem.issued = commands (itemSpans s m)))) ∧
  (∀ s : State, running s = true → s.mem.statusDue = true → s.mem.ackLow = false → s.mem.busyReported = false →
    ∃ t, exec .memBusy s = .next t ∧ t.mem = { s.mem with busyReported := true } ∧
      Reported evMemBusy (copyNum s.binding.readCopy) t) ∧
  ∀ s : State, running s = true → s.mem.ackLow = true → s.mem.longReported = false →
    ∃ t, exec .holdLong s = .next t ∧ t.mem = { s.mem with longReported := true } ∧
      Reported evHoldLong (copyNum s.binding.readCopy) t

/-- 03 R59, 06 R115 to R117, R121, R129, R138: the copy that COPY_PREF names is read first; a spine copy that has been read is kept when it
passes its checks, and the next read begins; a header is kept as read; a read that fails, by itself, for want of `VDDIO_M` or by a lost
strobe, gives nothing. An item is read by commands of the mode's opcode of at most `READ_CHUNK` × 64 bytes each, in 8D-8D-8D from even
addresses and of even lengths. -/
def Obligations.ReadsReachTheReader : Prop :=
  let spineKept := fun (c : Copy) (t : State) => if c = .a then t.binding.reader.spineA else t.binding.reader.spineB
  let headerKept := fun (c : Copy) (t : State) => if c = .a then t.binding.reader.headerA else t.binding.reader.headerB
  (∀ (c : Copy) (bytes : List Byte) (s : State), sysRuns s = true → busFree s = true → c = copyPref s →
    s.mem.reading = some (.spine c) →
    (s.supply.ringM = true → ∃ t, exec (.memReadDone (.data bytes)) s = .next t ∧
      spineKept c t = (if spineReason bytes = 0 then some (spineOf bytes) else none) ∧
      t.mem.reading = s.mem.waiting.head? ∧ t.mem.waiting = s.mem.waiting.tail ∧ t.binding.live = s.binding.live) ∧
    (∀ r, r = .failed ∨ s.supply.ringM = false → ∃ t, exec (.memReadDone r) s = .next t ∧ spineKept c t = none ∧
      Reported evSigFallback (copyNum c) t) ∧
    (s.mem.mode = .d8 → ∃ t, exec .dqsTimeout s = .next t ∧ spineKept c t = none ∧ Reported evSigFallback (copyNum c) t)) ∧
  (∀ (c : Copy) (bytes : List Byte) (s : State), sysRuns s = true → busFree s = true → s.supply.ringM = true →
    c = copyPref s → s.mem.reading = some (.header c) →
    ∃ t, exec (.memReadDone (.data bytes)) s = .next t ∧ headerKept c t = some bytes ∧
      t.binding.reader.phase = s.binding.reader.phase ∧ t.mem.reading = s.mem.waiting.head? ∧ t.binding.live = s.binding.live) ∧
  (∀ s : State, sysRuns s = true → busFree s = true → s.mem.mode = .d8 → s.mem.reading = none → s.codec.running = none →
    exec .dqsTimeout s = .next s) ∧
  ∀ (m : MemMode) (chunk : Nat) (spans : List (Nat × Nat)), ∀ c ∈ readCommands m chunk spans,
    c.opcode = readOpcode m ∧ c.addr.isSome = true ∧ c.len ≤ 64 * chunk ∧
      (m = .d8 → (∀ a, c.addr = some a → a % 2 = 0) ∧ c.len % 2 = 0)

/-! Gatherings (07). -/

/-- 07 R151, R152, R154: a falling edge of `CFG_OPEN_N` opens a gathering, which suspends the twin, is refused while `ABORT_N` is low
or `CK_MEM` is quarantined, and is ignored at `STAT` 0 or 7; the rising edge cancels it and its time ends it. -/
def Obligations.GatheringsOpenAndClose : Prop :=
  (∀ (n : Nat) (s : State), sysRuns s = true → s.gather.state = .closed → 50 ≤ n →
    (stat s ≠ 0 → stat s ≠ 7 → s.pins.abortLow = false → (domainOf s .mem).quarantined = false →
      exec (.gatheringOpen n) s = .next { s with
        gather := { s.gather with state := .opened, latched := none }, binding := { s.binding with twin := false } }) ∧
    (stat s ≠ 0 → stat s ≠ 7 → s.pins.abortLow = true → ∃ t, exec (.gatheringOpen n) s = .next t ∧
      t.gather = { s.gather with outcome := 2, reason := 0x4A } ∧ t.binding = s.binding ∧ Reported evGathering 2 t) ∧
    (stat s ≠ 0 → stat s ≠ 7 → s.pins.abortLow = false → (domainOf s .mem).quarantined = true →
      ∃ t, exec (.gatheringOpen n) s = .next t ∧ t.gather = { s.gather with outcome := 2, reason := 0x49 } ∧
        t.binding = s.binding ∧ Reported evGathering 2 t) ∧
    (stat s = 0 ∨ stat s = 7 → exec (.gatheringOpen n) s = .next s)) ∧
  (∀ (n : Nat) (s : State), sysRuns s = true → s.gather.state = .opened → 50 ≤ n →
    ∃ t, exec (.gatheringCancel n) s = .next t ∧ t.gather.state = .closed ∧ t.gather.outcome = 4 ∧ t.gather.reason = 0x40 ∧
      t.binding.live = s.binding.live ∧ Reported evGathering 4 t) ∧
  ∀ s : State, sysRuns s = true → s.gather.state = .opened →
    ∃ t, exec .gatheringTimeout s = .next t ∧ t.gather.state = .closed ∧ t.gather.outcome = 3 ∧ t.gather.reason = 0x41 ∧
      t.binding.live = s.binding.live ∧ Reported evGathering 3 t

/-- 07 R150: a level too short to be seen always is either seen whole, as one of 50 ns (40 ns on `ABORT_N`) would be, or not at all. -/
def Obligations.ShortLevelsAreWholeOrNothing : Prop :=
  ∀ (n : Nat) (s : State), sysRuns s = true →
    let u : State := { s with free := s.free + 1 }
    (n < 50 → s.gather.state = .closed →
      exec (.gatheringOpen n) s = exec (.gatheringOpen 50) u ∨ exec (.gatheringOpen n) s = .next u) ∧
    (n < 50 → s.gather.state = .opened →
      exec (.gatheringCancel n) s = exec (.gatheringCancel 50) u ∨ exec (.gatheringCancel n) s = .next u) ∧
    (n < 50 → exec (.stitchRequest n) s = exec (.stitchRequest 50) u ∨ exec (.stitchRequest n) s = .next u) ∧
    (n < 40 → s.pins.abortLow = false →
      ∀ r, exec (.abort ⟨n, r⟩) s = exec (.abort ⟨40, r⟩) u ∨ exec (.abort ⟨n, r⟩) s = .next u)

/-- 07 R153: a rising edge of `CFG_STITCH` while a gathering is open and no stitch has been requested is a stitch request, which ends
the gathering's timeout and begins the selection of a copy; any other rising edge is counted and changes nothing else. -/
def Obligations.StitchRequestsBeginAValidation : Prop :=
  (∀ (n : Nat) (s : State), sysRuns s = true → s.gather.state = .opened → 50 ≤ n →
    ∃ t, exec (.stitchRequest n) s = .next t ∧
      t.gather = { s.gather with state := .validate, pendingAt := s.select.pending } ∧
      t.binding.reader.stitch = true ∧ t.binding.reader.phase = .spines ∧ t.binding.reader.n = toolCode s ∧
      t.binding.live = s.binding.live ∧ t.beacon = s.beacon ∧ exec .gatheringTimeout t = .next t) ∧
  ∀ (n : Nat) (s : State), sysRuns s = true → s.gather.state ≠ .opened → 50 ≤ n →
    exec (.stitchRequest n) s =
      .next { s with beacon := { s.beacon with stitchIgnored := satInc s.beacon.stitchIgnored } }

/-- 07 R157, R159, R161, R164: the validated copy is rejected, with the reason of the check it fails and the committed settings kept,
or its decode step begins when free pens hold what it needs; without that room it waits for a dark bridge or is rejected. -/
def Obligations.StitchesAreJudged : Prop :=
  ∀ s : State, sysRuns s = true → s.gather.state = .validate → s.binding.reader.stitch = true → s.binding.reader.phase = .done →
    s.gather.bridgeDue = false →
    let rejected := fun (k : Nat) => ∃ t, exec .stitchValidated s = .next t ∧ t.gather.state = .closed ∧
      t.gather.outcome = 2 ∧ t.gather.reason = k ∧ t.gather.shadow = none ∧ t.binding.live = s.binding.live ∧
      Reported evGathering 2 t
    (s.binding.reader.found = none → rejected s.binding.reader.firstReason) ∧
    ∀ c, s.binding.reader.found = some c →
      (bootChanged (live s) c.folios = true → rejected 0x43) ∧
      (bootChanged (live s) c.folios = false → ∀ k, s.binding.reader.leafFailed = some k → rejected k) ∧
      (bootChanged (live s) c.folios = false → s.binding.reader.leafFailed = none →
        (∀ i e, badHeader s c (s.gather.entry.getD 0) = some (i, e) → rejected 0x47) ∧
        (badHeader s c (s.gather.entry.getD 0) = none →
          (s.binding.reader.calReason ≠ 0 → rejected s.binding.reader.calReason) ∧
          (s.binding.reader.calReason = 0 → calUnfit s c = true → rejected rConsistency) ∧
          (s.binding.reader.calReason = 0 → calUnfit s c = false →
            (stitchNeed s c ≤ roomBlocks s.pens → ∃ t, exec .stitchValidated s = .next t ∧ t.gather.state = .decode ∧
              t.gather.shadow = some c ∧ t.gather.changed = changedItems (live s) c.folios ∧
              t.gather.entry = s.gather.entry ∧ t.gather.dark = s.gather.dark ∧ t.binding = s.binding) ∧
            (roomBlocks s.pens < stitchNeed s c →
              fbit (live s) gatherNoDark = true ∨
                roomBlocks s.pens + droppableBlocks (holdStitch c s.gather.entry s) < stitchNeed s c → rejected 0x44) ∧
            (roomBlocks s.pens < stitchNeed s c → fbit (live s) gatherNoDark = false →
              stitchNeed s c ≤ roomBlocks s.pens + droppableBlocks (holdStitch c s.gather.entry s) →
              ∃ t, exec .stitchValidated s = .next t ∧ t.gather.state = .validate ∧ t.gather.shadow = some c ∧
                t.gather.dark = true ∧ t.gather.bridgeDue = true ∧ t.binding = s.binding))))

/-- 07 R162, R164, R165: the decode step ends in the wait for its swap when nothing must ramp, in the wait for the bridge's start when
something must, and in the ramps when it ran in the dark; past its limit the gathering is rolled back, through RESTORE from the
dark. -/
def Obligations.DecodeStepEnds : Prop :=
  (∀ s : State, sysRuns s = true → decodeComplete s = true →
    (s.gather.state = .decode → s.gather.changed = [] →
      exec .stitchDecodeDone s = .next { s with gather := { s.gather with state := .swapWait } }) ∧
    (s.gather.state = .decode → s.gather.changed ≠ [] →
      exec .stitchDecodeDone s = .next { s with gather := { s.gather with bridgeDue := true } }) ∧
    (s.gather.state = .darkDecode → ∀ c, s.gather.shadow = some c → ∃ t, exec .stitchDecodeDone s = .next t ∧
      t.gather = { s.gather with
        state := .ramp, latched := none, ramping := s.gather.changed.filter fun i => !atOnce s c.folios i } ∧
      t.binding = s.binding ∧ t.codec = s.codec ∧ t.pens = s.pens)) ∧
  ∀ s : State, sysRuns s = true → s.gather.bridgeDue = false →
    (s.gather.state = .decode → ∃ t, exec .decodeLimitExpired s = .next t ∧ t.gather.state = .closed ∧
      t.gather.outcome = 3 ∧ t.gather.reason = 0x45 ∧ t.gather.shadow = none ∧ t.binding.live = s.binding.live ∧
      Reported evGathering 3 t) ∧
    (s.gather.state = .darkDecode → ∃ t, exec .decodeLimitExpired s = .next t ∧ t.binding.live = s.binding.live ∧
      (t.gather.state = .restore ∧ t.gather.backReason = 0x45 ∨
        t.gather.state = .closed ∧ t.gather.outcome = 3 ∧ t.gather.reason = 0x45 ∧ Reported evGathering 3 t))

/-- 07 R165, R167, R169, R178: an item that converges leaves the ramps, and the last one of a RESTORE ends it with the reason that began
it; past `GATHER.BRIDGE_MAX` the ramps go back; a failed re-decode is tried again when `ABORT_N` is high, and ends when its leaves are held,
to be shown at the lead port's next frame boundary. -/
def Obligations.RampsConvergeOrReturn : Prop :=
  (∀ (i : SItem) (xs : List Int) (s : State), running s = true → i ∈ s.gather.ramping → itemConverges s xs i = true →
    s.gather.restoring = false →
    (s.gather.state = .ramp → exec (.sItemConverged ⟨i, xs⟩) s =
      .next { s with gather := { s.gather with ramping := s.gather.ramping.filter (· != i) } }) ∧
    (s.gather.state = .restore → s.gather.restoreDue = false → s.gather.ramping = [i] →
      ∃ t, exec (.sItemConverged ⟨i, xs⟩) s = .next t ∧ t.gather.state = .closed ∧ t.gather.outcome = 3 ∧
        t.gather.reason = s.gather.backReason ∧ t.binding.live = s.binding.live ∧ Reported evGathering 3 t)) ∧
  (∀ s : State, sysRuns s = true → s.gather.state = .ramp →
    ∃ t, exec .bridgeLimitExpired s = .next t ∧ t.binding.live = s.binding.live ∧
      (t.gather.state = .restore ∧ t.gather.backReason = 0x46 ∧ (∀ i ∈ t.gather.ramping, i ∈ s.gather.changed) ∨
        t.gather.state = .closed ∧ t.gather.outcome = 3 ∧ t.gather.reason = 0x46 ∧ Reported evGathering 3 t)) ∧
  ∀ s : State, sysRuns s = true → s.gather.restoreFailed = true → s.gather.state = .closed →
    (s.pins.abortLow = true → exec .restoreRetry s = .next { s with gather := { s.gather with retryDue := true } }) ∧
    (s.pins.abortLow = false → restoreJobs s = true → exec .restoreRetry s = .next s) ∧
    (s.pins.abortLow = false → restoreJobs s = false → leavesHeld s s.binding.live (shownLeaves s) = true →
      ∃ t, exec .restoreRetry s = .next t ∧
        t.gather = { s.gather with restoreFailed := false, reshowDue := (leadPort s).isSome }) ∧
    (s.pins.abortLow = false → restoreJobs s = false → leavesHeld s s.binding.live (shownLeaves s) = false →
      ∃ t, exec .restoreRetry s = .next t ∧ t.gather = s.gather ∧ restoreJobs t = true)

/-- 07 R171, R176 to R178, 10 R253: an abort empties both lanes, marks the canvas frame under way to be discarded and frees its pens, and
rolls a gathering back, inside a bridge through RESTORE, which a RESTORE under way takes as its reason; `READY` waits only for it to be
complete; at its release what was put off takes place. -/
def Obligations.AbortStopsAndReleases : Prop :=
  (∀ (n r : Nat) (s : State), sysRuns s = true → s.pins.abortLow = false → 40 ≤ n →
    ∃ t, exec (.abort ⟨n, r⟩) s = .next t ∧ t.pins = { s.pins with abortLow := true } ∧ t.gather.aborting = true ∧
      ready t = false ∧ t.canvas.job = none ∧ t.canvas.frame = s.canvas.frame.map (fun f => { f with pens := [], aborted := true }) ∧
      t.binding.live = s.binding.live ∧
      (s.gather.state = .restore → t.gather.state = .restore ∧ t.gather.backReason = 0x42) ∧
      (s.gather.state = .closed → t.gather.state = .closed ∧ t.gather.outcome = s.gather.outcome ∧
        t.codec.running = none ∧ t.codec.queue = [] ∧ t.codec.atRequester = [] ∧ t.codec.preload = []) ∧
      (s.gather.state = .opened ∨ s.gather.state = .validate ∨ s.gather.state = .decode ∨ s.gather.state = .swapWait →
        t.gather.state = .closed ∧ t.gather.outcome = 3 ∧ t.gather.reason = 0x42 ∧ Reported evGathering 3 t) ∧
      (s.gather.state = .ramp ∨ s.gather.state = .darkDecode →
        t.gather.state = .restore ∧ t.gather.backReason = 0x42 ∨
          t.gather.state = .closed ∧ t.gather.outcome = 3 ∧ t.gather.reason = 0x42 ∧ Reported evGathering 3 t)) ∧
  (∀ s : State, sysRuns s = true → s.gather.aborting = true →
    exec .abortComplete s = .next { s with gather := { s.gather with aborting := false } }) ∧
  ∀ s : State, running s = true → s.pins.abortLow = true →
    (s.cart.retryDue = false → s.cart.expiredDue = false → s.pack.expiredDue = false → s.gather.restoreDue = false →
      s.gather.retryDue = false → s.codec.preloadDue = false → exec .abortRelease s = .next { s with pins := { s.pins with abortLow := false } }) ∧
    (s.cart.retryDue = true → s.cart.expiredDue = false → s.cart.chatter = false →
      ∃ t, exec .abortRelease s = .next t ∧ t.pins = { s.pins with abortLow := false } ∧
        t.cart = { s.cart with retryDue := false, retry := true }) ∧
    (s.cart.retryDue = false → s.cart.expiredDue = true → s.cart.present = true → mayQualify s = true →
      ∃ t, exec .abortRelease s = .next t ∧ t.cart.step = .code ∧ t.cart.expiredDue = false)

/-! The lanes and the pens (08, 09). -/

/-- 08 R198, R200, 09 R209, R210, R212: the front job of the first lane takes free blocks and reads its leaf; a leaf that a pen holds
already is not decoded again, and one without room is refused; a pen that no reader waits for and no transaction addresses is freed. -/
def Obligations.LeafJobsStart : Prop :=
  (∀ (header : List Byte) (j : Job) (rest : List Job) (s : State), sysRuns s = true → busFree s = true →
    s.codec.running = none → s.codec.queue = j :: rest → j.requester = .pattern → j.joined = [] → j.kind < 3 →
    j.fromTwin = false →
    (∀ i, penWith s (jobKey j) = some i → ∃ t, exec (.leafJobStart header) s = .next t ∧ t.codec.running = none ∧
      t.pens = s.pens ∧ t.select = s.select) ∧
    (penWith s (jobKey j) = none → leafHeaderError (limitsOf s j) header j.leafLength = none →
      (leafOutSpace header ≤ (freeBlocks s.pens).length → penOf s s.pens.next = none →
        ∃ t q, exec (.leafJobStart header) s = .next t ∧
          t.codec.running = some { j with pen := some s.pens.next, started := true } ∧
          penOf t s.pens.next = some q ∧ q.state = .filling ∧ q.kind = penKindOf j.kind ∧
          q.blocks.length = leafOutSpace header ∧ (∀ b ∈ q.blocks, b ∈ freeBlocks s.pens) ∧ q.blocks.Nodup ∧
          t.mem.issued = readCommands s.mem.mode (fnat (live s) memportReadChunk) (jobSpans s j) ∧ t.select = s.select) ∧
      (roomBlocks s.pens < leafOutSpace header → reclaimable s = [] →
        ∃ t, exec (.leafJobStart header) s = .next t ∧ t.codec.running = none ∧ t.pens = s.pens ∧
          t.select = (refusePending j.entry s).select ∧
          Reported evNoRoom (leafOutSpace header - roomBlocks s.pens) t))) ∧
  (∀ (header : List Byte) (s : State), nextJob s = none → exec (.leafJobStart header) s = .next s) ∧
  ∀ (i : Nat) (q : Pen) (s : State), running s = true → penOf s i = some q → q.state = .retiring → q.waitA = false →
    q.waitB = false → q.waitLamp = false → busyPen s q = false →
    ∃ t, exec (.penFreed i) s = .next t ∧ t.pens.list = s.pens.list.filter (·.1 != i)

/-- 08 R184, R199, R201, 06 R144, 04 R84: a leaf that passes its checks, those of the configuration that its job was requested under, is
published in its pen; a codec error frees the pen, names the error and drops the selection; a failed read, as every one is that ends
without `VDDIO_M` (02 R31), is repeated. A cartridge's block that passes comes into force, one that fails its checks ends the
qualification. -/
def Obligations.LeafJobsPublish : Prop :=
  (∀ (data trailer : List Byte) (ok : Bool) (j : Job) (i : Nat) (s : State), sysRuns s = true → busFree s = true →
    s.codec.running = some j → j.started = true → j.kind < 3 → j.requester = .pattern → j.joined = [] → j.pen = some i →
    let reason := itemReason s.fuses j.src 0 j.leaf j.crc data trailer (ok && s.supply.ringM)
    (∀ img, reason = 0 → decodeLeaf (limitsOf s j) data = .ok img →
      ∃ t, exec (.leafJobEnd data trailer ok) s = .next t ∧ t.codec.running = none ∧ t.select = s.select ∧
        penOf t i = (penOf s i).map fun q =>
          { q with state := .standby, image := img, block := [], shownAt := s.keeper.ticks }) ∧
    (∀ e, reason = 0 → decodeLeaf (limitsOf s j) data = .error e →
      ∃ t, exec (.leafJobEnd data trailer ok) s = .next t ∧ t.codec.running = none ∧ penOf t i = none ∧
        t.codec.lastError = e.1 ∧ t.select = (refusePending j.entry s).select ∧ Reported evCodecError j.leaf t) ∧
    (reason ≠ 0 → j.fromTwin = false → j.repeats < fnat (live s) memportRetry →
      ∃ t, exec (.leafJobEnd data trailer ok) s = .next t ∧ penOf t i = none ∧ t.select = s.select ∧
        t.codec.running = some { j with pen := none, started := false, repeats := j.repeats + 1, lastReason := reason })) ∧
  ∀ (block trailer : List Byte) (ok : Bool) (j : Job) (i : Nat) (s : State), sysRuns s = true → busFree s = true →
    s.codec.running = some j → j.started = true → j.kind = 3 → j.requester = .calibration → j.joined = [] → j.pen = some i →
    s.cart.step = .calibration → s.cart.code = j.leaf →
    itemReason s.fuses j.src 1 j.leaf j.crc block trailer (ok && s.supply.ringM) = 0 →
    (calRangeOk j.src.folios block = true → calFits s j.src.folios block = true →
      ∃ t, exec (.calibrationLoadDone block trailer ok) s = .next t ∧ t.codec.running = none ∧ t.emit.cal = block ∧
        t.emit.calCode = j.leaf ∧ ∀ l ∈ t.emit.lasers, l.armed = true) ∧
    (calRangeOk j.src.folios block = false ∨ calFits s j.src.folios block = false →
      ∃ t, exec (.calibrationLoadDone block trailer ok) s = .next t ∧ t.codec.running = none ∧ t.emit.cal = s.emit.cal ∧
        t.cart.step = .idle ∧ t.cart.qualified = false ∧ t.cart.fails = s.cart.fails + 1)

/-! The bus matrix (09). -/

/-- 09 R216 to R219, R221 to R224: a decision ends the burst that held the path and samples the levels. With no lock held it then grants an
eligible request of the highest urgency, the first in round-robin order after the pointer, and the pointer moves to its master; while a lock
is held nothing but its holder is granted; a breach of the rules of locked sequences ends its sequence with an error response. A read takes
the target's data. 09 R220, 13 R321: what no target takes goes to T7, which gives M0 to M2 zeros, counted, and resets the lane of the
control engine whose M6 sent one. While the host holds the bus no burst at T6 ends (R228). -/
def Obligations.ArbiterGrantsTheUrgent : Prop :=
  ∀ (target : Nat) (levels : MatrixLevels) (reqs : List MatrixReq) (s : State), sysRuns s = true → target < 8 →
    s.matrix.arbiters.length = 8 → s.matrix.answers.length = 8 → (∀ r ∈ reqs, r.master < 8) →
    let u := sampleLevels levels (completeBurst target s)
    let urgency := urgencyOf (live s) u.matrix.raised0 u.matrix.raised1 u.matrix.levels
    let here := eligible u target (outstanding u reqs)
    let ptr := (arbiterAt s target).ptr
    (target = 6 → s.mem.ackLow = true → exec (.arbiterDecision target levels reqs) s = .next s) ∧
    (target ≠ 6 ∨ s.mem.ackLow = false →
      (here = [] → exec (.arbiterDecision target levels reqs) s = .next u) ∧
      ((∀ r ∈ here, breachAt target u r = none) →
        (lockAt s target = none → here ≠ [] → ∃ t r d, exec (.arbiterDecision target levels reqs) s = .next t ∧ r ∈ here ∧
          d < 8 ∧ (∀ q ∈ here, urgency q ≤ urgency r) ∧ r.master = (ptr + 1 + d) % 8 ∧
          (∀ q ∈ here, ∀ e < d, q.master = (ptr + 1 + e) % 8 → urgency q < urgency r) ∧
          t.matrix.granted = some (r.master, target, r.addr) ∧ (arbiterAt t target).ptr = r.master ∧
          (target < 6 → r.bad = none → lockAt t target = lockWith none r ∧
            (arbiterAt t target).burst = some { request := r, data := if r.write then [] else readBeats u [] r } ∧
            ∀ k, k ≠ target → arbiterAt t k = arbiterAt s k) ∧
          (target = 7 → t.matrix.decodeError = some (r.master, targetOf r.addr, r.addr)) ∧
          (target = 7 → r.master < 3 → t.matrix.decodeErrors = modAt s.matrix.decodeErrors r.master satInc ∧
            t.matrix.answers.getD r.master none = some { id := r.id, error := false, data := List.replicate r.beats 0 }) ∧
          (target = 7 → r.master = 6 → s.keeper.domains.length = 9 →
            domainHeld t (if r.lane = .a then .loopA else .loopB) = true)) ∧
        ∀ l, lockAt s target = some l →
          ((∀ r ∈ here, ofLock l r = false) → exec (.arbiterDecision target levels reqs) s = .next u) ∧
          ((∃ r ∈ here, ofLock l r = true) → ∃ t r, exec (.arbiterDecision target levels reqs) s = .next t ∧ r ∈ here ∧
            ofLock l r = true ∧ t.matrix.granted = some (r.master, target, r.addr) ∧
            (target < 6 → r.bad = none → lockAt t target = lockWith (some l) r))) ∧
      ∀ r k, (here.find? fun q => (breachAt target u q).isSome) = some r → breachAt target u r = some k → target < 7 →
        ∃ t, exec (.arbiterDecision target levels reqs) s = .next t ∧ lockAt t k = none ∧ t.matrix.cells = u.matrix.cells ∧
          t.matrix.tables = u.matrix.tables ∧ (∃ n, Reported evLockError n t) ∧
          t.matrix.answers.getD r.master none = some { id := r.id, error := true, data := [] })

/-- 09 R217, R219, R223 to R225: the response to a burst returns when it is over, and a write is then in the memory, with the bytes that its
strobes select. An unlock writes the whole journal, the latest write of each address winning, and every other address keeps its contents; a
breach ends the lock with the contents it found and an error response, and is reported. -/
def Obligations.LockedWritesArriveWhole : Prop :=
  let latest := fun (l : List Host.Cell) (a : Nat) (b : Byte) => ((l.reverse.find? fun c => c.1 == a).map (·.2)).getD b
  let separate := fun (s : State) => BlocksOk s.pens ∧ (s.pens.list.map (·.1)).Nodup
  (∀ (target : Nat) (levels : MatrixLevels) (b : Burst) (s : State), sysRuns s = true → target < 6 →
    s.matrix.arbiters.length = 8 → s.matrix.answers.length = 8 → b.request.master < 8 → b.dropped = false →
    (arbiterAt s target).burst = some b →
    ∃ t, exec (.arbiterDecision target levels []) s = .next t ∧ (arbiterAt t target).burst = none ∧
      t.matrix.answers.getD b.request.master none = some { id := b.request.id, error := false, data := b.data } ∧
      (separate s → ∀ a, targetOf a < 6 → readByte t a =
        if b.request.write && !b.request.lock then latest (writeBytes b.request) a (readByte s a) else readByte s a)) ∧
  (∀ (target : Nat) (l : LockState) (s : State), sysRuns s = true → s.matrix.arbiters.length = 8 →
    s.matrix.answers.length = 8 → l.master < 8 → lockAt s target = some l →
    (∃ t, exec (.lockUnlock target) s = .next t ∧ lockAt t target = none ∧
      (separate s → (∀ b, (arbiterAt s target).burst = some b → b.request.write = true → b.request.lock = true) →
        ∀ a, targetOf a < 6 → readByte t a = latest l.journal a (readByte s a))) ∧
    ∀ b m k, ∃ t, exec (.lockError target b m k) s = .next t ∧ lockAt t target = none ∧ t.matrix.cells = s.matrix.cells ∧
      t.matrix.tables = s.matrix.tables ∧ t.pens = s.pens ∧ Reported evLockError (16 * l.master + target) t ∧
      t.matrix.answers.getD l.master none = some { id := l.id, error := true, data := [] }) ∧
  ∀ (target m : Nat) (k : Lane) (s : State), sysRuns s = true → lockAt s target = none → s.matrix.answers.length = 8 →
    target = 6 ∨ target = 7 → m = 6 ∨ m = 7 →
    ∃ t, exec (.lockError target .badTarget m k) s = .next t ∧ t.matrix.cells = s.matrix.cells ∧ lockAt t target = none ∧
      (∃ a, t.matrix.answers.getD m none = some a ∧ a.error = true) ∧ Reported evLockError (16 * m + target) t

/-! The picture (10, 11). -/

/-- 10 R242, R243, 07 R172, R178: a strobe is counted and ignored before the service, at an unused entry, and where it needs a decode that
is refused; on a halted head it does nothing; the entry shown clears what is pending, or after a stitch request waits for the outcome; any
other becomes pending, with every leaf it lacks asked of the lanes. -/
def Obligations.SelectionsBecomePending : Prop :=
  ∀ (n : Nat) (e : BitVec 6) (s : State), running s = true → domainHeld s .sys = false → 50 ≤ n →
    s.gather.restoreFailed = false →
    let counted := fun (c : Beacon) => { c with pstbIgnored := satInc c.pstbIgnored }
    let lacks := missingLeaves s (entryLeaves s s.binding.live e.toNat)
    (s.core.halted = true → exec (.patternSelect e n) s = .next s) ∧
    (s.core.service = false → s.core.halted = false →
      exec (.patternSelect e n) s = .next { s with beacon := counted s.beacon }) ∧
    (s.core.service = true → s.core.halted = false →
      (entryUsed s.binding.live e.toNat = false → ∃ t, exec (.patternSelect e n) s = .next t ∧ t.select = s.select ∧
        t.codec = s.codec ∧ t.beacon.patternEmpty = satInc s.beacon.patternEmpty ∧ Reported evPatternEmpty e.toNat t) ∧
      (entryUsed s.binding.live e.toNat = true →
        (shownEntry s = some e.toNat →
          exec (.patternSelect e n) s =
            .next { s with select := { s.select with pending := if stitchSeen s then some e.toNat else none } }) ∧
        (shownEntry s ≠ some e.toNat → lacks ≠ [] → decodeRefused s = true →
          exec (.patternSelect e n) s = .next { s with beacon := counted s.beacon }) ∧
        (shownEntry s ≠ some e.toNat → lacks = [] ∨ decodeRefused s = false → ∃ t, exec (.patternSelect e n) s = .next t ∧
          t.select = { s.select with pending := some e.toNat } ∧ t.pens = s.pens ∧ t.portA = s.portA ∧ t.portB = s.portB ∧
          ∀ i ∈ lacks, let k := leafOf s.binding.live i
            ∃ j ∈ laneJobs t, j.leafLength = k.length ∧ j.crc = k.crc ∧ j.kind = k.kind)))

/-- 10 R244, R251: at the latch point a port takes the pending entry whose leaves for it are held, port B only behind a running port
A; what it shows stays until the boundary. It takes the latest live frame published for it. -/
def Obligations.LatchPointTakesThePending : Prop :=
  ∀ (p : Port) (s : State), sysRuns s = true → (portOf s p).raster = true → (s.pens.list.map (·.1)).Nodup →
    ∃ t, exec (.latchPoint p) s = .next t ∧ (portOf t p).pastLatch = true ∧ (portOf t p).shown = (portOf s p).shown ∧
      (portOf t p).guideShown = (portOf s p).guideShown ∧ t.select.pending = s.select.pending ∧
      (portOf t p).liveTaken =
        ((s.pens.list.filter fun e => e.2.kind == .live && e.2.port == p && e.2.state == .standby).map (·.1)).getLast? ∧
      (∀ e, takeable s = some e → (portOf s p).shown ≠ some e →
        leavesHeld s s.binding.live (portLeaves s.binding.live e p) = true →
        p = .a ∨ s.portA.raster = false ∨ s.portA.shown = some e →
        (portOf t p).taken = some e ∧ (portOf t p).guideTaken = livePenFor s (guideLeaf s.binding.live e p) ∧
          (portOf t p).signalTaken = livePenFor s (signalLeaf s.binding.live e p) ∧ t.select.current = some e) ∧
      (∀ e, takeable s = some e → (portOf s p).shown ≠ some e →
        leavesHeld s s.binding.live (portLeaves s.binding.live e p) = false ∨
          p = .b ∧ s.portA.raster = true ∧ s.portA.shown ≠ some e →
        (portOf t p).taken = (portOf s p).taken ∧ t.select.current = s.select.current)

/-- 10 R244, 11 R268, R274: at its frame boundary a port shows what it took, the selection ends when every running port shows it, and
the gate opens when nothing forbids light and closes, with its channels dark, when guide light is not allowed. The lead port's boundary ends
the wait that a RESTORE or its retry leaves (07 R167, R169). While `CK_SYS` is held in reset the frame turns over behind a closed gate, and
what is shown stays (04 R77). -/
def Obligations.FrameBoundaryShowsTheTaken : Prop :=
  (∀ (p : Port) (s : State), running s = true → s.core.halted = false → (portOf s p).raster = true →
    domainHeld s .sys = true →
    ∃ t, exec (.frameBoundary p) s = .next t ∧ (portOf t p).frames = (portOf s p).frames + 1 ∧ gateOpen t p = false ∧
      (portOf t p).shown = (portOf s p).shown ∧ (portOf t p).liveShown = (portOf s p).liveShown ∧ t.select.pending = s.select.pending ∧
      t.gather = s.gather ∧ t.canvas = s.canvas) ∧
  (∀ (p : Port) (s : State), running s = true → s.core.halted = false → (portOf s p).raster = true →
    domainHeld s .sys = false → s.gather.state = .closed → s.gather.bridgeDue = false → s.gather.restoring = false →
    leadPort s = some p →
    ∃ t, exec (.frameBoundary p) s = .next t ∧ t.gather.relight = false ∧ t.gather.reshowDue = false) ∧
  ∀ (p : Port) (s : State), running s = true → s.core.halted = false → (portOf s p).raster = true →
    s.gather.state = .closed → s.gather.bridge = false → s.gather.bridgeDue = false → s.gather.restoring = false →
    s.gather.relight = false → s.gather.reshowDue = false →
    (portOf s p).checkPassed = false → domainHeld s .sys = false →
    ∃ t, exec (.frameBoundary p) s = .next t ∧ (portOf t p).frames = (portOf s p).frames + 1 ∧
      (portOf t p).fbLine = (portOf s p).nextFb ∧ (portOf t p).fields = live s ∧ (portOf t p).pastLatch = false ∧
      (∀ e, (portOf s p).taken = some e → (portOf t p).shown = some e ∧
        (portOf t p).guideShown = (portOf s p).guideTaken ∧ (portOf t p).signalShown = (portOf s p).signalTaken ∧
        (portOf t p).taken = none ∧
        (s.select.pending = some e → (portOf s (otherPort p)).raster = false ∨ (portOf s (otherPort p)).shown = some e →
          t.select.pending = none)) ∧
      ((portOf s p).taken = none → (portOf t p).shown = (portOf s p).shown ∧
        (portOf t p).guideShown = (portOf s p).guideShown) ∧
      (guideAllowed s = true → s.supply.vmir = true → portServes s p = true → (portOf s p).wheel.timeline = true →
        s.jtag.instr ≠ .extest → domainHeld s .edge = false → domainHeld s (portDomain p) = false → gateOpen t p = true) ∧
      (guideAllowed s = false → gateOpen t p = false ∧
        ∀ l ∈ t.emit.lasers, l.assigned = some p → l.level = 0 ∧ l.code = 0)

/-- 11 R261, R263 to R265: the render stage begins line n no earlier than three lines before it, skips it when the line before has begun,
composes it otherwise, and moves on to line n + 1; while it holds events it only tests them again. The position it sees is the port's own of
some stalls ago. -/
def Obligations.RenderStageKeepsItsOrder : Prop :=
  ∀ (p : Port) (lag : Nat) (moves : List Nat) (missing : List (Layer × Nat)) (s : State), sysRuns s = true →
    (portOf s p).raster = true → (portOf s p).wheel.clearing = false →
    let w := (portOf s p).wheel
    let seen := w.position - BitVec.ofNat 32 lag
    (w.held = [] → reached seen (lineStart w.nextLine - 12288#32) = false →
      exec (.renderLine p lag moves missing) s = .next s) ∧
    (w.held = [] → reached seen (lineStart w.nextLine - 12288#32) = true →
      reached seen (lineStart w.nextLine - 4096#32) = true →
      ∃ t, exec (.renderLine p lag moves missing) s = .next t ∧ (portOf t p).wheel.nextLine = w.nextLine + 1 ∧
        (portOf t p).wheel.ring = w.ring ∧ (portOf t p).wheel.complete.head? = some (lineMod w.nextLine) ∧
        (portOf t p).wheel.counters.lineSkipped = satInc w.counters.lineSkipped) ∧
    (w.held = [] → reached seen (lineStart w.nextLine - 12288#32) = true →
      reached seen (lineStart w.nextLine - 4096#32) = false →
      ∃ t, exec (.renderLine p lag moves missing) s = .next t ∧ (portOf t p).wheel.nextLine = w.nextLine + 1 ∧
        ((lineRole (portOf s p) p w.nextLine).2 = none → (portOf t p).wheel.ring = w.ring) ∧
        ((portOf t p).wheel.held = [] → (portOf t p).wheel.complete.head? = some (lineMod w.nextLine))) ∧
    (w.held ≠ [] → ∃ t, exec (.renderLine p lag moves missing) s = .next t ∧ (portOf t p).wheel.nextLine = w.nextLine ∧
      (portOf t p).lines = (portOf s p).lines)

/-- 11 R275, 16 R377, R378: too many late events are reported, and close the gate where the binding says so; a stale line posts level 0
to every channel of its port, and enough of them reset `CK_SYS`; a stale live layer is reported. -/
def Obligations.LateLightIsStopped : Prop :=
  (∀ (p : Port) (s : State), running s = true → (portOf s p).raster = true →
    fnat (portOf s p).fields wheelLateLimit < (portOf s p).wheel.frameDrops → (portOf s p).wheel.lateReported = false →
    ∃ t, exec (.wheelLate p) s = .next t ∧ (portOf t p).wheel.lateReported = true ∧ Reported evWheelLate (portNum p) t ∧
      (fbit (portOf s p).fields wheelLateDark = true → gateOpen t p = false ∧ (portOf t p).wheel.lateDark = true ∧
        ∀ l ∈ t.emit.lasers, l.assigned = some p → l.level = 0 ∧ l.code = 0) ∧
      (fbit (portOf s p).fields wheelLateDark = false → gateOpen t p = gateOpen s p ∧ t.emit = s.emit)) ∧
  (∀ (p : Port) (s : State), running s = true → (portOf s p).raster = true →
    (portOf s p).wheel.complete.contains ((portOf s p).wheel.position.toNat / 4096) = false →
    (portOf s p).wheel.staleRun + 1 < fnat (portOf s p).fields integrityCompStale →
    ∃ t, exec (.composeStaleLine p) s = .next t ∧ (portOf t p).wheel.staleRun = (portOf s p).wheel.staleRun + 1 ∧
      (∀ c ∈ portChannels s p, (c, 0) ∈ (portOf t p).wheel.lateSlots) ∧ Reported evComposeStale (16 * portNum p) t ∧
      t.keeper = s.keeper) ∧
  (∀ (p : Port) (s : State), running s = true → (portOf s p).raster = true → s.keeper.domains.length = 9 →
    (portOf s p).wheel.complete.contains ((portOf s p).wheel.position.toNat / 4096) = false →
    fnat (portOf s p).fields integrityCompStale ≤ (portOf s p).wheel.staleRun + 1 → domainHeld s .sys = false →
    ∃ t, exec (.composeStaleLine p) s = .next t ∧ (domainOf t .sys).held = true ∧ gateOpen t .a = false ∧
      gateOpen t .b = false) ∧
  ∀ (p : Port) (s : State), sysRuns s = true → (portOf s p).raster = true → fbit (live s) canvasEnable = true →
    fnat (portOf s p).fields integrityLiveStale ≠ 0 → (portOf s p).liveSeen = true → (portOf s p).liveStale = false →
    ∃ t, exec (.liveStale p) s = .next t ∧ portOf t p = { portOf s p with liveStale := true } ∧
      Reported evLiveStale (portNum p) t

/-- 11 R261, R267, R269, R272, R273, R276: the fetch stage moves on by one stall, reads the stall eight ahead and fires what is due; a
cleared ring is empty; a timeline becomes valid once 8,192 stalls are measured; without the delay loops the edges fall on whole ticks. -/
def Obligations.StallFetchAdvances : Prop :=
  (∀ (p : Port) (anchor : Nat) (flips : List (Nat × Nat)) (s : State), running s = true → (portOf s p).raster = true →
    (portOf s p).phase = .locked →
    let w := (portOf s p).wheel
    ∃ t, exec (.stallFetch p ⟨anchor, flips⟩) s = .next t ∧
      (portOf t p).wheel.position = (if w.fresh then w.position else w.position + 1) ∧
      (portOf t p).wheel.fresh = false ∧ portOf t (otherPort p) = portOf s (otherPort p) ∧
      (∀ e ∈ (portOf t p).wheel.queue, reached (portOf t p).wheel.position (BitVec.ofNat 32 e.1) = false) ∧
      (∀ x ∈ (portOf t p).wheel.ring, x.channel ∈ portChannels s p →
        x.slot ≠ ((portOf t p).wheel.position + 8#32).toNat % 32768) ∧
      (domainHeld s .edge = false → (portOf t p).wheel.position.toNat % 64 = 0 →
        (portOf t p).wheel.anchors.head? = some ((portOf t p).wheel.position.toNat, anchor))) ∧
  (∀ (p : Port) (s : State), running s = true → (portOf s p).wheel.clearing = true →
    ∃ t, exec (.ringCleared p) s = .next t ∧ (portOf t p).wheel.ring = [] ∧
      ((portOf s p).phase ≠ .locked ∨ (portOf s p).raster = true →
        portOf t p = { portOf s p with wheel := { (portOf s p).wheel with ring := [], lateSlots := [], clearing := false } }) ∧
      ((portOf s p).phase = .locked → (portOf s p).raster = false →
        slowRateOk (portOf s p).vertFields p (lockedHz (portOf s p)) = true →
        (portOf t p).raster = true ∧ (portOf t p).frames = 0 ∧ (portOf t p).wheel.nextLine = 0 ∧
          (portOf t p).wheel.position = 0)) ∧
  (∀ (p : Port) (s : State), running s = true → (portOf s p).raster = true → (portOf s p).wheel.timeline = false →
    domainHeld s .edge = false →
    ((stallPeriod (portOf s p).wheel).isSome = true →
      exec (.timelineValid p) s = .next (updWheel s p fun w => { w with timeline := true })) ∧
    (stallPeriod (portOf s p).wheel = none → exec (.timelineValid p) s = .next s)) ∧
  (∀ s : State, running s = true → s.core.plls = true →
    ∃ t, exec (.dllLockLost none) s = .next t ∧ Reported evDllCoarse 0 t ∧ ∀ p c, wholeTicks t p c = true) ∧
  ∀ (c : Nat) (s : State), running s = true → s.core.plls = true → c < s.emit.trims.length →
    (nth s.emit.trims c = 0 ∨ 31 ≤ nth s.emit.trims c →
      ∃ t, exec (.dllLockLost (some c)) s = .next t ∧ (∀ p, wholeTicks t p c = true) ∧ t.emit.dllLost = s.emit.dllLost) ∧
    (0 < nth s.emit.trims c → nth s.emit.trims c < 31 → exec (.dllLockLost (some c)) s = .next s)

/-- 10 R247 to R253: a clock period adds a byte, the rising edge's half first, or marks a full queue; a header that passes takes a FREE live
pen of every port it names; a frame that fails a check is discarded with the first reason that applies, and its pens are freed; one that
passes is published in its pens, or given to the canvas lane; the lane's end publishes or discards. -/
def Obligations.CanvasFramesAreChecked : Prop :=
  let byte := fun (e : CvsPeriod) => BitVec.ofNat 8 (16 * e.rise + e.fall)
  let discarded := fun (pens : List Nat) (seq k : Nat) (s t : State) =>
    t.canvas = { s.canvas with
      frame := none, fsLow := t.canvas.fsLow, discards := satInc s.canvas.discards, lastReason := k } ∧
      (∀ i ∈ pens, penOf t i = none) ∧ Reported evCanvasDiscard seq t
  let published := fun (pens : List Nat) (img : Image) (s t : State) =>
    ∀ i ∈ pens, penOf t i = (penOf s i).map fun q => { q with state := .standby, image := img }
  (∀ s : State, exec (.canvasFrame []) s = .next s) ∧
  (∀ (e : CvsPeriod) (l : List CvsPeriod) (s t : State), sysRuns s = true → domainHeld s .cvs = false →
    exec (.canvasFrame [e]) s = .next t → sysRuns t = true → domainHeld t .cvs = false →
    exec (.canvasFrame (e :: l)) s = exec (.canvasFrame l) t) ∧
  (∀ (e : CvsPeriod) (s : State), sysRuns s = true → domainHeld s .cvs = false → e.fs = true → s.canvas.frame = none →
    s.canvas.fsLow = true → e.full = false →
    exec (.canvasFrame [e]) s = .next { s with canvas := { s.canvas with
      fsLow := false
      frame := some { bytes := [byte e], enabled := s.core.folios && fbit (live s) canvasEnable, aborted := s.pins.abortLow } } }) ∧
  (∀ (e : CvsPeriod) (r : CanvasRx) (s : State), sysRuns s = true → domainHeld s .cvs = false → e.fs = true →
    s.canvas.frame = some r →
    (e.full = true → exec (.canvasFrame [e]) s =
      .next { s with canvas := { s.canvas with fsLow := false, frame := some { r with overflow := true } } }) ∧
    (e.full = false → r.bytes.length ≠ 15 → exec (.canvasFrame [e]) s =
      .next { s with canvas := { s.canvas with fsLow := false, frame := some { r with bytes := r.bytes ++ [byte e] } } }) ∧
    (e.full = false → r.bytes.length = 15 → r.enabled = true → r.aborted = false → (∀ x ∈ s.pens.list, x.1 < s.pens.next) →
      let h := r.bytes ++ [byte e]
      (fnat (live s) canvasAccept).testBit (cvsKind h % 2) = true → cvsHeaderOk h = true → cvsTargets s h ≠ [] →
      cvsCoded h = true ∨ rawShapeOk (cvsShape (live s)) h = true → cvsRoom s h = true →
      ∃ t k, exec (.canvasFrame [e]) s = .next t ∧ t.canvas.frame = some k ∧ k.bytes = h ∧ k.reason = 0 ∧
        k.pens.length = (cvsTargets s h).length ∧
        ∀ i ∈ k.pens, ∃ q, penOf t i = some q ∧ q.kind = .live ∧ q.state = .filling ∧ q.seq = cvsSeq h)) ∧
  (∀ (e : CvsPeriod) (r : CanvasRx) (s : State), sysRuns s = true → domainHeld s .cvs = false → e.fs = false →
    s.canvas.frame = some r →
    let h := r.bytes.take 16
    let payload := r.bytes.drop 16
    let n := payload.length - 4
    (cvsReason r ≠ 0 → ∃ t, exec (.canvasFrame [e]) s = .next t ∧ discarded r.pens (cvsSeq h) (cvsReason r) s t) ∧
    (cvsReason r = 0 → cvsCoded h = true → ∃ t, exec (.canvasFrame [e]) s = .next t ∧ t.canvas.frame = none ∧
      t.canvas.job = some { payload, seq := cvsSeq h, pens := r.pens, shape := r.shape, swapSeen := r.swapSeen } ∧
      t.canvas.discards = s.canvas.discards ∧ t.pens = s.pens) ∧
    (cvsReason r = 0 → cvsCoded h = false →
      (crc32c (payload.take n) ≠ rd payload n 4 →
        ∃ t, exec (.canvasFrame [e]) s = .next t ∧ discarded r.pens (cvsSeq h) 0x8A s t) ∧
      (crc32c (payload.take n) = rd payload n 4 → r.swapSeen = true →
        ∃ t, exec (.canvasFrame [e]) s = .next t ∧ discarded r.pens (cvsSeq h) 0x8C s t) ∧
      (crc32c (payload.take n) = rd payload n 4 → r.swapSeen = false →
        ∃ t, exec (.canvasFrame [e]) s = .next t ∧ t.canvas.frame = none ∧ t.canvas.discards = s.canvas.discards ∧
          published r.pens (rawImage r.shape (payload.take n)) s t))) ∧
  (∀ (ps : List CvsPeriod) (r : CanvasRx) (s : State), sysRuns s = true → (cvsReceive ps s).canvas.frame = some r →
    ∃ t, exec (.canvasFrameStalled ps) s = .next t ∧
      discarded r.pens (cvsSeq (r.bytes.take 16)) (if cvsReason r = 0 ∨ cvsReason r = 0x87 then 0x89 else cvsReason r)
        (cvsReceive ps s) t) ∧
  ∀ (j : CanvasJob) (s : State), sysRuns s = true → s.canvas.job = some j →
    (∀ e, decodeLeaf (canvasLimits j.shape) j.payload = .error e → ∃ t, exec .canvasJobEnd s = .next t ∧ t.canvas.job = none ∧
      t.canvas.lastReason = 0x8B ∧ t.codec.lastError = e.1 ∧ (∀ i ∈ j.pens, penOf t i = none) ∧
      Reported evCodecError 65535 t) ∧
    ∀ img, decodeLeaf (canvasLimits j.shape) j.payload = .ok img →
      (j.swapSeen = true → ∃ t, exec .canvasJobEnd s = .next t ∧ t.canvas.job = none ∧ t.canvas.lastReason = 0x8C ∧
        ∀ i ∈ j.pens, penOf t i = none) ∧
      (j.swapSeen = false → ∃ t, exec .canvasJobEnd s = .next t ∧ t.canvas.job = none ∧ published j.pens img s t)

/-! Mirror ports (12). -/

/-- 12 R282 to R291: a port starts phase by phase, from its check through kick, ring and capture to lock and its raster; a ring that
does not answer is kicked again at the next frequency, and a start that fails leaves the port coasting and reported. -/
def Obligations.MirrorStartsGoPhaseByPhase : Prop :=
  let failed := fun (p : Port) (s t : State) =>
    ((portOf s p).coilZ = 0 → coilsShorted t p = true) ∧ (portOf t p).phase = .coast ∧ (portOf t p).raster = false ∧ (portOf t p).driveW = 0 ∧
      gateOpen t p = false ∧ (portOf t p).down = true ∧ Reported evMirrorStartFailed (portNum p) t
  (∀ (p : Port) (s : State), sysRuns s = true → mayStart s p = true →
    ((s.cart.step = .mirror ∨ s.cart.step = .photodiodes ∨ s.cart.qualified = true) ∧ (portOf s p).served = false ∧
      (portOf s p).failedPhase = 0) ∨ (s.cart.qualified = true ∧ (portOf s p).restartDue = true) →
    (calFNom s.emit.cal p ≠ 0 → ∃ t, exec (.mirrorStart p) s = .next t ∧ (portOf t p).phase = .check ∧
      (portOf t p).fEst = estimateHz s p ∧ (portOf t p).kicks = 0 ∧ (portOf t p).mirrorFields = live s ∧
      t.cart = s.cart ∧ portOf t (otherPort p) = portOf s (otherPort p)) ∧
    (calFNom s.emit.cal p = 0 → ∃ t, exec (.mirrorStart p) s = .next t ∧ failed p s t)) ∧
  (∀ (p : Port) (mv : List Nat) (s : State), sysRuns s = true → (portOf s p).phase = .check →
    ((∀ v ∈ mv, 300 ≤ v ∧ v ≤ 1500) → s.supply.vmir = true →
      ∃ t, exec (.mirrorCheckDone p mv) s = .next t ∧ (portOf t p).phase = .kick ∧
      (portOf t p).kicks = 1 ∧ (portOf t p).fKick = kickHz s p 1 ∧ (portOf t p).driveW = kickWidth s p) ∧
    ((∃ v ∈ mv, v < 300 ∨ 1500 < v) ∨ s.supply.vmir = false →
      ∃ t, exec (.mirrorCheckDone p mv) s = .next t ∧ failed p s t)) ∧
  (∀ (p : Port) (s : State), running s = true → (portOf s p).phase = .kick →
    exec (.kickEnd p) s = .next (updPort s p fun q => { q with phase := .ring, driveW := 0 })) ∧
  (∀ (p : Port) (f counts : Nat) (s : State), running s = true → (portOf s p).phase = .ring →
    let a := ampOf s p counts
    (ringPasses s p f a = true → ∃ t, exec (.ringDone p f counts) s = .next t ∧ (portOf t p).phase = .capture ∧
      (portOf t p).fRing = f ∧ (portOf t p).dco = 8192 * f ∧ (portOf t p).driveW = kickWidth s p) ∧
    (ringPasses s p f a = false → (portOf s p).kicks < fnat (portOf s p).mirrorFields (mirrorSearchTries p) →
      ∃ t, exec (.ringDone p f counts) s = .next t ∧ (portOf t p).phase = .kick ∧ (portOf t p).kicks = (portOf s p).kicks + 1 ∧
        (portOf t p).fKick = kickHz s p ((portOf s p).kicks + 1)) ∧
    (ringPasses s p f a = false → fnat (portOf s p).mirrorFields (mirrorSearchTries p) ≤ (portOf s p).kicks →
      ∃ t, exec (.ringDone p f counts) s = .next t ∧ failed p s t)) ∧
  (∀ (p : Port) (f : Nat) (segs : List LockSegment) (s : State), running s = true → (portOf s p).phase = .capture →
    (hasLocked s p f segs = false → exec (.portLocked ⟨p, f, segs⟩) s = .next s) ∧
    (hasLocked s p f segs = true → (portOf s p).wheel.clearing = true → ∃ t, exec (.portLocked ⟨p, f, segs⟩) s = .next t ∧
      portOf t p = { portOf s p with phase := .locked, failedPhase := 0, fLock := f } ∧
      (s.cart.step = .mirror → t.cart.step = .photodiodes)) ∧
    (hasLocked s p f segs = true → (portOf s p).wheel.clearing = false →
      slowRateOk (portOf s p).vertFields p (lockedHz { portOf s p with fLock := f }) = true →
      ∃ t, exec (.portLocked ⟨p, f, segs⟩) s = .next t ∧ (portOf t p).phase = .locked ∧ (portOf t p).raster = true ∧
        (portOf t p).frames = 0 ∧ (portOf t p).wheel.position = 0 ∧ gateOpen t p = false)) ∧
  ∀ (p : Port) (s : State), running s = true → starting (portOf s p) = true →
    ∃ t, exec (.mirrorStartTimeout p) s = .next t ∧ failed p s t

/-- 12 R284, R292, R293: a mirror fault that a locked or starting port meets is reported and stops it, with its raster ended, its gate closed,
its drive at 0 and its channels dark; its coils are shorted, or high-impedance for the 10 schedule frames after COIL_OVERCURRENT. A port that
has served, or restarts, has the fault counted, and restarts or is latched past its tries; any other has failed in its phase. The restart
begins with the check. -/
def Obligations.MirrorFaultsStopThePort : Prop :=
  (∀ (p : Port) (f : MirrorFault) (s : State), running s = true → portIsLocked (portOf s p) = true ∨ starting (portOf s p) = true →
    faultSeen s p f = true →
    ∃ t, exec (.mirrorFault p f) s = .next t ∧ Reported (faultEvent f) (portNum p) t ∧ (portOf t p).phase = .coast ∧
      (portOf t p).raster = false ∧ gateOpen t p = false ∧ (portOf t p).driveW = 0 ∧ (portOf t p).down = true ∧
      (∀ l ∈ t.emit.lasers, l.assigned = some p → l.level = 0 ∧ l.code = 0) ∧
      (f = .coilOvercurrent → (portOf t p).coilZ = 10) ∧
      (f ≠ .coilOvercurrent → (portOf s p).coilZ = 0 → coilsShorted t p = true) ∧
      ((portOf s p).served = true ∨ (portOf s p).restarting = true →
        let faults := s.keeper.ticks :: recent (fnat (live s) (mirrorFaultWindow p)) s.keeper.ticks (portOf s p).faults
        (portOf t p).faultCount = satInc (portOf s p).faultCount ∧ t.cart = s.cart ∧
          (faults.length ≤ fnat (live s) (mirrorFaultTries p) → (portOf t p).restartDue = true ∧
            (portOf t p).failedLatch = (portOf s p).failedLatch) ∧
          (fnat (live s) (mirrorFaultTries p) < faults.length → (portOf t p).restartDue = false ∧
            (portOf t p).failedLatch = true)) ∧
      ((portOf s p).served = false → (portOf s p).restarting = false → (portOf t p).faultCount = (portOf s p).faultCount ∧
        (portOf t p).failedPhase = if starting (portOf s p) = true then phaseNumber (portOf s p).phase else 4)) ∧
  ∀ (p : Port) (s : State), sysRuns s = true → (portOf s p).restartDue = true → s.cart.qualified = true →
    mayStart s p = true →
    (calFNom s.emit.cal p ≠ 0 → ∃ t, exec (.portRestart p) s = .next t ∧ (portOf t p).phase = .check ∧
      (portOf t p).restarting = true ∧ (portOf t p).restartDue = false ∧ t.cart = s.cart ∧
      portOf t (otherPort p) = portOf s (otherPort p) ∧ t.emit = s.emit) ∧
    (calFNom s.emit.cal p = 0 → ∃ t, exec (.portRestart p) s = .next t ∧ (portOf t p).phase = .coast ∧
      Reported evMirrorStartFailed (portNum p) t)

/-! The control engine (13). -/

/-- 13 R297 to R299, 04 R77, R93, 06 R126, 11 R272, 12 R292: every schedule frame counts modulo 2^32, latches the folios, the readings and
the arrived grants, and a serving lane that runs alone goes on serving; with the serving lane held nothing is applied. Recovery intervals go
down by one frame, but for a read error's while the host holds the bus; so does the time for which over-current holds a port's bridges off.
The sixteenth comparison in a row that asks for a shorter or longer delay line moves its trim by one step, within its 5 bits. -/
def Obligations.ScheduleFrameAdvances : Prop :=
  ∀ (i : FrameInputs) (s : State), running s = true → s.core.plls = true → s.core.halted = false → i.tableErr = none →
    i.m6Err = none →
    (s.engine.standby = .absent → domainHeld s (laneDomain s.engine.serving) = false →
      ∃ t, exec (.scheduleFrame i) s = .next t ∧ t.engine.frame = (s.engine.frame + 1) % 2 ^ 32 ∧
        t.engine.fields = live s ∧ t.engine.outOfRange = i.outOfRange ∧ t.engine.rt0 = i.rt0 ∧ t.engine.rt1 = i.rt1 ∧
        t.engine.grants = (if i.capsArrived then s.yard.grants else s.engine.grants) ∧
        t.engine.serving = s.engine.serving ∧ t.engine.standby = .absent ∧ t.engine.halters.length = 8 ∧
        t.keeper = { s.keeper with
          recovery := countDown s.keeper.recovery
          readRecovery := if s.mem.ackLow then s.keeper.readRecovery else countDown s.keeper.readRecovery } ∧
        (∀ p, (portOf t p).coilZ = (portOf s p).coilZ - 1) ∧ (i.comparisons = [] → t.emit.trims = s.emit.trims) ∧
        (∀ c late, i.comparisons = [(c, late)] → s.emit.trimRuns.getD c (false, 0) = (late, 15) → c < s.emit.trims.length →
          nth t.emit.trims c = if late then nth s.emit.trims c - 1 else min 31 (nth s.emit.trims c + 1)) ∧
        t.binding = s.binding) ∧
    (domainHeld s (laneDomain s.engine.serving) = true →
      ∃ t, exec (.scheduleFrame i) s = .next t ∧ t.engine.frame = (s.engine.frame + 1) % 2 ^ 32 ∧
        t.engine.applied = s.engine.applied ∧ t.engine.halters = s.engine.halters ∧ t.emit.lasers = s.emit.lasers)

/-- 13 R306, R308, R309: the encoder counts one for each edge, two changes at once are an error, and the count stays in 32 bits; the
brightness input measures four periods; the manual ball is followed. -/
def Obligations.EngineInputsAreSampled : Prop :=
  (∀ (low : Bool) (s : State), exec (.manualChange low) s = .next { s with pins := { s.pins with manualLow := low } }) ∧
  (∀ (a b : Bool) (s : State), sysRuns s = true →
    let d := (quadrature a b + 4 - quadrature s.pins.encA s.pins.encB) % 4
    let inverted := (fnat (live s) loopEncCfg).testBit 1
    ∃ t, exec (.encoderEdge a b) s = .next t ∧ t.pins = { s.pins with encA := a, encB := b } ∧
      (d = 0 → t.engine = s.engine) ∧
      (d = 2 → t.engine = { s.engine with encErrors := satInc s.engine.encErrors }) ∧
      (d = 1 ∨ d = 3 → -2 ^ 31 ≤ t.engine.encoder ∧ t.engine.encoder < 2 ^ 31 ∧
        (t.engine.encoder - s.engine.encoder - (if (d == 1) != inverted then 1 else -1)) % 2 ^ 32 = 0)) ∧
  (∀ s : State, sysRuns s = true →
    ((fnat (live s) loopEncCfg).testBit 0 = true → ∃ t, exec .encZIndex s = .next t ∧
      t.engine.encoder = fval (live s) loopEncZValue) ∧
    ((fnat (live s) loopEncCfg).testBit 0 = false → exec .encZIndex s = .next s)) ∧
  (∀ (n : Nat) (s : State), sysRuns s = true →
    (s.bright.started = true → exec (.brightEdge false n) s = .next { s with bright := { s.bright with high := some n } }) ∧
    (s.bright.high = none →
      exec (.brightEdge true n) s = .next { s with bright := { s.bright with started := true, high := none } }) ∧
    (∀ h, s.bright.high = some h → s.bright.started = true → brightInRange (h + n) = true →
      3 ≤ s.bright.periods.length → fnat (live s) loopBrightMode ≠ 1 →
      ∃ t, exec (.brightEdge true n) s = .next t ∧ t.bright.pulse = true ∧ t.bright.started = true ∧
        t.bright.periods = (h + n, h) :: s.bright.periods.take 3)) ∧
  ∀ s : State, sysRuns s = true → exec .brightAnalogueTimeout s = .next
    { s with bright := { s.bright with
        pulse := decide (fnat (live s) loopBrightMode = 2), periods := [], started := false, high := none } }

/-! Lasers and the lamp field (14). -/

/-- 14 R335 to R338, 16 R387: a window keeps at most 256 dark readings of each photodiode and moves each channel's sink estimate by the
window's runs; a photodiode found blind is reported, and both blind trip the latch; an aged measurement is no longer valid. -/
def Obligations.PhotodiodeWindowsAreKept : Prop :=
  (∀ (xs : List PdSample) (runs : List SinkRun) (s : State), running s = true → s.core.plls = true →
    s.core.halted = false → domainHeld s .edge = false → s.emit.lasers.length = 4 →
    ∃ t, exec (.pdWindowEnd xs runs) s = .next t ∧
      t.emit.darkA = addDark 0 s.emit.darkA (xs.filter (isDark (live s))) ∧
      t.emit.darkB = addDark 1 s.emit.darkB (xs.filter (isDark (live s))) ∧
      t.emit.darkA.length ≤ 256 ∧ t.emit.darkB.length ≤ 256 ∧
      (∀ c, c < 4 → (laserOf t c).sinkMv = sinkEstimate runs c (laserOf s c).sinkMv) ∧
      (4 ≤ t.emit.blindA → s.emit.blindA < 4 → Reported evPdBlind 0 t) ∧
      (4 ≤ t.emit.blindB → s.emit.blindB < 4 → Reported evPdBlind 1 t) ∧
      (4 ≤ t.emit.blindA → 4 ≤ t.emit.blindB → .pdBlind ∈ s.safety.causes ∨ .pdBlind ∈ t.safety.causes ∧ Dark t)) ∧
  ∀ (c : Nat) (s : State), running s = true → c < s.emit.lasers.length →
    ∃ t, exec (.pdMeasurementAged c) s = .next t ∧ laserOf t c = { laserOf s c with powerA := none, powerB := none } ∧
      ∀ k, k ≠ c → laserOf t k = laserOf s k

/-- 03 R50, 14 R333: whatever level a channel is set to, its sink code is at most the cartridge's `IMAX`; level 0 is code 0; a code
that was clamped is counted, and reported the first time. -/
def Obligations.SinkCodesStayWithinImax : Prop :=
  ∀ (c v : Nat) (s : State), c < s.emit.lasers.length →
    (laserOf (setLevel c v s) c).level = v ∧ (laserOf (setLevel c v s) c).code ≤ calImax s.emit.cal c ∧
      (laserOf (setLevel c v s) c).code ≤ 4095 ∧ (v = 0 → (laserOf (setLevel c v s) c).code = 0) ∧
      (codeAsked s c v ≤ calImax s.emit.cal c → codeAsked s c v ≤ 4095 → v ≠ 0 →
        (laserOf (setLevel c v s) c).code = codeAsked s c v ∧ setLevel c v s = updLaser c
          (fun l => { l with level := v, code := codeAsked s c v }) s) ∧
      (v ≠ 0 → calImax s.emit.cal c < codeAsked s c v →
        (laserOf (setLevel c v s) c).clamps = satInc (laserOf s c).clamps ∧
          ((laserOf s c).clamped = false → Reported evLdImaxLimit c (setLevel c v s))) ∧
      ∀ k, k ≠ c → laserOf (setLevel c v s) k = laserOf s k

/-- 14 R342 to R350, R353, R356: a row-frame takes the fields and the yard's scales and gives every dead lamp code 0; one whose codes
are not complete is shown again and counted, and with no port running its start is a stitch boundary all the same, at which a stitch that is
ready is swapped in (07 R163, R168). A probe moves the estimate of each working lamp of its row by 2 mV and of no other. -/
def Obligations.LampRowsAreDriven : Prop :=
  (∀ s : State, lampRuns s = true → s.gather.state = .closed → s.gather.bridgeDue = false → s.gather.restoring = false →
    domainHeld s .sys = false →
    ∃ t, exec (.rowFrameStart true) s = .next t ∧ t.lamp.fields = live s ∧ t.lamp.fWork = s.yard.fWork ∧
      t.lamp.qWork = s.yard.qWork ∧ t.lamp.fSignal = s.yard.fSignal ∧ t.lamp.litLast = s.lamp.litNow ∧
      t.lamp.dark = (s.pins.killLow || s.jtag.instr == .extest) ∧ t.lamp.lamps.length = s.lamp.lamps.length ∧
      (∀ l ∈ t.lamp.lamps, l.latched = true ∨ l.eccDark = true → l.code = 0) ∧
      ∀ l ∈ t.lamp.lamps, l.code < 2 ^ fnat t.lamp.fields lampPlanes) ∧
  (∀ s : State, lampRuns s = true → domainHeld s .sys = false → leadPort s = none → s.gather.restoring = false →
    swapReady s = true → ∀ c, s.gather.shadow = some c →
    ∃ t, exec (.rowFrameStart false) s = .next t ∧ t.binding.live = c ∧ t.gather.state = .closed ∧ t.gather.outcome = 1 ∧
      Reported evGathering 1 t) ∧
  (∀ (ready : Bool) (s : State), lampRuns s = true →
    domainHeld s .sys = true ∨
      (ready = false ∧ s.gather.state = .closed ∧ s.gather.bridgeDue = false ∧ s.gather.restoring = false) →
    ∃ t, exec (.rowFrameStart ready) s = .next t ∧ t.lamp.lamps = s.lamp.lamps ∧ t.lamp.mask = s.lamp.mask ∧
      t.lamp.repeats = satInc s.lamp.repeats ∧ Reported evLampRepeat 0 t) ∧
  (∀ (row rail : Nat) (sinks : List Nat) (track : List (Nat × Bool)) (s : State), lampRuns s = true → row < s.lamp.rows →
    (s.pins.killLow = true → ∃ t, exec (.probeSlotEnd row rail sinks track) s = .next t ∧ t.lamp.lamps = s.lamp.lamps) ∧
    (probeDiscarded (trackSinks track s) = false →
      ∃ t, exec (.probeSlotEnd row rail sinks track) s = .next t ∧ t.lamp.lamps.length = s.lamp.lamps.length ∧
        ∀ i l, s.lamp.lamps[i]? = some l → ∃ l', t.lamp.lamps[i]? = some l' ∧
          (rowOf s.lamp i = row → l.latched = false → l'.vf = l.vf + 2 ∨ l'.vf = l.vf - 2) ∧
          (rowOf s.lamp i ≠ row ∨ l.latched = true → l' = l))) ∧
  ∀ (k : Nat) (s : State), lampRuns s = true → s.lamp.dark = false → k < s.lamp.cols → k ∉ s.lamp.hot →
    ∃ t, exec (.sinkHot k) s = .next t ∧
      t.lamp = { s.lamp with hot := s.lamp.hot ++ [k], hotCount := satInc s.lamp.hotCount } ∧ Reported evSinkHot k t

/-! The budget yard (15). -/

/-- 15 R366: at each tick of the yard every decrease of a grant applies in full, an increase is limited to `BUDGET.SLEW`, and the sum of
the grants never exceeds the budget, the least of the pack's limit, the thermal headroom and the binding's cap; no step of any kind
takes it above the budget it was made from. -/
def Obligations.GrantsStayWithinTheBudget : Prop :=
  (∀ (trig : Bool) (s : State), running s = true → serving s = true → s.yard.grants.length = 3 →
    ∃ t, exec (.yardTick trig) s = .next t ∧ t.keeper.ticks = s.keeper.ticks + 1 ∧
      t.yard.budget = min s.pack.limit (min s.engine.headroom (budgetCapOf s.binding.live)) ∧
      t.yard.grants.length = 3 ∧ t.yard.grants.sum ≤ t.yard.budget ∧
      ∀ k, k < 3 → nth t.yard.grants k ≤ nth t.yard.targets k ∧
        nth t.yard.grants k ≤ nth s.yard.grants k + fnat (live s) budgetSlew ∧
        (nth t.yard.targets k ≤ nth s.yard.grants k → nth t.yard.grants k = nth t.yard.targets k) ∧
        (nth s.yard.grants k < nth t.yard.targets k →
          nth t.yard.grants k = min (nth t.yard.targets k) (nth s.yard.grants k + fnat (live s) budgetSlew))) ∧
  (∀ (trig : Bool) (s : State), running s = true → serving s = false →
    ∃ t, exec (.yardTick trig) s = .next t ∧ t.keeper.ticks = s.keeper.ticks + 1 ∧ t.pins = { s.pins with trig := trig } ∧
      t.yard = s.yard) ∧
  ∀ s t : State, s.yard.grants.sum ≤ s.yard.budget → step s = .next t → t.yard.grants.sum ≤ t.yard.budget

/-! Integrity and safety (16). -/

/-- 16 R389, R390, 02 R39: `KILL_N` low darkens everything at once; its release clears a latch that may be cleared and no other; a trip
is latched, after the causes before it, and darkens every channel. -/
def Obligations.KillAndTripsDarken : Prop :=
  (∀ s : State, s.pins.killLow = false → ∃ t, exec .killAssert s = .next t ∧ t.pins = { s.pins with killLow := true } ∧
    Dark t ∧ t.lamp.dark = true ∧ t.safety.causes = s.safety.causes ∧ (running s = true → Reported evKill 1 t)) ∧
  (∀ (ms : Nat) (s : State), s.pins.killLow = true → ∃ t, exec (.killRelease ms) s = .next t ∧
    t.pins = { s.pins with killLow := false } ∧ t.emit = s.emit ∧
    (running s = true → releases ms s = true → t.safety.causes = [] ∧ t.safety.sinceRelease = some 0 ∧
      t.portA.qualified = false ∧ t.portB.qualified = false ∧ Reported evKill 0 t) ∧
    (running s = false ∨ releases ms s = false → t.safety = s.safety ∧ t.portA = s.portA ∧ t.portB = s.portB)) ∧
  ∀ (k : TripCause) (which value ns : Nat) (s : State), running s = true → tripHolds s which value ns k = true →
    ∃ t, exec (.safetyTrip k ⟨which, value, ns⟩) s = .next t ∧ k ∈ t.safety.causes ∧ (∀ j ∈ s.safety.causes, j ∈ t.safety.causes) ∧ Dark t ∧
      stat t = (if s.core.halted then 7 else 6) ∧ faultLow t = true

/-- 16 R380 to R382: the walk advances by one burst when its read is granted and waits otherwise, and a withdrawn read is counted; a
corrected word is counted and queued; an uncorrectable word is reported, and one of the folio table in use halts the core. -/
def Obligations.ScrubbingWalksTheStores : Prop :=
  (∀ (r : ScrubResult) (s : State), sysRuns s = true → s.core.plls = true →
    (r.granted = false → ∃ t, exec (.scrubTick r) s = .next t ∧ t.integrity.walk = s.integrity.walk ∧
      t.integrity.burstWaits = true) ∧
    (r.granted = true → ∃ t, exec (.scrubTick r) s = .next t ∧ t.integrity.walk = (s.integrity.walk + 1) % 8576 ∧
      t.integrity.burstWaits = false ∧ t.integrity.writeBack = r.corrected.take 16)) ∧
  (∀ (a : Nat) (s : State), sysRuns s = true → s.core.plls = true →
    ∃ t, exec (.scrubTick { granted := true, corrected := [a], uncorrectable := [] }) s = .next t ∧
      t.integrity.correctedWords = satInc s.integrity.correctedWords ∧ a ∈ t.integrity.corrected ∧
      ((s.integrity.walk + 1) % 8576 ≠ 0 → a ∈ s.integrity.corrected → Reported evEccStuck (targetOf a) t)) ∧
  (∀ (a : Nat) (s : State), sysRuns s = true → s.core.plls = true →
    ∃ t, exec (.scrubTick { granted := true, corrected := [], uncorrectable := [a] }) s = .next t ∧
      (targetOf a < 6 → Reported evEccUncorrectable (targetOf a) t) ∧
      (targetOf a = 5 → upperHalf a = s.matrix.halves → t.core.halted = true ∧ Dark t ∧ t.lamp.dark = true)) ∧
  ∀ s : State, sysRuns s = true → s.integrity.burstWaits = true →
    ∃ t, exec .scrubWithdrawn s = .next t ∧ t.integrity = { s.integrity with burstWaits := false } ∧
      t.matrix.deferrals = satInc s.matrix.deferrals

/-! The beacon and the test port (17, 18). -/

/-- 17 R399 to R404: a record that falls due is 64 bytes of the state at its trigger, with the events that fit taken from the queue in
their order and the sequence number moved on; one that falls due while another is being sent waits for its end. -/
def Obligations.BeaconRecordsAreCaptured : Prop :=
  (∀ (frame : Bool) (s : State), running s = true → (beaconBaud s).isSome = true → triggerDue s frame = true →
    (s.beacon.sending = none → s.yard.demands.length = 3 → s.yard.grants.length = 3 → s.yard.fractions.length = 3 →
      ∃ t b, exec (.beaconRecordTrigger frame) s = .next t ∧ t.beacon.sending = some b ∧ b.length = 64 ∧
        b.take 4 = [0x42#8, 0x43#8] ++ leBytes 2 s.beacon.seq ∧ t.beacon.seq = (s.beacon.seq + 1) % 65536 ∧
        (∃ taken, s.beacon.queue = taken ++ t.beacon.queue ∧ queuePlaces taken ≤ 4) ∧
        (s.beacon.queue ≠ [] → t.beacon.queue.length < s.beacon.queue.length)) ∧
    (s.beacon.sending.isSome = true → ∃ t, exec (.beaconRecordTrigger frame) s = .next t ∧
      t.beacon.sending = s.beacon.sending ∧ t.beacon.deferred = some frame ∧ t.beacon.queue = s.beacon.queue)) ∧
  (∀ (b : List Byte) (s : State), running s = true → s.beacon.sending = some b →
    ∃ t, exec .beaconRecordSent s = .next t ∧ t.beacon.lastRecord = b ∧
      (s.beacon.deferred = none → t.beacon.sending = none ∧ t.beacon.seq = s.beacon.seq) ∧
      (s.beacon.deferred.isSome = true → t.beacon.sending.isSome = true ∧ t.beacon.deferred = none ∧
        t.beacon.seq = (s.beacon.seq + 1) % 65536)) ∧
  ∀ s : State, running s = true → s.beacon.pulse = true →
    ∃ t, exec .faultPulseEnd s = .next t ∧ t.beacon = { s.beacon with pulse := false } ∧ faultLow t = faultLatched s

/-- 18 R409, R411 to R414: the test port takes its four instructions while `VDDIO_H` is up: the bypass bit, the identity, a sample of
every cell with what it preloads, and EXTEST, which darkens every channel and lamp and shorts the coils. -/
def Obligations.TestPortInstructions : Prop :=
  ∀ s : State, s.supply.vin = true → s.supply.ringH = true →
    (∀ b, exec (.jtagBypass b) s = .next { s with jtag := { s.jtag with instr := .bypass, bypass := b } }) ∧
    exec .jtagIdcode s = .next { s with jtag := { s.jtag with instr := .idcode, shift := 0x24032001#32 } } ∧
    (∀ cells, ∃ t, exec (.jtagSamplePreload cells) s = .next t ∧ t.jtag.instr = .sample ∧
      t.jtag.captured.length = observeOnly.length ∧
      (∀ n v, n < observeOnly.length → knownLevel s n = some v → (n, v) ∈ t.jtag.captured) ∧
      t.jtag.preloaded = cells.filter (fun c => c.1 < observeOnly.length) ∧ t.emit = s.emit ∧ t.pins = s.pins) ∧
    ∃ t, exec .jtagExtest s = .next t ∧ t.jtag.instr = .extest ∧ Dark t ∧ t.lamp.dark = true ∧
      ∀ p, coilsShorted t p = true
end

