-- ==== Sys2Proof/Laws/Effects.lean ====
section
/-! SUPPORT. What an operation may do, as one relation that composes: the parts that it changes, and the four whole-machine facts
that it keeps (the event queue, the frame store's blocks, the memory's canonical form, darkness). -/

namespace Sys2Proof.Laws

open Sys2Proof Machine

/-- An operation from s to t changes only the parts of the list and keeps the queue, the blocks, the memory's form and darkness. -/
structure Eff (l : List Part) (s t : State) : Prop where
  frame : ChangesOnly l s t
  queue : QueueOk s.beacon → QueueOk t.beacon
  blocks : BlocksOk s.pens → BlocksOk t.pens
  wf : memoryWf s.matrix = true → memoryWf t.matrix = true
  dark : DarkSafe s → DarkSafe t

theorem changesOnly_refl (l : List Part) (s : State) : ChangesOnly l s s := fun p _ => by cases p <;> rfl

theorem same_trans {p : Part} {s t u : State} (h : p.same s t) (k : p.same t u) : p.same s u := by
  cases p <;> exact Eq.trans k h

theorem changesOnly_trans {l : List Part} {s t u : State} (h : ChangesOnly l s t) (k : ChangesOnly l t u) :
    ChangesOnly l s u := fun p hp => same_trans (h p hp) (k p hp)

theorem changesOnly_mono {l m : List Part} {s t : State} (h : ChangesOnly m s t) (hm : m.all l.contains = true) :
    ChangesOnly l s t := by
  intro p hp
  refine h p fun hin => hp ?_
  have := List.all_eq_true.mp hm p hin
  simpa using this

/-- A part outside the list, by name. -/
theorem changesOnly_part {l : List Part} {s t : State} (h : ChangesOnly l s t) (p : Part) (hp : l.contains p = false) : p.same s t :=
  h p (by simpa using hp)

namespace Eff

variable {l m : List Part} {s t u : State}

theorem refl (l : List Part) (s : State) : Eff l s s := ⟨changesOnly_refl l s, id, id, id, id⟩

theorem trans (h : Eff l s t) (k : Eff l t u) : Eff l s u :=
  ⟨changesOnly_trans h.frame k.frame, fun q => k.queue (h.queue q), fun q => k.blocks (h.blocks q),
    fun q => k.wf (h.wf q), fun q => k.dark (h.dark q)⟩

theorem mono (h : Eff m s t) (hm : m.all l.contains = true) : Eff l s t :=
  ⟨changesOnly_mono h.frame hm, h.queue, h.blocks, h.wf, h.dark⟩

/-- One operation after others. -/
theorem comp (h : Eff l s t) (k : Eff m t u) (hm : m.all l.contains = true) : Eff l s u := h.trans (k.mono hm)

theorem ite {c : Prop} [Decidable c] (h : c → Eff l s t) (k : ¬c → Eff l s u) : Eff l s (if c then t else u) := by
  split
  · exact h ‹_›
  · exact k ‹_›

theorem foldl {α : Type} {f : State → α → State} (hf : ∀ t x, Eff l t (f t x)) (xs : List α) :
    ∀ {t : State}, Eff l s t → Eff l s (xs.foldl f t) := by
  induction xs with
  | nil => exact fun h => h
  | cons x xs ih => exact fun h => ih (h.trans (hf _ x))

theorem elim {α : Type} {f : α → State} (h : Eff l s t) (k : ∀ x, Eff l s (f x)) (o : Option α) : Eff l s (o.elim t f) := by
  cases o
  · exact h
  · exact k _

/-- A record update after others: each part is in the list or is kept. -/
theorem ofMk (h : Eff l s t) {a1 a2 a3 a4 a5 a6 a7 a8 a9 a10 a11 a12 a13 a14 a15
      a16 a17 a18 a19 a20 a21 a22 a23 a24 a25 a26 a27 a28 a29}
    (hq : QueueOk t.beacon → QueueOk a27) (hb : BlocksOk t.pens → BlocksOk a15)
    (hw : memoryWf t.matrix = true → memoryWf a16 = true)
    (hd : DarkSafe t → DarkSafe (State.mk t.fuses a1 a2 a3 a4 a5 a6 a7 a8 a9 a10 a11 a12 a13 a14 a15
      a16 a17 a18 a19 a20 a21 a22 a23 a24 a25 a26 a27 a28 a29))
    (hf : ∀ p : Part, l.contains p = true ∨ p.same t (State.mk t.fuses a1 a2 a3 a4 a5 a6 a7 a8 a9 a10 a11 a12 a13 a14 a15
      a16 a17 a18 a19 a20 a21 a22 a23 a24 a25 a26 a27 a28 a29) := by
      intro p; cases p <;> first | exact .inr rfl | exact .inl rfl) :
    Eff l s (State.mk t.fuses a1 a2 a3 a4 a5 a6 a7 a8 a9 a10 a11 a12 a13 a14 a15
      a16 a17 a18 a19 a20 a21 a22 a23 a24 a25 a26 a27 a28 a29) :=
  h.trans ⟨fun p hp => (hf p).resolve_left (by simpa using hp), hq, hb, hw, hd⟩

/-! Updates of one part. -/

theorem set_supply (h : Eff l s t) {a} (hl : l.contains .supply = true) :
    Eff l s { t with supply := a } :=
  ofMk h id id id id fun p => by cases p <;> first | exact .inr rfl | exact .inl hl

theorem set_pins (h : Eff l s t) {a} (hl : l.contains .pins = true) (hd : DarkSafe t → DarkSafe { t with pins := a }) :
    Eff l s { t with pins := a } :=
  ofMk h id id id hd fun p => by cases p <;> first | exact .inr rfl | exact .inl hl

theorem set_aon (h : Eff l s t) {a} (hl : l.contains .aon = true) :
    Eff l s { t with aon := a } :=
  ofMk h id id id id fun p => by cases p <;> first | exact .inr rfl | exact .inl hl

theorem set_pack (h : Eff l s t) {a} (hl : l.contains .pack = true) :
    Eff l s { t with pack := a } :=
  ofMk h id id id id fun p => by cases p <;> first | exact .inr rfl | exact .inl hl

theorem set_safety (h : Eff l s t) {a} (hl : l.contains .safety = true) (hd : DarkSafe t → DarkSafe { t with safety := a }) :
    Eff l s { t with safety := a } :=
  ofMk h id id id hd fun p => by cases p <;> first | exact .inr rfl | exact .inl hl

theorem set_jtag (h : Eff l s t) {a} (hl : l.contains .jtag = true) (hd : DarkSafe t → DarkSafe { t with jtag := a }) :
    Eff l s { t with jtag := a } :=
  ofMk h id id id hd fun p => by cases p <;> first | exact .inr rfl | exact .inl hl

theorem set_core (h : Eff l s t) {a} (hl : l.contains .core = true) (hd : DarkSafe t → DarkSafe { t with core := a }) :
    Eff l s { t with core := a } :=
  ofMk h id id id hd fun p => by cases p <;> first | exact .inr rfl | exact .inl hl

theorem set_cart (h : Eff l s t) {a} (hl : l.contains .cart = true) :
    Eff l s { t with cart := a } :=
  ofMk h id id id id fun p => by cases p <;> first | exact .inr rfl | exact .inl hl

theorem set_keeper (h : Eff l s t) {a} (hl : l.contains .keeper = true) :
    Eff l s { t with keeper := a } :=
  ofMk h id id id id fun p => by cases p <;> first | exact .inr rfl | exact .inl hl

theorem set_clocks (h : Eff l s t) {a} (hl : l.contains .clocks = true) :
    Eff l s { t with clocks := a } :=
  ofMk h id id id id fun p => by cases p <;> first | exact .inr rfl | exact .inl hl

theorem set_mem (h : Eff l s t) {a} (hl : l.contains .mem = true) :
    Eff l s { t with mem := a } :=
  ofMk h id id id id fun p => by cases p <;> first | exact .inr rfl | exact .inl hl

theorem set_binding (h : Eff l s t) {a} (hl : l.contains .binding = true) :
    Eff l s { t with binding := a } :=
  ofMk h id id id id fun p => by cases p <;> first | exact .inr rfl | exact .inl hl

theorem set_gather (h : Eff l s t) {a} (hl : l.contains .gather = true) :
    Eff l s { t with gather := a } :=
  ofMk h id id id id fun p => by cases p <;> first | exact .inr rfl | exact .inl hl

theorem set_codec (h : Eff l s t) {a} (hl : l.contains .codec = true) :
    Eff l s { t with codec := a } :=
  ofMk h id id id id fun p => by cases p <;> first | exact .inr rfl | exact .inl hl

theorem set_pens (h : Eff l s t) {a} (hl : l.contains .pens = true) (hb : BlocksOk t.pens → BlocksOk a) :
    Eff l s { t with pens := a } :=
  ofMk h id hb id id fun p => by cases p <;> first | exact .inr rfl | exact .inl hl

theorem set_matrix (h : Eff l s t) {a} (hl : l.contains .matrix = true) (hw : memoryWf t.matrix = true → memoryWf a = true) :
    Eff l s { t with matrix := a } :=
  ofMk h id id hw id fun p => by cases p <;> first | exact .inr rfl | exact .inl hl

theorem set_select (h : Eff l s t) {a} (hl : l.contains .select = true) :
    Eff l s { t with select := a } :=
  ofMk h id id id id fun p => by cases p <;> first | exact .inr rfl | exact .inl hl

theorem set_canvas (h : Eff l s t) {a} (hl : l.contains .canvas = true) :
    Eff l s { t with canvas := a } :=
  ofMk h id id id id fun p => by cases p <;> first | exact .inr rfl | exact .inl hl

theorem set_portA (h : Eff l s t) {a} (hl : l.contains .portA = true) (hd : DarkSafe t → DarkSafe { t with portA := a }) :
    Eff l s { t with portA := a } :=
  ofMk h id id id hd fun p => by cases p <;> first | exact .inr rfl | exact .inl hl

theorem set_portB (h : Eff l s t) {a} (hl : l.contains .portB = true) (hd : DarkSafe t → DarkSafe { t with portB := a }) :
    Eff l s { t with portB := a } :=
  ofMk h id id id hd fun p => by cases p <;> first | exact .inr rfl | exact .inl hl

theorem set_engine (h : Eff l s t) {a} (hl : l.contains .engine = true) :
    Eff l s { t with engine := a } :=
  ofMk h id id id id fun p => by cases p <;> first | exact .inr rfl | exact .inl hl

theorem set_bright (h : Eff l s t) {a} (hl : l.contains .bright = true) :
    Eff l s { t with bright := a } :=
  ofMk h id id id id fun p => by cases p <;> first | exact .inr rfl | exact .inl hl

theorem set_emit (h : Eff l s t) {a} (hl : l.contains .emit = true) (hd : DarkSafe t → DarkSafe { t with emit := a }) :
    Eff l s { t with emit := a } :=
  ofMk h id id id hd fun p => by cases p <;> first | exact .inr rfl | exact .inl hl

theorem set_lamp (h : Eff l s t) {a} (hl : l.contains .lamp = true) :
    Eff l s { t with lamp := a } :=
  ofMk h id id id id fun p => by cases p <;> first | exact .inr rfl | exact .inl hl

theorem set_yard (h : Eff l s t) {a} (hl : l.contains .yard = true) :
    Eff l s { t with yard := a } :=
  ofMk h id id id id fun p => by cases p <;> first | exact .inr rfl | exact .inl hl

theorem set_integrity (h : Eff l s t) {a} (hl : l.contains .integrity = true) :
    Eff l s { t with integrity := a } :=
  ofMk h id id id id fun p => by cases p <;> first | exact .inr rfl | exact .inl hl

theorem set_beacon (h : Eff l s t) {a} (hl : l.contains .beacon = true) (hq : QueueOk t.beacon → QueueOk a) :
    Eff l s { t with beacon := a } :=
  ofMk h hq id id id fun p => by cases p <;> first | exact .inr rfl | exact .inl hl

theorem set_free (h : Eff l s t) {a} (hl : l.contains .free = true) :
    Eff l s { t with free := a } :=
  ofMk h id id id id fun p => by cases p <;> first | exact .inr rfl | exact .inl hl

theorem set_pending (h : Eff l s t) {a} (hl : l.contains .pending = true) :
    Eff l s { t with pending := a } :=
  ofMk h id id id id fun p => by cases p <;> first | exact .inr rfl | exact .inl hl

/-! Commands whose condition must hold. -/

theorem guardedIf {c : Bool} (h : c = true → Eff l s t) : ∃ u, Machine.guarded c s t = Host.Outcome.next u ∧ Eff l s u :=
  ⟨_, rfl, ite h (fun _ => refl l s)⟩

theorem guarded {c : Bool} (h : Eff l s t) : ∃ u, Machine.guarded c s t = Host.Outcome.next u ∧ Eff l s u := guardedIf fun _ => h

end Eff

end Sys2Proof.Laws
end

