-- ==== Sys2Proof/Laws/Operations.lean ====
section
/-! SUPPORT. What each of the shared operations of Machine/Ops.lean, Operands.lean and Pens.lean may do, by `Eff`: the operations
on ports, gates and channels, the event queue, the pens and the core reset. -/

namespace Sys2Proof.Laws

open Sys2Proof Machine

/-! The event queue (17 R402). -/

theorem queuePlaces_append (q : List EventEntry) (e : EventEntry) : queuePlaces (q ++ [e]) = queuePlaces q + entryPlaces e := by
  simp [queuePlaces]

theorem reportX_queue (c a j : Nat) (x : Option Nat) (s : State) (h : QueueOk s.beacon) : QueueOk (reportX c a j x s).beacon := by
  obtain ⟨h1, h2, h3⟩ := h
  unfold reportX
  dsimp only
  split
  · exact ⟨h1, h2, h3⟩
  · rename_i hn
    refine ⟨?_, ?_, Nat.mod_lt _ (by decide)⟩
    · dsimp only
      split
      · rename_i hr
        rw [queuePlaces_append]
        exact hr
      · exact h1
    · dsimp only
      split
      · refine List.pairwise_append.mpr ⟨h2, List.pairwise_singleton _ _, ?_⟩
        intro y hy z hz
        rw [List.mem_singleton.mp hz]
        intro hc
        exact hn (List.any_eq_true.mpr ⟨y, hy, by simp [hc.1, hc.2]⟩)
      · exact h2

theorem reportX_frame (c a j : Nat) (x : Option Nat) (s : State) : ChangesOnly [.beacon] s (reportX c a j x s) := by
  intro p hp
  unfold reportX
  dsimp only
  split <;> cases p <;> first | rfl | exact absurd (List.mem_singleton.mpr rfl) hp

theorem reportX_eff (c a j : Nat) (x : Option Nat) (s : State) : Eff [.beacon] s (reportX c a j x s) := by
  refine ⟨reportX_frame c a j x s, reportX_queue c a j x s, ?_, ?_, ?_⟩ <;> unfold reportX <;> dsimp only <;> split <;> exact id

theorem report_eff (c a j : Nat) (s : State) : Eff [.beacon] s (report c a j s) := reportX_eff c a j none s

/-! Ports (12). -/

/-- A change of a port that does not open its gate. -/
theorem updPort_at (s : State) (p : Port) (f : PortState → PortState)
    (hf : (f (portOf s p)).wheel.gate = true → (portOf s p).wheel.gate = true) : Eff [.portA, .portB] s (updPort s p f) := by
  have gate : (portOf s p).wheel.gate = false → (f (portOf s p)).wheel.gate = false := fun h =>
    Bool.eq_false_iff.mpr fun k => by rw [hf k] at h; cases h
  cases p
  · exact ⟨fun p hp => by cases p <;> first | rfl | (simp at hp), id, id, id, fun h k => ⟨gate (h k).1, (h k).2⟩⟩
  · exact ⟨fun p hp => by cases p <;> first | rfl | (simp at hp), id, id, id, fun h k => ⟨(h k).1, gate (h k).2.1, (h k).2.2⟩⟩

/-- A change of a port that opens no gate. -/
theorem updPort_eff (s : State) (p : Port) (f : PortState → PortState) (hf : ∀ q, (f q).wheel.gate = true → q.wheel.gate = true) :
    Eff [.portA, .portB] s (updPort s p f) := updPort_at s p f (hf _)

/-- A change of a port's wheel that opens no gate. -/
theorem updWheel_eff (s : State) (p : Port) (f : Wheel → Wheel) (hf : ∀ w, (f w).gate = true → w.gate = true) :
    Eff [.portA, .portB] s (updWheel s p f) := updPort_eff s p _ fun q => hf q.wheel

/-- A new wheel for a port, with the gate as it is or closed. -/
theorem updWheel_at (s : State) (p : Port) (w : Wheel) (hf : w.gate = true → (portOf s p).wheel.gate = true) :
    Eff [.portA, .portB] s (updWheel s p fun _ => w) := updPort_at s p _ hf

/-! Lasers (14 R330, 11 R268). -/

/-- A change of the channels that puts no dark channel on. -/
theorem lasers_dark {s t : State} (hF : Forbidden t → Forbidden s) (ha : t.portA.wheel.gate = s.portA.wheel.gate)
    (hb : t.portB.wheel.gate = s.portB.wheel.gate)
    (hl : (∀ l ∈ s.emit.lasers, l.level = 0 ∧ l.code = 0) → ∀ l ∈ t.emit.lasers, l.level = 0 ∧ l.code = 0) (h : DarkSafe s) : DarkSafe t :=
  fun k => ⟨ha.trans (h (hF k)).1, hb.trans (h (hF k)).2.1, hl (h (hF k)).2.2⟩

/-- A mapped list of channels stays dark when each of its channels does. -/
theorem dark_map {α : Type} {f : α → Laser} {xs : List α} (h : ∀ x ∈ xs, (f x).level = 0 ∧ (f x).code = 0) :
    ∀ l ∈ xs.map f, l.level = 0 ∧ l.code = 0 := by
  intro l hl
  obtain ⟨x, hx, rfl⟩ := List.mem_map.mp hl
  exact h x hx

/-- The same for a list with its places. -/
theorem dark_zipIdx {f : Laser × Nat → Laser} {xs : List Laser} (h : ∀ x ∈ xs, x.level = 0 ∧ x.code = 0)
    (hf : ∀ e : Laser × Nat, e.1.level = 0 ∧ e.1.code = 0 → (f e).level = 0 ∧ (f e).code = 0) :
    ∀ l ∈ xs.zipIdx.map f, l.level = 0 ∧ l.code = 0 :=
  dark_map fun e he => hf e (h e.1 (List.fst_mem_of_mem_zipIdx he))

/-- A choice of two dark channels is dark. -/
theorem dark_ite {c : Prop} [Decidable c] {a b : Laser} (ha : a.level = 0 ∧ a.code = 0) (hb : b.level = 0 ∧ b.code = 0) :
    (if c then a else b).level = 0 ∧ (if c then a else b).code = 0 := by
  split
  · exact ha
  · exact hb

theorem darkChannels_eff (p : Port) (s : State) : Eff [.emit] s (darkChannels p s) := by
  refine Eff.set_emit (Eff.refl _ s) rfl (lasers_dark id rfl rfl fun h => dark_map fun l hl => ?_)
  split
  · exact ⟨rfl, rfl⟩
  · exact h l hl

theorem darkAllChannels_eff (s : State) : Eff [.emit] s (darkAllChannels s) := by
  refine Eff.set_emit (Eff.refl _ s) rfl (lasers_dark id rfl rfl fun h => dark_map fun l hl => ⟨rfl, rfl⟩)

theorem closeGate_eff (p : Port) (s : State) : Eff [.portA, .portB, .emit] s (closeGate p s) := by
  unfold closeGate
  refine Eff.comp (Eff.comp (Eff.refl _ s) (updPort_eff s p _ ?_) rfl) (darkChannels_eff p _) rfl
  intro q h
  cases h

theorem closeGates_eff (s : State) : Eff [.portA, .portB, .emit] s (closeGates s) :=
  Eff.comp (Eff.comp (Eff.refl _ s) (closeGate_eff .a s) rfl) (closeGate_eff .b _) rfl

theorem darkAllChannels_dark (s : State) : ∀ l ∈ (darkAllChannels s).emit.lasers, l.level = 0 ∧ l.code = 0 :=
  dark_map fun _ _ => ⟨rfl, rfl⟩

theorem darkChannels_keeps (p : Port) (s : State) (h : ∀ l ∈ s.emit.lasers, l.level = 0 ∧ l.code = 0) :
    ∀ l ∈ (darkChannels p s).emit.lasers, l.level = 0 ∧ l.code = 0 := by
  refine dark_map fun l hl => ?_
  split
  · exact ⟨rfl, rfl⟩
  · exact h l hl

/-- With every channel put out and both gates closed, the part is dark. -/
theorem closeGates_dark (s : State) : Dark (closeGates (darkAllChannels s)) :=
  ⟨rfl, rfl, darkChannels_keeps .b _ (darkChannels_keeps .a _ (darkAllChannels_dark s))⟩

/-- Leaving EXTEST, or not entering it, lights nothing. -/
theorem darkSafe_jtag {s : State} {j : Jtag} (hj : j.instr ≠ .extest) (h : DarkSafe s) : DarkSafe { s with jtag := j } := by
  intro hF
  refine h ?_
  rcases hF with k | k | k | k
  · exact Or.inl k
  · exact Or.inr (Or.inl k)
  · exact Or.inr (Or.inr (Or.inl k))
  · exact absurd k hj

/-- A release of `KILL_N` lights nothing. -/
theorem darkSafe_pins {s : State} {x : Pins} (hx : x.killLow = false) (h : DarkSafe s) : DarkSafe { s with pins := x } := by
  intro hF
  refine h ?_
  rcases hF with k | k | k | k
  · exact Or.inl k
  · exact Or.inr (Or.inl k)
  · exact absurd (hx.symm.trans k) Bool.false_ne_true
  · exact Or.inr (Or.inr (Or.inr k))

/-- The clearing of the trip latch lights nothing. -/
theorem darkSafe_clear {s t : State} (hc : t.core.inReset = s.core.inReset) (hp : t.pins.killLow = s.pins.killLow)
    (hj : t.jtag.instr = s.jtag.instr) (hs : t.safety.causes = []) (ha : t.portA.wheel.gate = s.portA.wheel.gate)
    (hb : t.portB.wheel.gate = s.portB.wheel.gate) (he : t.emit = s.emit) (h : DarkSafe s) : DarkSafe t := by
  refine lasers_dark (fun hF => ?_) ha hb (by rw [he]; exact id) h
  rcases hF with k | k | k | k
  · exact Or.inl (hc ▸ k)
  · exact absurd hs k
  · exact Or.inr (Or.inr (Or.inl (hp ▸ k)))
  · exact Or.inr (Or.inr (Or.inr (hj ▸ k)))

/-! Pens and blocks (09 R208 to R213). -/

/-- The blocks in use are a part of what was in use. -/
theorem blocksOk_sub {q r : Pens} (h : (usedBlocks r).Sublist (usedBlocks q)) (hq : BlocksOk q) : BlocksOk r :=
  ⟨hq.1.sublist h, fun b hb => hq.2 b (h.subset hb)⟩

/-- The blocks in use are the same, in another order. -/
theorem blocksOk_perm {q r : Pens} (h : (usedBlocks r).Perm (usedBlocks q)) (hq : BlocksOk q) : BlocksOk r :=
  ⟨h.nodup_iff.mpr hq.1, fun b hb => hq.2 b (h.mem_iff.mp hb)⟩

theorem usedBlocks_map (q : Pens) (f : Nat × Pen → Nat × Pen) (hf : ∀ e, (f e).2.blocks = e.2.blocks) :
    usedBlocks { q with list := q.list.map f } = usedBlocks q := by
  simp [usedBlocks, List.flatMap_map, hf]

/-- A record update of the pens alone. -/
theorem pens_eff (s : State) (q : Pens) (hb : BlocksOk s.pens → BlocksOk q) : Eff [.pens] s { s with pens := q } :=
  ⟨fun p hp => by cases p <;> first | rfl | (simp at hp), id, hb, id, id⟩

theorem mapPens_blocks (q : Pens) (f : Nat × Pen → Nat × Pen) (hf : ∀ e, (f e).2.blocks = e.2.blocks) (h : BlocksOk q) :
    BlocksOk { q with list := q.list.map f } := by
  rw [BlocksOk, usedBlocks_map q f hf]
  exact h

/-- A change of every pen that keeps their blocks. -/
theorem mapPens_eff (s : State) (f : Nat × Pen → Nat × Pen) (hf : ∀ e, (f e).2.blocks = e.2.blocks) :
    Eff [.pens] s { s with pens := { s.pens with list := s.pens.list.map f } } :=
  pens_eff s _ (mapPens_blocks s.pens f hf)

theorem updPen_eff (s : State) (i : Nat) (f : Pen → Pen) (hf : ∀ q, (f q).blocks = q.blocks) : Eff [.pens] s (updPen s i f) :=
  mapPens_eff s _ fun e => by
    split
    · exact hf _
    · rfl

theorem stopReading_eff (p : Port) (s : State) : Eff [.pens] s (stopReading p s) := by
  cases p <;> exact mapPens_eff s _ fun _ => rfl

theorem passRowFrame_eff (s : State) : Eff [.pens] s (passRowFrame s) := mapPens_eff s _ fun _ => rfl

theorem flatMap_filter_sublist (l : List (Nat × Pen)) (p : Nat × Pen → Bool) :
    ((l.filter p).flatMap (·.2.blocks)).Sublist (l.flatMap (·.2.blocks)) := by
  induction l with
  | nil => exact List.Sublist.refl _
  | cons e l ih =>
    rw [List.filter_cons]
    split
    · rw [List.flatMap_cons, List.flatMap_cons]
      exact (List.Sublist.refl _).append ih
    · rw [List.flatMap_cons]
      exact ih.trans (List.sublist_append_right _ _)

theorem removePen_eff (i : Nat) (s : State) : Eff [.pens] s (removePen i s) :=
  pens_eff s _ (blocksOk_sub ((flatMap_filter_sublist _ _).append (List.Sublist.refl _)))

/-- The pens a filter keeps and those it drops share out the blocks. -/
theorem filter_blocks_perm (l : List (Nat × Pen)) (p : Nat × Pen → Bool) (r : List Nat) :
    ((l.filter fun e => !p e).flatMap (·.2.blocks) ++ (r ++ (l.filter p).flatMap (·.2.blocks))).Perm (l.flatMap (·.2.blocks) ++ r) := by
  have h : ((l.filter p).flatMap (·.2.blocks) ++ (l.filter fun e => !p e).flatMap (·.2.blocks)).Perm (l.flatMap (·.2.blocks)) := by
    rw [← List.flatMap_append]
    exact (List.filter_append_perm p l).flatMap_right _
  have h1 : ((l.filter fun e => !p e).flatMap (·.2.blocks) ++ (r ++ (l.filter p).flatMap (·.2.blocks))).Perm
      (((l.filter p).flatMap (·.2.blocks) ++ (l.filter fun e => !p e).flatMap (·.2.blocks)) ++ r) := by
    refine (List.perm_append_comm).trans ?_
    rw [List.append_assoc, List.append_assoc]
    refine List.perm_append_comm.trans ?_
    rw [List.append_assoc]
  exact h1.trans (h.append_right r)

theorem dropLivePens_eff (p : Port) (s : State) : Eff [.pens] s (dropLivePens p s) :=
  pens_eff s _ (blocksOk_perm (filter_blocks_perm s.pens.list (fun e => e.2.kind == .live && e.2.port == p) s.pens.reserve))

/-! The core reset (04 R76). -/

theorem reset_dark : Dark State.reset := by
  refine ⟨rfl, rfl, fun l hl => ?_⟩
  rw [List.eq_of_mem_replicate hl]
  exact ⟨rfl, rfl⟩

theorem reset_queue : QueueOk State.reset.beacon := ⟨by decide, List.Pairwise.nil, by decide⟩

theorem reset_blocks : BlocksOk State.reset.pens := ⟨List.nodup_nil, fun _ h => absurd h List.not_mem_nil⟩

/-- A core reset keeps what lies outside the core, but for the discarded `CODE_CHANGED` marks and a free value's count. -/
theorem coreReset_eff (s : State) :
    Eff [.aon, .safety, .core, .cart, .keeper, .clocks, .mem, .binding, .gather, .codec, .pens, .matrix, .select, .canvas, .portA, .portB,
      .engine, .bright, .emit, .lamp, .yard, .integrity, .beacon, .free] s (coreReset s) :=
  ⟨fun p hp => by cases p <;> first | rfl | (simp at hp), fun _ => reset_queue, fun _ => reset_blocks,
    fun _ => rfl, fun _ _ => reset_dark⟩

/-! Free values. -/

theorem pulse_eff (s : State) (a b c : Nat) : Eff [.free] s (pulse s a b c).2 := by
  unfold pulse
  split
  · exact Eff.refl _ s
  · split
    · exact Eff.refl _ s
    · exact ⟨fun p hp => by cases p <;> first | rfl | (simp at hp), id, id, id, id⟩

end Sys2Proof.Laws
end

