-- ==== Sys2Proof/Laws/Memory.lean ====
section
/-! SUPPORT. The bytes of T0 to T5: what the writes of the memory do to what is read, and that they keep its canonical form. -/

namespace Sys2Proof.Laws

open Sys2Proof Machine

/-! Lists of bytes. -/

theorem insertCell_mem {c d : Host.Cell} {l : List Host.Cell} (h : d ∈ insertCell c l) : d = c ∨ d ∈ l := by
  induction l with
  | nil => exact .inl (List.mem_singleton.mp h)
  | cons e l ih =>
    unfold insertCell at h
    split at h
    · exact List.mem_cons.mp h
    · split at h
      · exact (List.mem_cons.mp h).imp id (List.mem_cons_of_mem _)
      · rcases List.mem_cons.mp h with rfl | h
        · exact .inr List.mem_cons_self
        · exact (ih h).imp id (List.mem_cons_of_mem _)

/-- A byte put in keeps the addresses rising. -/
theorem insertCell_rising {c : Host.Cell} {l : List Host.Cell} (h : rising l = true) : rising (insertCell c l) = true := by
  simp only [rising, decide_eq_true_eq] at h ⊢
  induction l with
  | nil => exact List.pairwise_singleton _ _
  | cons e l ih =>
    have hp := List.pairwise_cons.mp h
    unfold insertCell
    split
    · rename_i hc
      exact List.pairwise_cons.mpr ⟨fun d hd => (List.mem_cons.mp hd).elim (fun k => k ▸ hc) fun k => hc.trans (hp.1 d k), h⟩
    · split
      · rename_i hc
        exact List.pairwise_cons.mpr ⟨fun d hd => hc ▸ hp.1 d hd, hp.2⟩
      · refine List.pairwise_cons.mpr ⟨fun d hd => ?_, ih hp.2⟩
        rcases insertCell_mem hd with rfl | k
        · omega
        · exact hp.1 d k

/-- The byte put in is the one read at its address. -/
theorem cellAt_insertCell (c : Host.Cell) (l : List Host.Cell) : cellAt (insertCell c l) c.1 = some c.2 := by
  unfold cellAt
  induction l with
  | nil => simp [insertCell]
  | cons e l ih =>
    unfold insertCell
    split
    · simp
    · split
      · simp
      · rename_i h
        rw [List.find?_cons_of_neg (by simpa using fun k => h k.symm)]
        exact ih

/-- Every other address reads as before. -/
theorem cellAt_insertCell_other {c : Host.Cell} {a : Nat} (h : a ≠ c.1) (l : List Host.Cell) :
    cellAt (insertCell c l) a = cellAt l a := by
  have hn : (c.1 == a) = false := by simpa using fun k => h k.symm
  unfold cellAt
  induction l with
  | nil => simp [insertCell, hn]
  | cons e l ih =>
    unfold insertCell
    split
    · simp only [List.find?_cons, hn]
    · split
      · rename_i he
        simp only [List.find?_cons, hn, show (e.1 == a) = false from he ▸ hn]
      · simp only [List.find?_cons]
        cases e.1 == a
        · exact ih
        · rfl

/-- An address written with 0 is not listed. -/
theorem cellAt_putCell (c : Host.Cell) (l : List Host.Cell) : (cellAt (putCell l c) c.1).getD 0 = c.2 := by
  unfold putCell
  split
  · rename_i h
    have : (l.filter (·.1 != c.1)).find? (·.1 == c.1) = none := by simp
    simp [cellAt, this, h]
  · rw [cellAt_insertCell]
    rfl

/-- Every other address of the frame store reads as before. -/
theorem cellAt_putCell_other {c : Host.Cell} {a : Nat} (h : a ≠ c.1) (l : List Host.Cell) :
    cellAt (putCell l c) a = cellAt l a := by
  unfold putCell
  split
  · unfold cellAt
    rw [List.find?_filter]
    congr 2
    funext e
    by_cases k : e.1 = a
    · simp [k, h]
    · simp [k]
  · exact cellAt_insertCell_other h l

theorem putCell_wf {c : Host.Cell} {l : List Host.Cell} (h : rising l = true) (hz : l.all (fun d => d.2 != 0) = true) :
    rising (putCell l c) = true ∧ (putCell l c).all (fun d => d.2 != 0) = true := by
  unfold putCell
  split
  · refine ⟨?_, List.all_eq_true.mpr fun d hd => List.all_eq_true.mp hz d (List.mem_of_mem_filter hd)⟩
    simp only [rising, decide_eq_true_eq] at h ⊢
    exact h.filter _
  · rename_i hc
    refine ⟨insertCell_rising h, List.all_eq_true.mpr fun d hd => ?_⟩
    rcases insertCell_mem hd with rfl | k
    · simpa using hc
    · exact List.all_eq_true.mp hz d k

/-! Writes (09 R219). -/

/-- A byte written keeps the memory's canonical form. -/
theorem writeByte_wf (s : State) (c : Host.Cell) (h : memoryWf s.matrix = true) : memoryWf (writeByte s c).matrix = true := by
  have store : memoryWf { s.matrix with cells := putCell s.matrix.cells c } = true := by
    simp only [memoryWf, Bool.and_eq_true] at h ⊢
    exact ⟨putCell_wf h.1.1 h.1.2, h.2⟩
  unfold writeByte
  split
  · split
    · split
      · exact h
      · exact store
    · exact store
  · split
    · simp only [memoryWf, Bool.and_eq_true] at h ⊢
      exact ⟨h.1, insertCell_rising h.2⟩
    · exact h

/-- A byte written changes pens and memory alone. -/
theorem writeByte_eff (s : State) (c : Host.Cell) : Eff [.pens, .matrix] s (writeByte s c) := by
  have hw := writeByte_wf s c
  unfold writeByte at hw ⊢
  split
  · split
    · split
      · exact (updPen_eff _ _ _ (by exact fun _ => rfl)).mono rfl
      · refine Eff.set_matrix (Eff.refl _ _) rfl ?_
        simp_all
    · refine Eff.set_matrix (Eff.refl _ _) rfl ?_
      simp_all
  · split
    · refine Eff.set_matrix (Eff.refl _ _) rfl ?_
      simp_all
    · exact Eff.refl _ _

/-- What an address of T0 to T5 that no pen holds reads as after it is written. -/
theorem readByte_writeByte (s : State) (c : Host.Cell) (ht : targetOf c.1 < 6) (hp : penAt s c.1 = none) :
    readByte (writeByte s c) c.1 = c.2 := by
  unfold readByte writeByte
  split
  · rename_i h
    have hp' : penAt { s with matrix := { s.matrix with cells := putCell s.matrix.cells c } } c.1 = none := hp
    simp only [hp, storeByte, hp', Option.bind_none, Option.getD_none]
    exact cellAt_putCell _ _
  · simp only [tableByte, cellAt_insertCell, Option.some_or, Option.getD_some]

end Sys2Proof.Laws
end

