-- ==== Sys2Proof/Laws/Blocks.lean ====
section
/-! SUPPORT. The allocator gives blocks that nothing uses (09 R213), so that no operation on pens gives a block twice. -/

namespace Sys2Proof.Laws

open Sys2Proof Machine

/-! The allocator (R213). -/

theorem inQuad_mem {free : List Nat} {k b : Nat} {rest : List Nat} (h : inQuad free k = b :: rest) : b ∈ free :=
  (List.mem_filter.mp (h ▸ List.mem_cons_self : b ∈ inQuad free k)).1

/-- The blocks taken are FREE ones, each once. -/
theorem takeBlocks_spec (n : Nat) : ∀ (k : Nat) (free : List Nat), free.Nodup →
    (takeBlocks n k free).Nodup ∧ ∀ b ∈ takeBlocks n k free, b ∈ free := by
  induction n with
  | zero => exact fun _ _ _ => ⟨List.nodup_nil, fun _ h => absurd h List.not_mem_nil⟩
  | succ n ih =>
    intro k free hf
    unfold takeBlocks
    split
    · exact ⟨List.nodup_nil, fun _ h => absurd h List.not_mem_nil⟩
    · rename_i b _ hb
      have hr := ih (nextQuad (free.erase b) k) (free.erase b) (hf.erase b)
      refine ⟨List.nodup_cons.mpr ⟨fun h => ?_, hr.1⟩, fun c hc => ?_⟩
      · exact hf.not_mem_erase (hr.2 b h)
      · rcases List.mem_cons.mp hc with rfl | h
        · exact inQuad_mem hb
        · exact List.mem_of_mem_erase (hr.2 c h)

theorem freeBlocks_nodup (q : Pens) : (freeBlocks q).Nodup := List.nodup_range.filter _

theorem freeBlocks_unused {q : Pens} {b : Nat} (h : b ∈ freeBlocks q) : b < 128 ∧ b ∉ usedBlocks q := by
  have hm := List.mem_filter.mp h
  exact ⟨List.mem_range.mp hm.1, by simpa using hm.2⟩

/-- The blocks of a new pen are unused, and each is given once. -/
theorem allocBlocks_spec (q : Pens) (n : Nat) :
    (allocBlocks q n).Nodup ∧ ∀ b ∈ allocBlocks q n, b < 128 ∧ b ∉ usedBlocks q :=
  ⟨(takeBlocks_spec n _ _ (freeBlocks_nodup q)).1,
    fun b h => freeBlocks_unused ((takeBlocks_spec n _ _ (freeBlocks_nodup q)).2 b h)⟩

/-- Blocks that a set of pens can take without using one twice. -/
def Fresh (bs : List Nat) (q : Pens) : Prop := BlocksOk q → (bs ++ usedBlocks q).Nodup ∧ ∀ b ∈ bs, b < 128

theorem fresh_alloc (q : Pens) (n : Nat) : Fresh (allocBlocks q n) q := fun h =>
  ⟨List.nodup_append.mpr ⟨(allocBlocks_spec q n).1, h.1, fun a ha _ hb hab => ((allocBlocks_spec q n).2 a ha).2 (hab ▸ hb)⟩,
    fun b hb => ((allocBlocks_spec q n).2 b hb).1⟩

/-- Blocks in use after a change that adds fresh ones. -/
theorem blocksOk_add {q r : Pens} {bs : List Nat} (hf : Fresh bs q) (hp : (usedBlocks r).Perm (bs ++ usedBlocks q)) (h : BlocksOk q) :
    BlocksOk r :=
  ⟨hp.nodup_iff.mpr (hf h).1, fun b hb => (List.mem_append.mp (hp.mem_iff.mp hb)).elim ((hf h).2 b) (h.2 b)⟩

/-- Adding a pen of fresh blocks. -/
theorem addPen_eff (q : Pen) (s : State) (hf : Fresh q.blocks s.pens) : Eff [.pens] s (addPen q s).2 :=
  pens_eff s _ (blocksOk_add hf (by
    simp only [usedBlocks, List.flatMap_append, List.flatMap_cons, List.flatMap_nil, List.append_nil]
    rw [List.append_assoc, ← List.append_assoc q.blocks]
    rw [← List.append_assoc]
    exact List.perm_append_comm.append_right _))

/-! The live reserve (R209, R252). -/

theorem fitReserve_eff (s : State) : Eff [.pens] s (fitReserve s) := by
  unfold fitReserve
  dsimp only
  refine Eff.ite (fun _ => ?_) (fun _ => ?_)
  · exact pens_eff s _ (blocksOk_sub ((List.Sublist.refl _).append (List.take_sublist _ _)))
  · exact pens_eff s _ (blocksOk_add (fresh_alloc s.pens _) (by
      simp only [usedBlocks]
      rw [← List.append_assoc]
      exact List.perm_append_comm))

/-- A filter that drops a pen drops its blocks: what it keeps and the pen's blocks were all in use. -/
theorem filter_drop_sub (l : List (Nat × Pen)) (i : Nat) (e : Nat × Pen) (he : e ∈ l) (hi : (e.1 != i) = false) :
    ∃ xs, ((l.filter fun x => x.1 != i).flatMap (·.2.blocks) ++ e.2.blocks).Perm xs ∧ xs.Sublist (l.flatMap (·.2.blocks)) := by
  induction l with
  | nil => exact absurd he List.not_mem_nil
  | cons x l ih =>
    rcases List.mem_cons.mp he with rfl | hm
    · refine ⟨e.2.blocks ++ (l.filter fun y => y.1 != i).flatMap (·.2.blocks), ?_, ?_⟩
      · rw [List.filter_cons, hi]
        exact List.perm_append_comm
      · rw [List.flatMap_cons]
        exact (List.Sublist.refl _).append (flatMap_filter_sublist l _)
    · obtain ⟨xs, hp, hs⟩ := ih hm
      rw [List.filter_cons]
      split
      · refine ⟨x.2.blocks ++ xs, ?_, ?_⟩
        · rw [List.flatMap_cons, List.append_assoc]
          exact hp.append_left _
        · rw [List.flatMap_cons]
          exact (List.Sublist.refl _).append hs
      · refine ⟨xs, hp, ?_⟩
        rw [List.flatMap_cons]
        exact hs.trans (List.sublist_append_right _ _)

/-- A pen that is freed leaves its blocks to the reserve, or to no one. -/
theorem freePen_eff (i : Nat) (s : State) : Eff [.pens] s (freePen i s) := by
  unfold freePen penOf
  cases h : s.pens.list.find? (·.1 == i) with
  | none => exact Eff.refl _ _
  | some e =>
    simp only [Option.map_some]
    have hm : e ∈ s.pens.list := List.mem_of_find?_eq_some h
    have hi : (e.1 != i) = false := by
      have := List.find?_some h
      simpa [bne] using this
    obtain ⟨xs, hp, hs⟩ := filter_drop_sub s.pens.list i e hm hi
    refine Eff.comp ?_ (fitReserve_eff _) rfl
    split
    · refine pens_eff s _ fun hb => ?_
      have h1 : BlocksOk { s.pens with list := [(0, { blocks := xs })], reserve := s.pens.reserve } := by
        refine blocksOk_sub ?_ hb
        simp only [usedBlocks, List.flatMap_cons, List.flatMap_nil, List.append_nil]
        exact hs.append (List.Sublist.refl _)
      refine blocksOk_perm ?_ h1
      simp only [usedBlocks, removePen, List.flatMap_cons, List.flatMap_nil, List.append_nil]
      refine List.Perm.trans ?_ (hp.append_right _)
      rw [List.append_assoc]
      exact List.perm_append_comm.append_left _
    · exact removePen_eff i s

/-- A live pen takes its blocks from the reserve. -/
theorem reserve_take_perm (q : Pens) (n : Nat) (p : Pen) (hp : p.blocks = q.reserve.take n) (next : Nat) :
    (usedBlocks { list := q.list ++ [(q.next, p)], next, reserve := q.reserve.drop n }).Perm (usedBlocks q) := by
  simp only [usedBlocks, List.flatMap_append, List.flatMap_cons, List.flatMap_nil, List.append_nil, hp]
  rw [List.append_assoc, List.take_append_drop]

end Sys2Proof.Laws
end

