-- ==== Sys2Proof/Laws/Footprints.lean ====
section
/-! SUPPORT. One lemma for each operation of the model that changes the state: the parts it changes, and that it keeps the event
queue, the frame store's blocks and darkness. -/

namespace Sys2Proof.Laws

open Sys2Proof Machine

theorem coverRead_eff (frames : ℕ) (s : State) : Eff [.keeper, .beacon] s (coverRead frames s) := by
  unfold coverRead
  dsimp only
  exact Eff.ite (fun _ => Eff.comp (Eff.set_keeper (Eff.refl _ _) rfl) (report_eff _ _ _ _) rfl) fun _ => Eff.set_keeper
      (Eff.refl _ _) rfl

theorem endedJob_eff (r : Option Requester) (leaf : ℕ) (err : ℕ) (s : State) : Eff [.codec] s (endedJob r leaf err s) := by
  unfold endedJob
  exact Eff.set_codec (Eff.refl _ _) rfl

theorem promote_eff (s : State) : Eff [.codec] s (promote s) := by
  unfold promote
  dsimp only
  exact Eff.set_codec (Eff.refl _ _) rfl

theorem endRunning_eff (s : State) : Eff [.codec, .pens] s (endRunning s) := by
  unfold endRunning
  dsimp only
  refine Eff.comp ?_ (promote_eff _) rfl
  refine Eff.set_codec ?_ rfl
  split
  · exact (removePen_eff _ _).mono rfl
  · exact Eff.refl _ _

theorem retirePen_eff (i : ℕ) (s : State) : Eff [.pens] s (retirePen i s) := by
  unfold retirePen
  dsimp only
  exact (updPen_eff _ _ _ (by exact fun _ => rfl)).mono rfl

theorem retirePens_eff (l : List ℕ) (s : State) : Eff [.pens] s (retirePens l s) := by
  unfold retirePens
  exact Eff.foldl (fun _ _ => (retirePen_eff _ _).mono rfl) _ (Eff.refl _ _)

theorem freeStitch_eff (s : State) : Eff [.pens] s (freeStitch s) := by
  unfold freeStitch
  exact (retirePens_eff _ _).mono rfl

theorem stopStitchReads_eff (s : State) : Eff [.mem, .binding] s (stopStitchReads s) := by
  unfold stopStitchReads
  refine Eff.ite (fun _ => ?_) fun _ => ?_
  · dsimp only
    exact Eff.ofMk (Eff.refl _ _) id id id id
  · exact Eff.refl _ _

theorem holdPen_eff (r : Requester) (i : ℕ) (s : State) : Eff [.pens] s (holdPen r i s) := by
  unfold holdPen
  exact Eff.ite (fun _ => (updPen_eff _ _ _ (by exact fun _ => rfl)).mono rfl) fun _ => Eff.refl _ _

theorem enqueue_eff (j : Job) (s : State) : Eff [.codec] s (enqueue j s) := by
  unfold enqueue
  exact Eff.comp (Eff.set_codec (Eff.refl _ _) rfl) (promote_eff _) rfl

theorem requestLeaf_eff (shadow : Bool) (c : Settings) (r : Requester) (n : ℕ) (i : ℕ) (s : State) :
    Eff [.codec, .pens] s (requestLeaf shadow c r n i s) := by
  unfold requestLeaf
  dsimp only
  split
  · exact Eff.ite (fun _ => (holdPen_eff _ _ _).mono rfl) fun _ => Eff.ite (fun _ => Eff.refl _ _) fun _ => (enqueue_eff _
        _).mono rfl
  · exact Eff.ite (fun _ => Eff.set_codec (Eff.refl _ _) rfl) fun _ => Eff.ite (fun _ => Eff.comp (Eff.set_codec (Eff.refl _ _)
        rfl) (enqueue_eff _ _) rfl) fun _ => (enqueue_eff _ _).mono rfl

theorem rejoin_eff (j : Job) (q : Requester × ℕ) (s : State) : Eff [.codec, .pens] s (rejoin j q s) := by
  unfold rejoin
  split
  · exact (requestLeaf_eff _ _ _ _ _ _).mono rfl
  · exact Eff.refl _ _

theorem dropJobs_eff (r : Requester → Bool) (s : State) : Eff [.codec, .pens] s (dropJobs r s) := by
  unfold dropJobs
  dsimp only
  exact Eff.foldl (fun _ _ => Eff.foldl (fun _ _ => (rejoin_eff _ _ _).mono rfl) _ (Eff.refl _ _)) _ (Eff.comp (Eff.set_codec
      (Eff.foldl (fun _ _ => (removePen_eff _ _).mono rfl) _ (Eff.refl _ _)) rfl) (promote_eff _) rfl)

theorem dropStitch_eff (s : State) : Eff [.mem, .binding, .codec, .pens] s (dropStitch s) := by
  unfold dropStitch
  exact Eff.comp (Eff.comp ((dropJobs_eff _ _).mono rfl) (stopStitchReads_eff _) rfl) (freeStitch_eff _) rfl

theorem restartConv_eff (s : State) : Eff [.engine] s (restartConv s) := by
  unfold restartConv
  dsimp only
  exact Eff.set_engine (Eff.refl _ _) rfl

theorem followVertical_eff (st : Store) (s : State) : Eff [.portA, .portB] s (followVertical st s) := by
  unfold followVertical
  exact Eff.comp ((updPort_eff _ _ _ (by exact fun _ => id)).mono rfl) (updPort_eff _ _ _ (by exact fun _ => id)) rfl

theorem markShown_eff (i : Option ℕ) (s : State) : Eff [.pens] s (markShown i s) := by
  unfold markShown
  split
  · exact Eff.refl _ _
  · exact (updPen_eff _ _ _ (by exact fun _ => rfl)).mono rfl

theorem showOn_eff (p : Port) (e : Option ℕ) (s : State) : Eff [.pens, .portA, .portB] s (showOn p e s) := by
  unfold showOn
  dsimp only
  exact Eff.comp (Eff.comp ((updPort_eff _ _ _ (by exact fun _ => id)).mono rfl) (markShown_eff _ _) rfl) (markShown_eff _ _)
      rfl

theorem reshow_eff (s : State) : Eff [.pens, .portA, .portB] s (reshow s) := by
  unfold reshow
  dsimp only
  refine Eff.foldl (fun _ _ => ?_) _ ?_
  · split
    · exact (showOn_eff _ _ _).mono rfl
    · exact Eff.refl _ _
  · exact Eff.refl _ _

theorem dropUnwanted_eff (s : State) : Eff [.pens] s (dropUnwanted s) := by
  unfold dropUnwanted
  dsimp only
  refine Eff.comp ?_ (retirePens_eff _ _) rfl
  refine Eff.set_pens ?_ rfl (mapPens_blocks _ _ fun _ => rfl)
  exact Eff.refl _ _

theorem requestEntry_eff (shadow : Bool) (c : Settings) (r : Requester) (n : ℕ) (s : State) :
    Eff [.codec, .pens] s (requestEntry shadow c r n s) := by
  unfold requestEntry
  exact Eff.foldl (fun _ _ => (requestLeaf_eff _ _ _ _ _ _).mono rfl) _ (Eff.refl _ _)

theorem resolvePending_eff (s : State) : Eff [.codec, .pens, .select, .beacon] s (resolvePending s) := by
  unfold resolvePending
  split
  · exact Eff.refl _ _
  · refine Eff.ite (fun _ => ?_) fun _ => ?_
    · refine Eff.comp ?_ (report_eff _ _ _ _) rfl
      refine Eff.ofMk ?_ id id id id
      exact Eff.refl _ _
    · refine Eff.ite (fun _ => ?_) fun _ => ?_
      · refine Eff.set_select ?_ rfl
        exact Eff.refl _ _
      · exact (requestEntry_eff _ _ _ _ _).mono rfl

theorem issueReads_eff (spans : List (ℕ × ℕ)) (s : State) : Eff [.mem] s (issueReads spans s) := by
  unfold issueReads
  exact Eff.set_mem (Eff.refl _ _) rfl

theorem pumpReads_eff (s : State) : Eff [.mem] s (pumpReads s) := by
  unfold pumpReads
  refine Eff.ite (fun _ => ?_) fun _ => ?_
  · exact Eff.refl _ _
  · split
    · exact Eff.comp (Eff.set_mem (Eff.refl _ _) rfl) (issueReads_eff _ _) rfl
    · exact Eff.refl _ _

theorem closeGather_eff (outcome : ℕ) (reason : ℕ) (s : State) :
    Eff [.mem, .binding, .gather, .codec, .pens, .select, .beacon] s (closeGather outcome reason s) := by
  unfold closeGather
  dsimp only
  refine Eff.ite (fun _ => ?_) fun _ => ?_
  · refine Eff.comp ?_ (dropUnwanted_eff _) rfl
    refine Eff.comp ?_ (resolvePending_eff _) rfl
    refine Eff.comp ?_ (report_eff _ _ _ _) rfl
    refine Eff.ofMk ?_ id id id id
    exact Eff.refl _ _
  · refine Eff.comp ?_ (pumpReads_eff _) rfl
    refine Eff.set_mem ?_ rfl
    refine Eff.comp ?_ (dropUnwanted_eff _) rfl
    refine Eff.comp ?_ (resolvePending_eff _) rfl
    refine Eff.comp ?_ (report_eff _ _ _ _) rfl
    refine Eff.ofMk ?_ id id id id
    exact Eff.refl _ _

theorem restoreProgress_eff (s : State) :
    Eff [.mem, .binding, .gather, .codec, .pens, .select, .portA, .portB, .beacon] s (restoreProgress s) := by
  unfold restoreProgress
  dsimp only
  exact Eff.ite (fun _ => Eff.comp (Eff.ite (fun _ => Eff.comp (Eff.set_gather (Eff.refl _ _) rfl) (reshow_eff _) rfl) fun _ =>
      Eff.refl _ _) (closeGather_eff _ _ _) rfl) fun _ => Eff.ite (fun _ => Eff.comp (Eff.set_gather (Eff.refl _ _) rfl)
      (reshow_eff _) rfl) fun _ => Eff.refl _ _

theorem requestRestore_eff (s : State) : Eff [.codec, .pens] s (requestRestore s) := by
  unfold requestRestore
  split
  · exact (requestEntry_eff _ _ _ _ _).mono rfl
  · exact Eff.refl _ _

theorem beginRestore_eff (reason : ℕ) (s : State) :
    Eff [.mem, .binding, .gather, .codec, .pens, .select, .portA, .portB, .engine, .beacon] s (beginRestore reason s) := by
  unfold beginRestore
  dsimp only
  exact Eff.comp (Eff.ite (fun _ => Eff.comp (Eff.comp (Eff.comp (Eff.set_gather ((dropStitch_eff _).mono rfl) rfl)
      (followVertical_eff _ _) rfl) (restartConv_eff _) rfl) (requestRestore_eff _) rfl) fun _ => Eff.comp (Eff.comp
      (Eff.set_gather ((dropStitch_eff _).mono rfl) rfl) (followVertical_eff _ _) rfl) (restartConv_eff _) rfl)
      (restoreProgress_eff _) rfl

theorem redirect_eff (reason : ℕ) (s : State) : Eff [.gather] s (redirect reason s) := by
  unfold redirect
  exact Eff.ite (fun _ => Eff.set_gather (Eff.refl _ _) rfl) fun _ => Eff.refl _ _

theorem rollback_eff (reason : ℕ) (s : State) :
    Eff [.mem, .binding, .gather, .codec, .pens, .select, .portA, .portB, .engine, .beacon] s (rollback reason s) := by
  unfold rollback
  split
  · exact Eff.refl _ _
  · exact (beginRestore_eff _ _).mono rfl
  · exact (beginRestore_eff _ _).mono rfl
  · exact (redirect_eff _ _).mono rfl
  · exact Eff.comp ((dropStitch_eff _).mono rfl) (closeGather_eff _ _ _) rfl

theorem restoreFails_eff (s : State) : Eff [.mem, .binding, .gather, .codec, .pens, .select, .beacon] s (restoreFails s) := by
  unfold restoreFails
  dsimp only
  exact Eff.ite (fun _ => Eff.comp (Eff.set_gather ((dropJobs_eff _ _).mono rfl) rfl) (closeGather_eff _ _ _) rfl) fun _ =>
      (dropJobs_eff _ _).mono rfl

theorem refusePending_eff (n : ℕ) (s : State) : Eff [.select] s (refusePending n s) := by
  unfold refusePending
  exact Eff.ite (fun _ => Eff.set_select (Eff.refl _ _) rfl) fun _ => Eff.refl _ _

theorem dropCalJobs_eff (s : State) : Eff [.codec, .pens] s (dropCalJobs s) := by
  unfold dropCalJobs
  exact (dropJobs_eff _ _).mono rfl

theorem coastPort_eff (p : Port) (s0 : State) : Eff [.pens, .portA, .portB, .emit, .beacon] s0 (coastPort p s0) := by
  unfold coastPort
  dsimp only
  refine Eff.comp ?_ (dropLivePens_eff _ _) rfl
  refine Eff.comp ?_ (stopReading_eff _ _) rfl
  refine Eff.comp ?_ (darkChannels_eff _ _) rfl
  refine Eff.comp ?_ (updPort_eff _ _ _ (by exact fun _ h => absurd h Bool.false_ne_true)) rfl
  refine Eff.ite (fun _ => ?_) fun _ => ?_
  · refine Eff.set_beacon ?_ rfl id
    exact Eff.refl _ _
  · exact Eff.refl _ _

theorem coastBoth_eff (s : State) : Eff [.pens, .portA, .portB, .emit, .beacon] s (coastBoth s) := by
  unfold coastBoth
  exact Eff.comp ((coastPort_eff _ _).mono rfl) (coastPort_eff _ _) rfl

theorem startRetry_eff (s : State) : Eff [.cart] s (startRetry s) := by
  unfold startRetry
  exact Eff.ite (fun _ => Eff.refl _ _) fun _ => Eff.set_cart (Eff.refl _ _) rfl

theorem failQual_eff (counted : Bool) (s : State) :
    Eff [.cart, .codec, .pens, .portA, .portB, .emit, .beacon] s (failQual counted s) := by
  unfold failQual
  dsimp only
  exact Eff.ite (fun _ => Eff.comp (Eff.comp (Eff.comp (Eff.comp (Eff.set_cart (Eff.refl _ _) rfl) (coastBoth_eff _) rfl)
      (dropCalJobs_eff _) rfl) (report_eff _ _ _ _) rfl) (startRetry_eff _) rfl) fun _ => Eff.comp (Eff.comp (Eff.comp
      (Eff.set_cart (Eff.refl _ _) rfl) (coastBoth_eff _) rfl) (dropCalJobs_eff _) rfl) (report_eff _ _ _ _) rfl

theorem requesterFails_eff (e : JobEnd) (r : Requester) (n : ℕ) (s : State) :
    Eff [.cart, .mem, .binding, .gather, .codec, .pens, .select, .portA, .portB, .engine, .emit, .beacon] s (requesterFails e r
      n s) := by
  unfold requesterFails
  split
  · exact (rollback_eff _ _).mono rfl
  · exact (restoreFails_eff _).mono rfl
  · exact (refusePending_eff _ _).mono rfl
  · exact Eff.refl _ _
  · exact (failQual_eff _ _).mono rfl
  · exact (report_eff _ _ _ _).mono rfl

theorem jobFails_eff (e : JobEnd) (j : Job) (s : State) :
    Eff [.cart, .mem, .binding, .gather, .codec, .pens, .select, .portA, .portB, .engine, .emit, .beacon] s (jobFails e j s) :=
      by
  unfold jobFails
  dsimp only
  refine Eff.foldl (fun _ _ => ?_) _ ?_
  · exact (requesterFails_eff _ _ _ _).mono rfl
  · split
    · exact Eff.comp (Eff.set_codec (Eff.comp ((endRunning_eff _).mono rfl) (endedJob_eff _ _ _ _) rfl) rfl) (reportX_eff _ _ _
          _ _) rfl
    · exact Eff.comp ((endRunning_eff _).mono rfl) (endedJob_eff _ _ _ _) rfl

theorem readLost_eff (reason : ℕ) (j : Job) (s : State) :
    Eff [.cart, .mem, .binding, .gather, .codec, .pens, .select, .portA, .portB, .engine, .emit, .beacon] s (readLost reason j
      s) := by
  unfold readLost
  dsimp only
  exact Eff.comp (Eff.comp (Eff.set_binding (Eff.refl _ _) rfl) (report_eff _ _ _ _) rfl) (jobFails_eff _ _ _) rfl

theorem rerun_eff (j : Job) (s : State) : Eff [.codec, .pens] s (rerun j s) := by
  unfold rerun
  dsimp only
  refine Eff.set_codec ?_ rfl
  split
  · exact (removePen_eff _ _).mono rfl
  · exact Eff.refl _ _

theorem readFails_eff (reason : ℕ) (j : Job) (s : State) :
    Eff [.cart, .keeper, .mem, .binding, .gather, .codec, .pens, .select, .portA, .portB, .engine, .emit, .beacon] s (readFails
      reason j s) := by
  unfold readFails
  dsimp only
  exact Eff.ite (fun _ => Eff.comp (Eff.ite (fun _ => (coverRead_eff _ _).mono rfl) fun _ => Eff.refl _ _) (readLost_eff _ _ _)
      rfl) fun _ => Eff.ite (fun _ => Eff.comp (Eff.ite (fun _ => (coverRead_eff _ _).mono rfl) fun _ => Eff.refl _ _)
      (rerun_eff _ _) rfl) fun _ => Eff.ite (fun _ => Eff.comp (Eff.set_mem (Eff.comp (Eff.ite (fun _ => (coverRead_eff _
      _).mono rfl) fun _ => Eff.refl _ _) (rerun_eff _ _) rfl) rfl) (pumpReads_eff _) rfl) fun _ => Eff.comp (Eff.ite (fun _ =>
      (coverRead_eff _ _).mono rfl) fun _ => Eff.refl _ _) (readLost_eff _ _ _) rfl

theorem failJobRead_eff (s : State) :
    Eff [.cart, .keeper, .mem, .binding, .gather, .codec, .pens, .select, .portA, .portB, .engine, .emit, .beacon] s
      (failJobRead s) := by
  unfold failJobRead
  split
  · exact Eff.ite (fun _ => (readFails_eff _ _ _).mono rfl) fun _ => Eff.refl _ _
  · exact Eff.refl _ _

theorem updReader_eff (f : Reader → Reader) (s : State) : Eff [.binding] s (updReader f s) := by
  unfold updReader
  exact Eff.set_binding (Eff.refl _ _) rfl

theorem askReads_eff (l : List MemItem) (s : State) : Eff [.mem] s (askReads l s) := by
  unfold askReads
  exact Eff.comp (Eff.set_mem (Eff.refl _ _) rfl) (pumpReads_eff _) rfl

theorem stitchFound_eff (c : Settings) (s : State) : Eff [.mem, .binding, .gather] s (stitchFound c s) := by
  unfold stitchFound
  dsimp only
  exact Eff.ite (fun _ => Eff.comp (Eff.set_gather (Eff.refl _ _) rfl) (updReader_eff _ _) rfl) fun _ => Eff.comp (Eff.comp
      (Eff.set_gather (Eff.refl _ _) rfl) (updReader_eff _ _) rfl) (askReads_eff _ _) rfl

theorem setStep_eff (q : QualStep) (s : State) : Eff [.cart] s (setStep q s) := by
  unfold setStep
  exact Eff.set_cart (Eff.refl _ _) rfl

theorem portFailsQual_eff (s : State) : Eff [.cart, .codec, .pens, .portA, .portB, .emit, .beacon] s (portFailsQual s) := by
  unfold portFailsQual
  exact Eff.ite (fun _ => Eff.comp ((setStep_eff _ _).mono rfl) (failQual_eff _ _) rfl) fun _ => Eff.refl _ _

theorem freshPorts_eff (s : State) : Eff [.portA, .portB] s (freshPorts s) := by
  unfold freshPorts
  dsimp only
  exact Eff.comp ((updPort_eff _ _ _ (by exact fun _ => id)).mono rfl) (updPort_eff _ _ _ (by exact fun _ => id)) rfl

theorem thermStep_eff (s : State) : Eff [.cart, .codec, .pens, .portA, .portB, .emit, .beacon] s (thermStep s) := by
  unfold thermStep
  dsimp only
  split
  · exact Eff.ite (fun _ => Eff.comp (Eff.comp (Eff.comp (Eff.set_cart ((setStep_eff _ _).mono rfl) rfl) (freshPorts_eff _) rfl)
        (setStep_eff _ _) rfl) (portFailsQual_eff _) rfl) fun _ => Eff.comp ((setStep_eff _ _).mono rfl) (failQual_eff _ _) rfl
  · exact Eff.comp (Eff.comp (Eff.comp (Eff.set_cart ((setStep_eff _ _).mono rfl) rfl) (freshPorts_eff _) rfl) (setStep_eff _ _)
        rfl) (portFailsQual_eff _) rfl
  · exact Eff.comp (Eff.comp (Eff.comp (Eff.set_cart ((setStep_eff _ _).mono rfl) rfl) (freshPorts_eff _) rfl) (setStep_eff _ _)
        rfl) (portFailsQual_eff _) rfl
  · exact Eff.comp ((setStep_eff _ _).mono rfl) (failQual_eff _ _) rfl

theorem loadThresholds_eff (s : State) : Eff [.emit] s (loadThresholds s) := by
  unfold loadThresholds
  dsimp only
  exact Eff.set_emit (Eff.refl _ _) rfl (lasers_dark id rfl rfl fun h => dark_zipIdx h fun _ he => he)

theorem stopUncalibrated_eff (s : State) : Eff [.cart, .beacon] s (stopUncalibrated s) := by
  unfold stopUncalibrated
  exact Eff.comp (Eff.set_cart (Eff.refl _ _) rfl) (report_eff _ _ _ _) rfl

theorem calStep_eff (code : ℕ) (s : State) : Eff [.cart, .codec, .pens, .portA, .portB, .emit, .beacon] s (calStep code s) := by
  unfold calStep
  dsimp only
  refine Eff.ite (fun _ => ?_) fun _ => ?_
  · exact Eff.comp (Eff.comp (Eff.set_cart (Eff.comp (Eff.set_cart (Eff.refl _ _) rfl) (setStep_eff _ _) rfl) rfl)
        (loadThresholds_eff _) rfl) (thermStep_eff _) rfl
  · split
    · exact Eff.comp (Eff.set_cart (Eff.comp (Eff.set_cart (Eff.refl _ _) rfl) (setStep_eff _ _) rfl) rfl) (stopUncalibrated_eff
          _) rfl
    · exact Eff.ite (fun _ => Eff.comp (Eff.set_cart (Eff.comp (Eff.set_cart (Eff.refl _ _) rfl) (setStep_eff _ _) rfl) rfl)
          (failQual_eff _ _) rfl) fun _ => Eff.comp (Eff.set_cart (Eff.comp (Eff.set_cart (Eff.refl _ _) rfl) (setStep_eff _ _)
          rfl) rfl) (enqueue_eff _ _) rfl

theorem startCartridge_eff (s : State) : Eff [.cart, .codec, .pens, .portA, .portB, .emit, .beacon] s (startCartridge s) := by
  unfold startCartridge
  exact Eff.ite (fun _ => (calStep_eff _ _).mono rfl) fun _ => Eff.refl _ _

theorem coverFault_eff (frames : ℕ) (subject : ℕ) (s : State) : Eff [.keeper, .beacon] s (coverFault frames subject s) := by
  unfold coverFault
  dsimp only
  exact Eff.ite (fun _ => Eff.comp (Eff.set_keeper (Eff.refl _ _) rfl) (report_eff _ _ _ _) rfl) fun _ => Eff.set_keeper
      (Eff.refl _ _) rfl

theorem switchRef_eff (r : RefSource) (s : State) : Eff [.keeper, .clocks, .beacon] s (switchRef r s) := by
  unfold switchRef
  exact Eff.comp (Eff.set_clocks (Eff.refl _ _) rfl) (coverFault_eff _ _ _) rfl

theorem startClock_eff (s : State) : Eff [.keeper, .clocks, .beacon] s (startClock s) := by
  unfold startClock
  dsimp only
  exact Eff.ite (fun _ => Eff.ite (fun _ => Eff.comp (Eff.ite (fun _ => Eff.comp (Eff.set_clocks (Eff.refl _ _) rfl) (report_eff
      _ _ _ _) rfl) fun _ => Eff.set_clocks (Eff.refl _ _) rfl) (switchRef_eff _ _) rfl) fun _ => Eff.comp (Eff.set_clocks
      (Eff.ite (fun _ => Eff.comp (Eff.set_clocks (Eff.refl _ _) rfl) (report_eff _ _ _ _) rfl) fun _ => Eff.set_clocks
      (Eff.refl _ _) rfl) rfl) (report_eff _ _ _ _) rfl) fun _ => Eff.ite (fun _ => Eff.comp (Eff.set_clocks (Eff.refl _ _) rfl)
      (report_eff _ _ _ _) rfl) fun _ => Eff.set_clocks (Eff.refl _ _) rfl

theorem packLimit_eff (s : State) : Eff [.pack] s (packLimit s) := by
  unfold packLimit
  exact Eff.set_pack (Eff.refl _ _) rfl

theorem assignChannels_eff (s : State) : Eff [.emit] s (assignChannels s) := by
  unfold assignChannels
  dsimp only
  exact Eff.set_emit (Eff.refl _ _) rfl (lasers_dark id rfl rfl fun h => dark_zipIdx h fun _ he => dark_ite he ⟨rfl, rfl⟩)

theorem goLive_eff (b : Binding) (s : State) :
    Eff [.pack, .core, .cart, .keeper, .clocks, .binding, .codec, .pens, .portA, .portB, .emit, .beacon] s (goLive b s) := by
  unfold goLive
  dsimp only
  refine Eff.comp ?_ (startCartridge_eff _) rfl
  refine Eff.comp ?_ (startClock_eff _) rfl
  refine Eff.comp ?_ (packLimit_eff _) rfl
  refine Eff.comp ?_ (assignChannels_eff _) rfl
  refine Eff.comp ?_ (fitReserve_eff _) rfl
  refine Eff.comp ?_ (followVertical_eff _ _) rfl
  refine Eff.ofMk ?_ id id id id
  exact Eff.refl _ _

theorem startUpEnds_eff (c : Settings) (twin : Bool) (s : State) :
    Eff [.pack, .core, .cart, .keeper, .clocks, .binding, .codec, .pens, .portA, .portB, .emit, .beacon] s (startUpEnds c twin
      s) := by
  unfold startUpEnds
  exact (goLive_eff _ _).mono rfl

theorem endSelection_eff (c : Option Settings) (twin : Bool) (s : State) :
    Eff [.pack, .core, .cart, .keeper, .clocks, .mem, .binding, .gather, .codec, .pens, .portA, .portB, .emit, .beacon] s
      (endSelection c twin s) := by
  unfold endSelection
  dsimp only
  refine Eff.ite (fun _ => ?_) fun _ => ?_
  · split
    · exact Eff.comp ((updReader_eff _ _).mono rfl) (stitchFound_eff _ _) rfl
    · exact (updReader_eff _ _).mono rfl
  · exact Eff.comp ((updReader_eff _ _).mono rfl) (startUpEnds_eff _ _ _) rfl

theorem raiseMode_eff (sp : Spine) (s : State) : Eff [.mem, .beacon] s (raiseMode sp s) := by
  unfold raiseMode
  dsimp only
  exact Eff.ite (fun _ => Eff.comp (Eff.set_mem (Eff.refl _ _) rfl) (report_eff _ _ _ _) rfl) fun _ => Eff.set_mem (Eff.refl _
      _) rfl

theorem reportEmpty_eff (s : State) : Eff [.beacon] s (reportEmpty s) := by
  unfold reportEmpty
  exact (report_eff _ _ _ _).mono rfl

theorem searchEntry_eff (n : ℕ) (s : State) :
    Eff [.pack, .core, .cart, .keeper, .clocks, .mem, .binding, .gather, .codec, .pens, .portA, .portB, .emit, .beacon] s
      (searchEntry n s) := by
  unfold searchEntry
  dsimp only
  exact Eff.ite (fun _ => Eff.comp (Eff.comp (Eff.comp ((updReader_eff _ _).mono rfl) (updReader_eff _ _) rfl) (reportEmpty_eff
      _) rfl) (endSelection_eff _ _ _) rfl) fun _ => Eff.comp ((updReader_eff _ _).mono rfl) (askReads_eff _ _) rfl

theorem spinesRead_eff (s : State) :
    Eff [.pack, .core, .cart, .keeper, .clocks, .mem, .binding, .gather, .codec, .pens, .portA, .portB, .emit, .beacon] s
      (spinesRead s) := by
  unfold spinesRead
  split
  · exact (endSelection_eff _ _ _).mono rfl
  · dsimp only
    exact Eff.ite (fun _ => Eff.comp (Eff.comp (Eff.ite (fun _ => Eff.refl _ _) fun _ => (raiseMode_eff _ _).mono rfl)
        (updReader_eff _ _) rfl) (searchEntry_eff _ _) rfl) fun _ => Eff.ite (fun _ => Eff.comp (Eff.comp (Eff.comp (Eff.ite
        (fun _ => Eff.refl _ _) fun _ => (raiseMode_eff _ _).mono rfl) (updReader_eff _ _) rfl) (reportEmpty_eff _) rfl)
        (searchEntry_eff _ _) rfl) fun _ => Eff.comp (Eff.comp (Eff.ite (fun _ => Eff.refl _ _) fun _ => (raiseMode_eff _
        _).mono rfl) (updReader_eff _ _) rfl) (searchEntry_eff _ _) rfl

theorem rejectCopy_eff (c : Copy) (reason : ℕ) (s : State) : Eff [.binding, .beacon] s (rejectCopy c reason s) := by
  unfold rejectCopy
  exact Eff.comp ((updReader_eff _ _).mono rfl) (report_eff _ _ _ _) rfl

theorem examine_eff
    (l : List Copy) : ∀ s : State, Eff [.pack, .core, .cart, .keeper, .clocks, .mem, .binding, .gather, .codec, .pens, .portA,
          .portB, .emit, .beacon] s (examine l s) := by
  induction l with
  | nil =>
    intro s
    unfold examine
    exact Eff.ite (fun _ => (endSelection_eff _ _ _).mono rfl) fun _ => (searchEntry_eff _ _).mono rfl
  | cons c l ih =>
    intro s
    unfold examine
    dsimp only
    exact Eff.ite (fun _ => Eff.comp ((updReader_eff _ _).mono rfl) (askReads_eff _ _) rfl)
      (fun _ => ((rejectCopy_eff _ _ _).mono rfl).trans (ih _))

theorem copyPasses_eff (k : Settings) (s : State) :
    Eff [.pack, .core, .cart, .keeper, .clocks, .mem, .binding, .gather, .codec, .pens, .portA, .portB, .emit, .beacon] s
      (copyPasses k s) := by
  unfold copyPasses
  dsimp only
  exact Eff.ite (fun _ => Eff.comp ((updReader_eff _ _).mono rfl) (askReads_eff _ _) rfl) fun _ => (endSelection_eff _ _ _).mono
      rfl

theorem directoryRead_eff (c : Copy) (data : Option (List Byte)) (s : State) :
    Eff [.pack, .core, .cart, .keeper, .clocks, .mem, .binding, .gather, .codec, .pens, .portA, .portB, .emit, .beacon] s
      (directoryRead c data s) := by
  unfold directoryRead
  dsimp only
  exact Eff.ite (fun _ => (copyPasses_eff _ _).mono rfl) fun _ => Eff.comp ((rejectCopy_eff _ _ _).mono rfl) (examine_eff _ _)
      rfl

theorem validateReads_eff (s : State) : Eff [.binding] s (validateReads s) := by
  unfold validateReads
  exact Eff.ite (fun _ => Eff.refl _ _) fun _ => (updReader_eff _ _).mono rfl

theorem looseFailed_eff (m : MemItem) (reason : ℕ) (s : State) : Eff [.mem, .binding, .beacon] s (looseFailed m reason s) := by
  unfold looseFailed
  dsimp only
  exact Eff.ite (fun _ => Eff.comp (Eff.set_mem (Eff.refl _ _) rfl) (updReader_eff _ _) rfl) fun _ => Eff.comp ((updReader_eff _
      _).mono rfl) (report_eff _ _ _ _) rfl

theorem twinRead_eff (c : Copy) (data : Option (List Byte)) (s : State) :
    Eff [.cart, .mem, .binding, .gather, .codec, .pens, .select, .portA, .portB, .engine, .emit, .beacon] s (twinRead c data s)
      := by
  unfold twinRead
  dsimp only
  split
  · exact Eff.ite (fun _ => Eff.comp (Eff.set_binding (Eff.refl _ _) rfl) (report_eff _ _ _ _) rfl) fun _ => Eff.comp
        (Eff.set_binding (Eff.refl _ _) rfl) (readLost_eff _ _ _) rfl
  · exact Eff.set_binding (Eff.refl _ _) rfl

theorem rejectStitch_eff (reason : ℕ) (s : State) :
    Eff [.mem, .binding, .gather, .codec, .pens, .select, .beacon] s (rejectStitch reason s) := by
  unfold rejectStitch
  exact Eff.comp ((dropStitch_eff _).mono rfl) (closeGather_eff _ _ _) rfl

theorem shadowFolioRead_eff (data : Option (List Byte)) (s : State) :
    Eff [.mem, .binding, .gather, .codec, .pens, .select, .portA, .portB, .engine, .beacon] s (shadowFolioRead data s) := by
  unfold shadowFolioRead
  split
  · exact (updReader_eff _ _).mono rfl
  · dsimp only
    exact Eff.ite (fun _ => Eff.refl _ _) fun _ => Eff.ite (fun _ => Eff.comp (Eff.set_mem (Eff.refl _ _) rfl) (updReader_eff _
        _) rfl) fun _ => Eff.ite (fun _ => Eff.comp ((report_eff _ _ _ _).mono rfl) (rejectStitch_eff _ _) rfl) fun _ =>
        Eff.comp ((report_eff _ _ _ _).mono rfl) (rollback_eff _ _) rfl

theorem finishRead_eff (m : MemItem) (data : Option (List Byte)) (s : State) :
    Eff [.pack, .core, .cart, .keeper, .clocks, .mem, .binding, .gather, .codec, .pens, .select, .portA, .portB, .engine, .emit,
      .beacon] s (finishRead m data s) := by
  unfold finishRead
  split
  · dsimp only
    refine Eff.ite (fun _ => ?_) fun _ => ?_
    · refine Eff.ite (fun _ => ?_) fun _ => ?_
      · split
        · exact (updReader_eff _ _).mono rfl
        · exact (updReader_eff _ _).mono rfl
      · refine Eff.comp ?_ (report_eff _ _ _ _) rfl
        refine Eff.comp ?_ (updReader_eff _ _) rfl
        split
        · exact (updReader_eff _ _).mono rfl
        · exact (updReader_eff _ _).mono rfl
    · refine Eff.comp ?_ (spinesRead_eff _) rfl
      refine Eff.ite (fun _ => ?_) fun _ => ?_
      · split
        · exact (updReader_eff _ _).mono rfl
        · exact (updReader_eff _ _).mono rfl
      · refine Eff.comp ?_ (report_eff _ _ _ _) rfl
        refine Eff.comp ?_ (updReader_eff _ _) rfl
        split
        · exact (updReader_eff _ _).mono rfl
        · exact (updReader_eff _ _).mono rfl
  · dsimp only
    refine Eff.ite (fun _ => ?_) fun _ => ?_
    · split
      · exact (updReader_eff _ _).mono rfl
      · exact (updReader_eff _ _).mono rfl
    · refine Eff.comp ?_ (examine_eff _ _) rfl
      split
      · exact (updReader_eff _ _).mono rfl
      · exact (updReader_eff _ _).mono rfl
  · exact (directoryRead_eff _ _ _).mono rfl
  · split
    · exact Eff.refl _ _
    · exact (endSelection_eff _ _ _).mono rfl
  · split
    · exact Eff.comp ((looseFailed_eff _ _ _).mono rfl) (validateReads_eff _) rfl
    · exact Eff.comp ((updReader_eff _ _).mono rfl) (validateReads_eff _) rfl
  · split
    · dsimp only
      exact Eff.comp (Eff.ite (fun _ => (updReader_eff _ _).mono rfl) fun _ => (looseFailed_eff _ _ _).mono rfl)
          (validateReads_eff _) rfl
    · exact Eff.comp ((looseFailed_eff _ _ _).mono rfl) (validateReads_eff _) rfl
  · exact (twinRead_eff _ _ _).mono rfl
  · exact (shadowFolioRead_eff _ _).mono rfl

theorem endRead_eff (data : Option (List Byte)) (s : State) :
    Eff [.pack, .core, .cart, .keeper, .clocks, .mem, .binding, .gather, .codec, .pens, .select, .portA, .portB, .engine, .emit,
      .beacon] s (endRead data s) := by
  unfold endRead
  split
  · exact Eff.refl _ _
  · exact Eff.comp (Eff.comp (Eff.set_mem (Eff.refl _ _) rfl) (finishRead_eff _ _ _) rfl) (pumpReads_eff _) rfl

theorem failReads_eff (s : State) :
    Eff [.pack, .core, .cart, .keeper, .clocks, .mem, .binding, .gather, .codec, .pens, .select, .portA, .portB, .engine, .emit,
      .beacon] s (failReads s) := by
  unfold failReads
  exact Eff.comp ((endRead_eff _ _).mono rfl) (failJobRead_eff _) rfl

theorem releaseWaiting_eff (s : State) : Eff [.aon, .beacon] s (releaseWaiting s) := by
  unfold releaseWaiting
  dsimp only
  exact Eff.set_aon (Eff.foldl (fun _ _ => (report_eff _ _ _ _).mono rfl) _ (Eff.refl _ _)) rfl

theorem releaseStraps_eff (s : State) : Eff [.beacon] s (releaseStraps s) := by
  unfold releaseStraps
  dsimp only
  exact Eff.ite (fun _ => Eff.comp (Eff.ite (fun _ => (report_eff _ _ _ _).mono rfl) fun _ => Eff.refl _ _) (report_eff _ _ _ _)
      rfl) fun _ => Eff.ite (fun _ => (report_eff _ _ _ _).mono rfl) fun _ => Eff.refl _ _

theorem releaseBall_eff (b : CodeBall) (s : State) : Eff [.beacon] s (releaseBall b s) := by
  unfold releaseBall
  dsimp only
  split
  · exact Eff.ite (fun _ => Eff.refl _ _) fun _ => (report_eff _ _ _ _).mono rfl
  · exact Eff.ite (fun _ => (report_eff _ _ _ _).mono rfl) fun _ => Eff.refl _ _

theorem releaseBus_eff (holdLow : Bool) (s : State) : Eff [.mem] s (releaseBus holdLow s) := by
  unfold releaseBus
  dsimp only
  exact Eff.set_mem (Eff.refl _ _) rfl

theorem releasePens_eff (s : State) : Eff [.pens] s (releasePens s) := by
  unfold releasePens
  exact Eff.comp (addPen_eff _ _ (fresh_alloc _ _)) (fitReserve_eff _) rfl

theorem reportAon_eff (code : ℕ) (aux : ℕ) (subject : ℕ) (s : State) :
    Eff [.aon, .beacon] s (reportAon code aux subject s) := by
  unfold reportAon
  exact Eff.ite (fun _ => Eff.set_aon (Eff.refl _ _) rfl) fun _ => (report_eff _ _ _ _).mono rfl

theorem detectPair_eff (s : State) : Eff [.aon, .pack, .beacon] s (detectPair s) := by
  unfold detectPair
  dsimp only
  exact Eff.ite (fun _ => Eff.refl _ _) fun _ => Eff.ite (fun _ => Eff.set_pack (Eff.refl _ _) rfl) fun _ => Eff.ite (fun _ =>
      Eff.set_pack (Eff.refl _ _) rfl) fun _ => Eff.ite (fun _ => Eff.ite (fun _ => Eff.set_pack (Eff.refl _ _) rfl) fun _ =>
      Eff.ite (fun _ => Eff.set_pack (Eff.refl _ _) rfl) fun _ => Eff.comp (Eff.set_pack (Eff.refl _ _) rfl) (reportAon_eff _ _
      _ _) rfl) fun _ => Eff.refl _ _

theorem startDetection_eff (s : State) : Eff [.aon, .pack, .beacon] s (startDetection s) := by
  unfold startDetection
  exact Eff.comp (Eff.set_pack (Eff.refl _ _) rfl) (detectPair_eff _) rfl

theorem releasePack_eff (s : State) : Eff [.aon, .pack, .beacon] s (releasePack s) := by
  unfold releasePack
  dsimp only
  exact Eff.ite (fun _ => Eff.comp (Eff.comp (Eff.set_pack (Eff.refl _ _) rfl) (startDetection_eff _) rfl) (packLimit_eff _)
      rfl) fun _ => Eff.refl _ _

theorem packPass_eff (r : PassReadings) (s : State) : Eff [.pack] s (packPass r s) := by
  unfold packPass
  dsimp only
  exact Eff.set_pack (Eff.refl _ _) rfl

theorem codesPass_eff (r : PassReadings) (s : State) : Eff [.aon, .safety, .beacon] s (codesPass r s) := by
  unfold codesPass
  dsimp only
  exact Eff.ofMk (Eff.refl _ _) id id id id

theorem cartPass_eff (r : PassReadings) (s : State) : Eff [.aon] s (cartPass r s) := by
  unfold cartPass
  refine Eff.ite (fun _ => ?_) fun _ => ?_
  · exact Eff.set_aon (Eff.refl _ _) rfl
  · dsimp only
    exact Eff.set_aon (Eff.refl _ _) rfl

theorem codeStepPass_eff (r : PassReadings) (s : State) :
    Eff [.cart, .codec, .pens, .portA, .portB, .emit, .beacon] s (codeStepPass r s) := by
  unfold codeStepPass
  refine Eff.ite (fun _ => ?_) fun _ => ?_
  · exact Eff.refl _ _
  · dsimp only
    exact Eff.ite (fun _ => Eff.set_cart (Eff.refl _ _) rfl) fun _ => Eff.ite (fun _ => (calStep_eff _ _).mono rfl) fun _ =>
        (failQual_eff _ _).mono rfl

theorem putOut_eff {l : List Part} {s t : State} (h : ChangesOnly l s t)
    (hl : [Part.portA, .portB, .emit].all l.contains = true)
    (hq : QueueOk s.beacon → QueueOk t.beacon) (hb : BlocksOk s.pens → BlocksOk t.pens)
    (hw : memoryWf s.matrix = true → memoryWf t.matrix = true) :
    Eff l s (closeGates (darkAllChannels t)) :=
  have hl' : [Part.emit].all l.contains = true := by
    simp only [List.all_cons, List.all_nil, Bool.and_eq_true, and_true] at hl ⊢
    exact hl.2.2
  ⟨changesOnly_trans h (changesOnly_trans (changesOnly_mono (darkAllChannels_eff t).frame hl')
      (changesOnly_mono (closeGates_eff _).frame hl)),
    fun q => (closeGates_eff _).queue ((darkAllChannels_eff t).queue (hq q)),
    fun q => (closeGates_eff _).blocks ((darkAllChannels_eff t).blocks (hb q)),
    fun q => (closeGates_eff _).wf ((darkAllChannels_eff t).wf (hw q)), fun _ _ => closeGates_dark t⟩

theorem trip_eff (cause : TripCause) (which : Nat) (s : State) :
    Eff [.safety, .portA, .portB, .emit, .beacon] s (trip cause which s) := by
  unfold trip
  dsimp only
  have h := fun x => putOut_eff (l := [.safety, .portA, .portB, .emit, .beacon]) (s := s) (t := { s with safety := x })
    (fun p hp => by cases p <;> first | rfl | (simp at hp)) rfl id id id
  refine Eff.ite (fun _ => ?_) (fun _ => ?_)
  · refine Eff.comp ?_ (report_eff _ _ _ _) rfl
    exact Eff.ite (fun _ => Eff.comp (h _) (reportX_eff _ _ _ _ _) rfl) (fun _ => h _)
  · exact Eff.ite (fun _ => Eff.comp (h _) (reportX_eff _ _ _ _ _) rfl) (fun _ => h _)

theorem packRetryEnds_eff (s : State) : Eff [.aon, .pack, .beacon] s (packRetryEnds s) := by
  unfold packRetryEnds
  dsimp only
  exact Eff.ite (fun _ => Eff.comp (Eff.comp (Eff.set_pack (Eff.refl _ _) rfl) (startDetection_eff _) rfl) (packLimit_eff _)
      rfl) fun _ => Eff.set_pack (Eff.refl _ _) rfl

theorem removeCart_eff (s : State) : Eff [.cart, .codec, .pens, .portA, .portB, .emit, .beacon] s (removeCart s) := by
  unfold removeCart
  exact Eff.comp (Eff.comp (Eff.set_cart (Eff.refl _ _) rfl) (coastBoth_eff _) rfl) (dropCalJobs_eff _) rfl

theorem beginQual_eff (s : State) : Eff [.cart] s (beginQual s) := by
  unfold beginQual
  exact Eff.comp (Eff.set_cart (Eff.refl _ _) rfl) (setStep_eff _ _) rfl

theorem retryEnds_eff (s : State) : Eff [.cart] s (retryEnds s) := by
  unfold retryEnds
  dsimp only
  exact Eff.ite (fun _ => Eff.comp (Eff.set_cart (Eff.refl _ _) rfl) (beginQual_eff _) rfl) fun _ => Eff.set_cart (Eff.refl _ _)
      rfl

theorem takeover_eff (stopped : Bool) (s : State) : Eff [.emit, .beacon] s (takeover stopped s) := by
  unfold takeover
  refine Eff.ite (fun _ => ?_) fun _ => ?_
  · dsimp only
    refine Eff.ite (fun _ => ?_) fun _ => ?_
    · refine Eff.comp ?_ (report_eff _ _ _ _) rfl
      refine Eff.comp ?_ (assignChannels_eff _) rfl
      refine Eff.set_emit ?_ rfl id
      exact Eff.refl _ _
    · refine Eff.comp ?_ (assignChannels_eff _) rfl
      refine Eff.set_emit ?_ rfl id
      exact Eff.refl _ _
  · exact Eff.refl _ _

theorem countMirrorFault_eff (p : Port) (s : State) : Eff [.portA, .portB, .beacon] s (countMirrorFault p s) := by
  unfold countMirrorFault
  dsimp only
  exact Eff.ite (fun _ => Eff.comp ((updPort_eff _ _ _ (by exact fun _ => id)).mono rfl) (report_eff _ _ _ _) rfl) fun _ =>
      (updPort_eff _ _ _ (by exact fun _ => id)).mono rfl

theorem updDomain_eff (s : State) (d : Domain) (f : DomainState → DomainState) : Eff [.keeper] s (updDomain s d f) := by
  unfold updDomain
  exact Eff.set_keeper (Eff.refl _ _) rfl

theorem restartMatrix_eff (s : State) : Eff [.matrix] s (restartMatrix s) := by
  unfold restartMatrix
  exact Eff.set_matrix (Eff.refl _ _) rfl id

theorem updArbiter_eff (target : ℕ) (f : Arbiter → Arbiter) (s : State) : Eff [.matrix] s (updArbiter target f s) := by
  unfold updArbiter
  exact Eff.set_matrix (Eff.refl _ _) rfl id

theorem breakLock_eff (hit : LockState → Bool) (s : State) (target : ℕ) :
    Eff [.keeper, .matrix, .beacon] s (breakLock hit s target) := by
  unfold breakLock
  split
  · exact Eff.refl _ _
  · dsimp only
    refine Eff.comp ?_ (coverFault_eff _ _ _) rfl
    refine Eff.comp ?_ (report_eff _ _ _ _) rfl
    refine Eff.set_matrix ?_ rfl id
    exact (updArbiter_eff _ _ _).mono rfl

theorem breakLocks_eff (hit : LockState → Bool) (s : State) : Eff [.keeper, .matrix, .beacon] s (breakLocks hit s) := by
  unfold breakLocks
  exact Eff.foldl (fun _ _ => (breakLock_eff _ _ _).mono rfl) _ (Eff.refl _ _)

theorem dropAllJobs_eff (s : State) : Eff [.codec, .pens] s (dropAllJobs s) := by
  unfold dropAllJobs
  dsimp only
  exact Eff.set_codec (Eff.foldl (fun _ _ => (removePen_eff _ _).mono rfl) _ (Eff.refl _ _)) rfl

theorem cvsDiscard_eff (reason : ℕ) (pens : List ℕ) (seq : ℕ) (s : State) :
    Eff [.pens, .canvas, .beacon] s (cvsDiscard reason pens seq s) := by
  unfold cvsDiscard
  dsimp only
  exact Eff.comp (Eff.set_canvas (Eff.foldl (fun _ _ => (freePen_eff _ _).mono rfl) _ (Eff.refl _ _)) rfl) (report_eff _ _ _ _)
      rfl

theorem discardCanvas_eff (reason : ℕ) (s : State) : Eff [.codec, .pens, .canvas, .beacon] s (discardCanvas reason s) := by
  unfold discardCanvas
  split
  · exact Eff.refl _ _
  · refine Eff.comp ?_ (cvsDiscard_eff _ _ _ _) rfl
    refine Eff.ofMk ?_ id id id id
    exact Eff.refl _ _

theorem dropFilling_eff (s : State) : Eff [.codec, .pens, .canvas, .beacon] s (dropFilling s) := by
  unfold dropFilling
  dsimp only
  split
  · exact (discardCanvas_eff _ _).mono rfl
  · exact Eff.set_canvas (Eff.foldl (fun _ _ => (freePen_eff _ _).mono rfl) _ ((discardCanvas_eff _ _).mono rfl)) rfl

theorem discardFrame_eff (reason : ℕ) (s : State) : Eff [.pens, .canvas, .beacon] s (discardFrame reason s) := by
  unfold discardFrame
  split
  · exact Eff.refl _ _
  · exact Eff.comp (Eff.set_canvas (Eff.refl _ _) rfl) (cvsDiscard_eff _ _ _ _) rfl

theorem portStops_eff (p : Port) (s : State) : Eff [.pens, .portA, .portB, .emit, .beacon] s (portStops p s) := by
  unfold portStops
  dsimp only
  exact Eff.comp (Eff.comp ((coastPort_eff _ _).mono rfl) (updPort_eff _ _ _ (by exact fun _ => id)) rfl) (takeover_eff _ _) rfl

theorem laneTakeover_eff (s : State) : Eff [.keeper, .engine, .beacon] s (laneTakeover s) := by
  unfold laneTakeover
  dsimp only
  exact Eff.comp (Eff.comp (Eff.set_engine (Eff.refl _ _) rfl) (report_eff _ _ _ _) rfl) (coverFault_eff _ _ _) rfl

theorem loseLane_eff (l : Lane) (s : State) : Eff [.keeper, .matrix, .engine, .beacon] s (loseLane l s) := by
  unfold loseLane
  dsimp only
  exact Eff.ite (fun _ => Eff.ite (fun _ => Eff.comp ((breakLocks_eff _ _).mono rfl) (laneTakeover_eff _) rfl) fun _ =>
      (breakLocks_eff _ _).mono rfl) fun _ => Eff.set_engine ((breakLocks_eff _ _).mono rfl) rfl

theorem domainEffect_eff (d : Domain) (s : State) :
    Eff [.pack, .core, .cart, .keeper, .clocks, .mem, .binding, .gather, .codec, .pens, .matrix, .select, .canvas, .portA,
      .portB, .engine, .emit, .lamp, .beacon] s (domainEffect d s) := by
  unfold domainEffect
  split
  · dsimp only
    refine Eff.comp ?_ (updWheel_eff _ _ _ (by exact fun _ => id)) rfl
    refine Eff.comp ?_ (updWheel_eff _ _ _ (by exact fun _ => id)) rfl
    exact (closeGates_eff _).mono rfl
  · dsimp only
    refine Eff.comp ?_ (updWheel_eff _ _ _ (by exact fun _ => id)) rfl
    refine Eff.comp ?_ (updWheel_eff _ _ _ (by exact fun _ => id)) rfl
    refine Eff.comp ?_ (restartMatrix_eff _) rfl
    refine Eff.comp ?_ (breakLocks_eff _ _) rfl
    refine Eff.comp ?_ (rollback_eff _ _) rfl
    refine Eff.comp ?_ (dropAllJobs_eff _) rfl
    refine Eff.ofMk ?_ id id id id
    refine Eff.comp ?_ (dropFilling_eff _) rfl
    exact (closeGates_eff _).mono rfl
  · exact (failReads_eff _).mono rfl
  · exact (discardFrame_eff _ _).mono rfl
  · exact (portStops_eff _ _).mono rfl
  · exact (portStops_eff _ _).mono rfl
  · dsimp only
    refine Eff.set_lamp ?_ rfl
    exact Eff.refl _ _
  · exact (loseLane_eff _ _).mono rfl
  · exact (loseLane_eff _ _).mono rfl

theorem setRecovery_eff (r : Option ℕ) (q : Option ℕ) (s : State) : Eff [.keeper] s (setRecovery r q s) := by
  unfold setRecovery
  exact Eff.set_keeper (Eff.refl _ _) rfl

theorem halt_eff (s : State) : Eff [.core, .pens, .portA, .portB, .emit, .lamp, .beacon] s (halt s) := by
  unfold halt
  dsimp only
  refine Eff.set_lamp ?_ rfl
  refine Eff.comp ?_ (darkAllChannels_eff _) rfl
  refine Eff.comp ?_ (coastBoth_eff _) rfl
  refine Eff.set_core ?_ rfl id
  exact Eff.refl _ _

theorem jobBroken_eff (j : Job) (s : State) :
    Eff [.cart, .mem, .binding, .gather, .codec, .pens, .select, .portA, .portB, .engine, .emit, .beacon] s (jobBroken j s) :=
      by
  unfold jobBroken
  exact Eff.comp ((report_eff _ _ _ _).mono rfl) (jobFails_eff _ _ _) rfl

theorem memQuarantined_eff (s : State) :
    Eff [.cart, .mem, .binding, .gather, .codec, .pens, .select, .portA, .portB, .engine, .emit, .beacon] s (memQuarantined s)
      := by
  unfold memQuarantined
  dsimp only
  split
  · exact Eff.comp (Eff.foldl (fun _ _ => (jobBroken_eff _ _).mono rfl) _ ((dropAllJobs_eff _).mono rfl)) (rejectStitch_eff _ _)
        rfl
  · exact Eff.comp (Eff.foldl (fun _ _ => (jobBroken_eff _ _).mono rfl) _ ((dropAllJobs_eff _).mono rfl)) (rejectStitch_eff _ _)
        rfl
  · exact Eff.comp (Eff.foldl (fun _ _ => (jobBroken_eff _ _).mono rfl) _ ((dropAllJobs_eff _).mono rfl)) (rollback_eff _ _) rfl

theorem portQuarantined_eff (p : Port) (s : State) :
    Eff [.cart, .codec, .pens, .portA, .portB, .emit, .beacon] s (portQuarantined p s) := by
  unfold portQuarantined
  exact Eff.comp ((updPort_eff _ _ _ (by exact fun _ => id)).mono rfl) (portFailsQual_eff _) rfl

theorem quarantineEffect_eff (d : Domain) (s : State) :
    Eff [.core, .cart, .keeper, .mem, .binding, .gather, .codec, .pens, .select, .portA, .portB, .engine, .emit, .lamp, .beacon]
      s (quarantineEffect d s) := by
  unfold quarantineEffect
  dsimp only
  split
  · exact Eff.comp (Eff.comp ((updDomain_eff _ _ _).mono rfl) (report_eff _ _ _ _) rfl) (halt_eff _) rfl
  · exact Eff.comp (Eff.comp ((updDomain_eff _ _ _).mono rfl) (report_eff _ _ _ _) rfl) (memQuarantined_eff _) rfl
  · exact Eff.comp (Eff.comp ((updDomain_eff _ _ _).mono rfl) (report_eff _ _ _ _) rfl) (portQuarantined_eff _ _) rfl
  · exact Eff.comp (Eff.comp ((updDomain_eff _ _ _).mono rfl) (report_eff _ _ _ _) rfl) (portQuarantined_eff _ _) rfl
  · exact Eff.comp ((updDomain_eff _ _ _).mono rfl) (report_eff _ _ _ _) rfl

theorem resetDomain_eff (d : Domain) (s : State) :
    Eff [.pack, .core, .cart, .keeper, .clocks, .mem, .binding, .gather, .codec, .pens, .matrix, .select, .canvas, .portA,
      .portB, .engine, .emit, .lamp, .beacon] s (resetDomain d s) := by
  unfold resetDomain
  dsimp only
  refine Eff.ite (fun _ => ?_) fun _ => ?_
  · refine Eff.comp ?_ (quarantineEffect_eff _ _) rfl
    refine Eff.comp ?_ (setRecovery_eff _ _ _) rfl
    refine Eff.comp ?_ (coverFault_eff _ _ _) rfl
    refine Eff.comp ?_ (setRecovery_eff _ _ _) rfl
    refine Eff.comp ?_ (domainEffect_eff _ _) rfl
    refine Eff.comp ?_ (report_eff _ _ _ _) rfl
    refine Eff.comp ?_ (setRecovery_eff _ _ _) rfl
    refine Eff.comp ?_ (updDomain_eff _ _ _) rfl
    refine Eff.ite (fun _ => ?_) fun _ => ?_
    · refine Eff.set_beacon ?_ rfl id
      exact Eff.refl _ _
    · exact Eff.refl _ _
  · refine Eff.comp ?_ (setRecovery_eff _ _ _) rfl
    refine Eff.comp ?_ (coverFault_eff _ _ _) rfl
    refine Eff.comp ?_ (setRecovery_eff _ _ _) rfl
    refine Eff.comp ?_ (domainEffect_eff _ _) rfl
    refine Eff.comp ?_ (report_eff _ _ _ _) rfl
    refine Eff.comp ?_ (setRecovery_eff _ _ _) rfl
    refine Eff.comp ?_ (updDomain_eff _ _ _) rfl
    refine Eff.ite (fun _ => ?_) fun _ => ?_
    · refine Eff.set_beacon ?_ rfl id
      exact Eff.refl _ _
    · exact Eff.refl _ _

theorem sampleDomain_eff (beats : List ℕ) (cvsToggling : Bool) (s : State) (d : Domain) :
    Eff [.pack, .core, .cart, .keeper, .clocks, .mem, .binding, .gather, .codec, .pens, .matrix, .select, .canvas, .portA,
      .portB, .engine, .emit, .lamp, .beacon] s (sampleDomain beats cvsToggling s d) := by
  unfold sampleDomain
  dsimp only
  exact Eff.ite (fun _ => (updDomain_eff _ _ _).mono rfl) fun _ => Eff.ite (fun _ => (resetDomain_eff _ _).mono rfl) fun _ =>
      (updDomain_eff _ _ _).mono rfl

theorem preloadLeaf_eff (n : ℕ) (i : ℕ) (s : State) : Eff [.codec, .pens] s (preloadLeaf n i s) := by
  unfold preloadLeaf
  dsimp only
  exact Eff.ite (fun _ => Eff.refl _ _) fun _ => Eff.ite (fun _ => (requestLeaf_eff _ _ _ _ _ _).mono rfl) fun _ =>
      Eff.set_codec (Eff.refl _ _) rfl

theorem preloadRound_eff (s : State) : Eff [.codec, .pens] s (preloadRound s) := by
  unfold preloadRound
  dsimp only
  exact Eff.ite (fun _ => Eff.set_codec (Eff.refl _ _) rfl) fun _ => Eff.foldl (fun _ _ => (preloadLeaf_eff _ _ _).mono rfl) _
      (Eff.foldl (fun _ _ => Eff.foldl (fun _ _ => (preloadLeaf_eff _ _ _).mono rfl) _ (Eff.refl _ _)) _ (Eff.set_codec
      (Eff.refl _ _) rfl))

theorem restartEffect_eff (d : Domain) (s : State) :
    Eff [.cart, .mem, .gather, .codec, .pens, .portA, .portB, .engine, .emit, .beacon] s (restartEffect d s) := by
  unfold restartEffect
  split
  · dsimp only
    refine Eff.ite (fun _ => ?_) fun _ => ?_
    · refine Eff.comp ?_ (preloadRound_eff _) rfl
      refine Eff.ite (fun _ => ?_) fun _ => ?_
      · refine Eff.comp ?_ (calStep_eff _ _) rfl
        refine Eff.ite (fun _ => ?_) fun _ => ?_
        · split
          · exact (requestEntry_eff _ _ _ _ _).mono rfl
          · exact Eff.refl _ _
        · refine Eff.ite (fun _ => ?_) fun _ => ?_
          · refine Eff.set_gather ?_ rfl
            split
            · exact (requestEntry_eff _ _ _ _ _).mono rfl
            · exact Eff.refl _ _
          · refine Eff.comp ?_ (requestRestore_eff _) rfl
            split
            · exact (requestEntry_eff _ _ _ _ _).mono rfl
            · exact Eff.refl _ _
      · refine Eff.ite (fun _ => ?_) fun _ => ?_
        · split
          · exact (requestEntry_eff _ _ _ _ _).mono rfl
          · exact Eff.refl _ _
        · refine Eff.ite (fun _ => ?_) fun _ => ?_
          · refine Eff.set_gather ?_ rfl
            split
            · exact (requestEntry_eff _ _ _ _ _).mono rfl
            · exact Eff.refl _ _
          · refine Eff.comp ?_ (requestRestore_eff _) rfl
            split
            · exact (requestEntry_eff _ _ _ _ _).mono rfl
            · exact Eff.refl _ _
    · refine Eff.ite (fun _ => ?_) fun _ => ?_
      · refine Eff.comp ?_ (calStep_eff _ _) rfl
        refine Eff.ite (fun _ => ?_) fun _ => ?_
        · split
          · exact (requestEntry_eff _ _ _ _ _).mono rfl
          · exact Eff.refl _ _
        · refine Eff.ite (fun _ => ?_) fun _ => ?_
          · refine Eff.set_gather ?_ rfl
            split
            · exact (requestEntry_eff _ _ _ _ _).mono rfl
            · exact Eff.refl _ _
          · refine Eff.comp ?_ (requestRestore_eff _) rfl
            split
            · exact (requestEntry_eff _ _ _ _ _).mono rfl
            · exact Eff.refl _ _
      · refine Eff.ite (fun _ => ?_) fun _ => ?_
        · split
          · exact (requestEntry_eff _ _ _ _ _).mono rfl
          · exact Eff.refl _ _
        · refine Eff.ite (fun _ => ?_) fun _ => ?_
          · refine Eff.set_gather ?_ rfl
            split
            · exact (requestEntry_eff _ _ _ _ _).mono rfl
            · exact Eff.refl _ _
          · refine Eff.comp ?_ (requestRestore_eff _) rfl
            split
            · exact (requestEntry_eff _ _ _ _ _).mono rfl
            · exact Eff.refl _ _
  · exact (pumpReads_eff _).mono rfl
  · exact (updPort_eff _ _ _ (by exact fun _ => id)).mono rfl
  · exact (updPort_eff _ _ _ (by exact fun _ => id)).mono rfl
  · exact Eff.set_engine (Eff.refl _ _) rfl
  · exact Eff.set_engine (Eff.refl _ _) rfl
  · exact Eff.refl _ _

theorem judgeTrendOf_eff (src : RefSource) (before : Option ℤ) (now : Option ℤ) (s : State) :
    Eff [.beacon] s (judgeTrendOf src before now s) := by
  unfold judgeTrendOf
  split
  · exact Eff.ite (fun _ => (report_eff _ _ _ _).mono rfl) fun _ => Eff.refl _ _
  · exact Eff.refl _ _

theorem judgeTrend_eff (now : Bool × Option ℤ × Option ℤ) (s : State) : Eff [.beacon] s (judgeTrend now s) := by
  unfold judgeTrend
  split
  · exact Eff.refl _ _
  · exact Eff.ite (fun _ => Eff.comp ((judgeTrendOf_eff _ _ _ _).mono rfl) (judgeTrendOf_eff _ _ _ _) rfl) fun _ => Eff.refl _ _

theorem updClocks_eff (f : Clocks → Clocks) (s : State) : Eff [.clocks] s (updClocks f s) := by
  unfold updClocks
  exact Eff.set_clocks (Eff.refl _ _) rfl

theorem latchRef_eff (r : RefSource) (s : State) : Eff [.clocks] s (latchRef r s) := by
  unfold latchRef
  split
  · exact (updClocks_eff _ _).mono rfl
  · exact (updClocks_eff _ _).mono rfl
  · exact Eff.refl _ _

theorem judgeBoth_eff (so : Option ℤ) (sw : Option ℤ) (ow : Option ℤ) (s : State) :
    Eff [.keeper, .clocks, .beacon] s (judgeBoth so sw ow s) := by
  unfold judgeBoth
  dsimp only
  exact Eff.ite (fun _ => Eff.ite (fun _ => Eff.comp (Eff.comp ((latchRef_eff _ _).mono rfl) (report_eff _ _ _ _) rfl)
      (switchRef_eff _ _) rfl) fun _ => Eff.comp ((latchRef_eff _ _).mono rfl) (report_eff _ _ _ _) rfl) fun _ => Eff.ite (fun _
      => Eff.comp ((latchRef_eff _ _).mono rfl) (report_eff _ _ _ _) rfl) fun _ => Eff.ite (fun _ => (report_eff _ _ _ _).mono
      rfl) fun _ => Eff.refl _ _

theorem judgeSuspect_eff (cw : Option ℤ) (s : State) : Eff [.clocks, .beacon] s (judgeSuspect cw s) := by
  unfold judgeSuspect
  dsimp only
  exact Eff.ite (fun _ => Eff.comp ((updClocks_eff _ _).mono rfl) (report_eff _ _ _ _) rfl) fun _ => (updClocks_eff _ _).mono
      rfl

theorem judgeWindow_eff (w : Window) (s : State) : Eff [.keeper, .clocks, .beacon] s (judgeWindow w s) := by
  unfold judgeWindow
  dsimp only
  exact Eff.ite (fun _ => Eff.ite (fun _ => Eff.comp ((judgeTrend_eff _ _).mono rfl) (judgeBoth_eff _ _ _ _) rfl) fun _ =>
      Eff.comp ((judgeTrend_eff _ _).mono rfl) (judgeBoth_eff _ _ _ _) rfl) fun _ => Eff.ite (fun _ => (judgeTrend_eff _ _).mono
      rfl) fun _ => Eff.comp ((judgeTrend_eff _ _).mono rfl) (judgeSuspect_eff _ _) rfl

theorem checkSafeRef_eff (safeRef : ℤ) (s : State) :
    Eff [.safety, .portA, .portB, .emit, .beacon] s (checkSafeRef safeRef s) := by
  unfold checkSafeRef
  dsimp only
  refine Eff.ite (fun _ => ?_) fun _ => ?_
  · refine Eff.comp ?_ (trip_eff _ _ _) rfl
    refine Eff.set_safety ?_ rfl id
    exact Eff.refl _ _
  · refine Eff.set_safety ?_ rfl id
    exact Eff.refl _ _

theorem latchVref_eff (b : Bool) (s : State) : Eff [.clocks] s (latchVref b s) := by
  unfold latchVref
  exact Eff.ite (fun _ => (updClocks_eff _ _).mono rfl) fun _ => (updClocks_eff _ _).mono rfl

theorem checkVref_eff (other : ℤ) (bandgap : ℤ) (s : State) : Eff [.clocks, .beacon] s (checkVref other bandgap s) := by
  unfold checkVref
  dsimp only
  exact Eff.ite (fun _ => Eff.comp (Eff.comp (Eff.comp ((updClocks_eff _ _).mono rfl) (latchVref_eff _ _) rfl) (updClocks_eff _
      _) rfl) (report_eff _ _ _ _) rfl) fun _ => Eff.ite (fun _ => Eff.comp (Eff.comp (Eff.comp ((updClocks_eff _ _).mono rfl)
      (latchVref_eff _ _) rfl) (updClocks_eff _ _) rfl) (report_eff _ _ _ _) rfl) fun _ => Eff.ite (fun _ => Eff.comp (Eff.comp
      ((updClocks_eff _ _).mono rfl) (updClocks_eff _ _) rfl) (report_eff _ _ _ _) rfl) fun _ => (updClocks_eff _ _).mono rfl

theorem beginSelection_eff (stitch : Bool) (s : State) : Eff [.mem, .binding] s (beginSelection stitch s) := by
  unfold beginSelection
  exact Eff.comp ((updReader_eff _ _).mono rfl) (askReads_eff _ _) rfl

theorem failCurrentRead_eff (s : State) :
    Eff [.pack, .core, .cart, .keeper, .clocks, .mem, .binding, .gather, .codec, .pens, .select, .portA, .portB, .engine, .emit,
      .beacon] s (failCurrentRead s) := by
  unfold failCurrentRead
  exact Eff.ite (fun _ => (endRead_eff _ _).mono rfl) fun _ => (failJobRead_eff _).mono rfl

theorem issue_eff (c : FlashCommand) (s : State) : Eff [.mem] s (issue c s) := by
  unfold issue
  exact Eff.set_mem (Eff.refl _ _) rfl

theorem resumeRead_eff (s : State) : Eff [.mem] s (resumeRead s) := by
  unfold resumeRead
  exact Eff.ite (fun _ => (issueReads_eff _ _).mono rfl) fun _ => Eff.refl _ _

theorem startLamps_eff (s : State) : Eff [.lamp] s (startLamps s) := by
  unfold startLamps
  dsimp only
  split
  · exact Eff.refl _ _
  · exact Eff.set_lamp (Eff.refl _ _) rfl

theorem selectEntry_eff (n : ℕ) (s : State) : Eff [.codec, .pens, .select] s (selectEntry n s) := by
  unfold selectEntry
  exact Eff.comp (Eff.set_select (Eff.refl _ _) rfl) (requestEntry_eff _ _ _ _ _) rfl

theorem refuseOpen_eff (reason : ℕ) (s : State) : Eff [.gather, .beacon] s (refuseOpen reason s) := by
  unfold refuseOpen
  exact Eff.comp (Eff.set_gather (Eff.refl _ _) rfl) (report_eff _ _ _ _) rfl

theorem holdStitch_eff (c : Settings) (n : Option ℕ) (s : State) : Eff [.pens] s (holdStitch c n s) := by
  unfold holdStitch
  refine Eff.foldl (fun _ _ => ?_) _ ?_
  · split
    · exact (holdPen_eff _ _ _).mono rfl
    · exact Eff.refl _ _
  · exact Eff.refl _ _

theorem requestStitch_eff (s : State) : Eff [.codec, .pens] s (requestStitch s) := by
  unfold requestStitch
  split
  · exact Eff.refl _ _
  · dsimp only
    refine Eff.ite (fun _ => ?_) fun _ => ?_
    · split
      · refine Eff.comp ?_ (enqueue_eff _ _) rfl
        split
        · exact (requestEntry_eff _ _ _ _ _).mono rfl
        · exact Eff.refl _ _
      · split
        · exact (requestEntry_eff _ _ _ _ _).mono rfl
        · exact Eff.refl _ _
    · split
      · exact (requestEntry_eff _ _ _ _ _).mono rfl
      · exact Eff.refl _ _

theorem acceptStitch_eff (c : Settings) (s : State) :
    Eff [.mem, .binding, .gather, .codec, .pens, .select, .beacon] s (acceptStitch c s) := by
  unfold acceptStitch
  dsimp only
  exact Eff.ite (fun _ => Eff.comp (Eff.set_gather (Eff.comp (Eff.set_gather (Eff.refl _ _) rfl) (holdStitch_eff _ _ _) rfl)
      rfl) (requestStitch_eff _) rfl) fun _ => Eff.ite (fun _ => Eff.comp (Eff.comp (Eff.set_gather (Eff.refl _ _) rfl)
      (holdStitch_eff _ _ _) rfl) (rejectStitch_eff _ _) rfl) fun _ => Eff.set_gather (Eff.comp (Eff.set_gather (Eff.refl _ _)
      rfl) (holdStitch_eff _ _ _) rfl) rfl

theorem judgeStitch_eff (s : State) : Eff [.mem, .binding, .gather, .codec, .pens, .select, .beacon] s (judgeStitch s) := by
  unfold judgeStitch
  dsimp only
  split
  · exact (rejectStitch_eff _ _).mono rfl
  · refine Eff.ite (fun _ => ?_) fun _ => ?_
    · exact (rejectStitch_eff _ _).mono rfl
    · refine Eff.ite (fun _ => ?_) fun _ => ?_
      · exact (rejectStitch_eff _ _).mono rfl
      · split
        · exact Eff.comp (Eff.comp (Eff.set_codec (Eff.refl _ _) rfl) (reportX_eff _ _ _ _ _) rfl) (rejectStitch_eff _ _) rfl
        · exact Eff.ite (fun _ => (rejectStitch_eff _ _).mono rfl) fun _ => Eff.ite (fun _ => (rejectStitch_eff _ _).mono rfl)
              fun _ => (acceptStitch_eff _ _).mono rfl

theorem reportClamp_eff (st : Store) (p : Port) (s : State) : Eff [.beacon] s (reportClamp st p s) := by
  unfold reportClamp
  dsimp only
  exact Eff.ite (fun _ => (report_eff _ _ _ _).mono rfl) fun _ => Eff.refl _ _

theorem rampClamps_eff (fin : Store) (s : State) : Eff [.beacon] s (rampClamps fin s) := by
  unfold rampClamps
  dsimp only
  exact Eff.ite (fun _ => Eff.comp (Eff.ite (fun _ => (reportClamp_eff _ _ _).mono rfl) fun _ => Eff.refl _ _) (reportClamp_eff
      _ _ _) rfl) fun _ => Eff.ite (fun _ => (reportClamp_eff _ _ _).mono rfl) fun _ => Eff.refl _ _

theorem startRamp_eff (s : State) : Eff [.gather, .portA, .portB, .engine, .beacon] s (startRamp s) := by
  unfold startRamp
  dsimp only
  exact Eff.comp (Eff.comp (Eff.comp (Eff.set_gather (Eff.refl _ _) rfl) (followVertical_eff _ _) rfl) (restartConv_eff _) rfl)
      (rampClamps_eff _ _) rfl

theorem restoreGains_eff (s : State) :
    Eff [.mem, .binding, .gather, .codec, .pens, .select, .portA, .portB, .beacon] s (restoreGains s) := by
  unfold restoreGains
  exact Eff.ite (fun _ => Eff.ite (fun _ => Eff.set_gather (Eff.refl _ _) rfl) fun _ => Eff.refl _ _) fun _ =>
      (restoreProgress_eff _).mono rfl

theorem retryRestore_eff (s : State) :
    Eff [.mem, .binding, .gather, .codec, .pens, .select, .portA, .portB, .beacon] s (retryRestore s) := by
  unfold retryRestore
  exact Eff.ite (fun _ => Eff.refl _ _) fun _ => Eff.comp ((requestRestore_eff _).mono rfl) (restoreGains_eff _) rfl

theorem abortFrame_eff (s : State) : Eff [.pens, .canvas] s (abortFrame s) := by
  unfold abortFrame
  split
  · exact Eff.refl _ _
  · dsimp only
    exact Eff.set_canvas (Eff.foldl (fun _ _ => (freePen_eff _ _).mono rfl) _ (Eff.refl _ _)) rfl

theorem abortJobs_eff (s : State) :
    Eff [.cart, .mem, .binding, .gather, .codec, .pens, .select, .portA, .portB, .emit, .beacon] s (abortJobs s) := by
  unfold abortJobs
  dsimp only
  refine Eff.ite (fun _ => ?_) fun _ => ?_
  · refine Eff.ite (fun _ => ?_) fun _ => ?_
    · refine Eff.comp ?_ (failQual_eff _ _) rfl
      refine Eff.ite (fun _ => ?_) fun _ => ?_
      · refine Eff.ofMk ?_ id id id id
        exact (dropAllJobs_eff _).mono rfl
      · refine Eff.set_codec ?_ rfl
        exact (dropAllJobs_eff _).mono rfl
    · refine Eff.ite (fun _ => ?_) fun _ => ?_
      · refine Eff.ofMk ?_ id id id id
        exact (dropAllJobs_eff _).mono rfl
      · refine Eff.set_codec ?_ rfl
        exact (dropAllJobs_eff _).mono rfl
  · refine Eff.ite (fun _ => ?_) fun _ => ?_
    · refine Eff.set_gather ?_ rfl
      refine Eff.ite (fun _ => ?_) fun _ => ?_
      · refine Eff.comp ?_ (failQual_eff _ _) rfl
        refine Eff.ite (fun _ => ?_) fun _ => ?_
        · refine Eff.ofMk ?_ id id id id
          exact (dropAllJobs_eff _).mono rfl
        · refine Eff.set_codec ?_ rfl
          exact (dropAllJobs_eff _).mono rfl
      · refine Eff.ite (fun _ => ?_) fun _ => ?_
        · refine Eff.ofMk ?_ id id id id
          exact (dropAllJobs_eff _).mono rfl
        · refine Eff.set_codec ?_ rfl
          exact (dropAllJobs_eff _).mono rfl
    · refine Eff.comp ?_ (restoreFails_eff _) rfl
      refine Eff.ite (fun _ => ?_) fun _ => ?_
      · refine Eff.comp ?_ (failQual_eff _ _) rfl
        refine Eff.ite (fun _ => ?_) fun _ => ?_
        · refine Eff.ofMk ?_ id id id id
          exact (dropAllJobs_eff _).mono rfl
        · refine Eff.set_codec ?_ rfl
          exact (dropAllJobs_eff _).mono rfl
      · refine Eff.ite (fun _ => ?_) fun _ => ?_
        · refine Eff.ofMk ?_ id id id id
          exact (dropAllJobs_eff _).mono rfl
        · refine Eff.set_codec ?_ rfl
          exact (dropAllJobs_eff _).mono rfl

theorem answer_eff (m : ℕ) (a : Response) (s : State) : Eff [.matrix] s (answer m a s) := by
  unfold answer
  exact Eff.set_matrix (Eff.refl _ _) rfl id

theorem answerError_eff (m : ℕ) (id : ℕ) (s : State) : Eff [.matrix] s (answerError m id s) := by
  unfold answerError
  exact (answer_eff _ _ _).mono rfl

theorem abortBursts_eff (s : State) : Eff [.matrix] s (abortBursts s) := by
  unfold abortBursts
  dsimp only
  split
  · refine Eff.set_matrix ?_ rfl id
    exact Eff.refl _ _
  · refine Eff.comp ?_ (answerError_eff _ _ _) rfl
    refine Eff.comp ?_ (updArbiter_eff _ _ _) rfl
    refine Eff.set_matrix ?_ rfl id
    exact Eff.refl _ _

theorem retryDueNow_eff (s : State) :
    Eff [.mem, .binding, .gather, .codec, .pens, .select, .portA, .portB, .beacon] s (retryDueNow s) := by
  unfold retryDueNow
  dsimp only
  exact Eff.ite (fun _ => Eff.comp (Eff.set_gather (Eff.refl _ _) rfl) (retryRestore_eff _) rfl) fun _ => Eff.set_gather
      (Eff.refl _ _) rfl

theorem reclaim_eff (n : Nat) (l : List (Nat × Pen)) : ∀ s : State, Eff [.pens] s (reclaim n l s) := by
  induction l with
  | nil => exact fun s => Eff.refl _ s
  | cons e l ih =>
    intro s
    unfold reclaim
    exact Eff.ite (fun _ => Eff.refl _ s) fun _ => (retirePen_eff e.1 s).trans (ih _)

theorem setRunning_eff (j : Job) (s : State) : Eff [.codec] s (setRunning j s) := by
  unfold setRunning
  exact Eff.set_codec (Eff.refl _ _) rfl

theorem allocateJob_eff (blocks : Nat) (j : Job) (s : State) : Eff [.codec, .pens] s (allocateJob blocks j s) := by
  unfold allocateJob
  exact Eff.comp ((addPen_eff _ _ (fresh_alloc _ _)).mono rfl) (setRunning_eff _ _) rfl

theorem placeJob_eff (blocks : ℕ) (j : Job) (s : State) :
    Eff [.cart, .mem, .binding, .gather, .codec, .pens, .select, .portA, .portB, .engine, .emit, .beacon] s (placeJob blocks j
      s) := by
  unfold placeJob
  refine Eff.ite (fun _ => ?_) fun _ => ?_
  · exact Eff.comp ((promote_eff _).mono rfl) (report_eff _ _ _ _) rfl
  · dsimp only
    exact Eff.ite (fun _ => Eff.comp (Eff.comp (Eff.comp (Eff.ite (fun _ => (reclaim_eff _ _ _).mono rfl) fun _ => Eff.refl _ _)
        (setRunning_eff _ _) rfl) (report_eff _ _ _ _) rfl) (jobFails_eff _ _ _) rfl) fun _ => Eff.ite (fun _ => Eff.comp
        (Eff.ite (fun _ => (reclaim_eff _ _ _).mono rfl) fun _ => Eff.refl _ _) (setRunning_eff _ _) rfl) fun _ => Eff.comp
        (Eff.ite (fun _ => (reclaim_eff _ _ _).mono rfl) fun _ => Eff.refl _ _) (allocateJob_eff _ _ _) rfl

theorem requesterGains_eff (i : ℕ) (r : Requester) (s : State) :
    Eff [.mem, .binding, .gather, .codec, .pens, .select, .portA, .portB, .beacon] s (requesterGains i r s) := by
  unfold requesterGains
  dsimp only
  split
  · exact Eff.comp ((holdPen_eff _ _ _).mono rfl) (restoreGains_eff _) rfl
  · exact Eff.comp ((holdPen_eff _ _ _).mono rfl) (updPen_eff _ _ _ (by exact fun _ => rfl)) rfl
  · exact Eff.ite (fun _ => (holdPen_eff _ _ _).mono rfl) fun _ => Eff.comp ((holdPen_eff _ _ _).mono rfl) (retirePen_eff _ _)
        rfl
  · exact (holdPen_eff _ _ _).mono rfl

theorem jobGains_eff (i : ℕ) (j : Job) (s : State) :
    Eff [.mem, .binding, .gather, .codec, .pens, .select, .portA, .portB, .beacon] s (jobGains i j s) := by
  unfold jobGains
  exact Eff.foldl (fun _ _ => (requesterGains_eff _ _ _).mono rfl) _ (Eff.refl _ _)

theorem startJob_eff (header : List Byte) (j : Job) (s : State) :
    Eff [.cart, .mem, .binding, .gather, .codec, .pens, .select, .portA, .portB, .engine, .emit, .beacon] s (startJob header j
      s) := by
  unfold startJob
  refine Eff.ite (fun _ => ?_) fun _ => ?_
  · exact (placeJob_eff _ _ _).mono rfl
  · split
    · exact Eff.comp ((promote_eff _).mono rfl) (jobGains_eff _ _ _) rfl
    · exact Eff.ite (fun _ => (setRunning_eff _ _).mono rfl) fun _ => (placeJob_eff _ _ _).mono rfl

theorem publish_eff (img : Image) (block : List Byte) (j : Job) (s : State) :
    Eff [.mem, .binding, .gather, .codec, .pens, .select, .portA, .portB, .beacon] s (publish img block j s) := by
  unfold publish
  split
  · exact Eff.refl _ _
  · dsimp only
    exact Eff.comp (Eff.comp (Eff.set_codec ((updPen_eff _ _ _ (by exact fun _ => rfl)).mono rfl) rfl) (promote_eff _) rfl)
        (jobGains_eff _ _ _) rfl

theorem calInForce_eff (pen : ℕ) (block : List Byte) (code : ℕ) (s : State) :
    Eff [.pens, .emit] s (calInForce pen block code s) := by
  unfold calInForce
  dsimp only
  refine Eff.comp ?_ (loadThresholds_eff _) rfl
  refine Eff.set_emit ?_ rfl id
  refine Eff.comp ?_ (updPen_eff _ _ _ (by exact fun _ => rfl)) rfl
  exact (retirePens_eff _ _).mono rfl

theorem useCalibration_eff (block : List Byte) (j : Job) (s : State) :
    Eff [.cart, .mem, .binding, .gather, .codec, .pens, .select, .portA, .portB, .emit, .beacon] s (useCalibration block j s) :=
      by
  unfold useCalibration
  split
  · exact Eff.refl _ _
  · dsimp only
    exact Eff.ite (fun _ => Eff.set_gather ((publish_eff _ _ _ _).mono rfl) rfl) fun _ => Eff.ite (fun _ => Eff.ite (fun _ =>
        Eff.comp ((publish_eff _ _ _ _).mono rfl) (calInForce_eff _ _ _ _) rfl) fun _ => Eff.comp ((publish_eff _ _ _ _).mono
        rfl) (retirePen_eff _ _) rfl) fun _ => Eff.ite (fun _ => Eff.comp (Eff.comp ((publish_eff _ _ _ _).mono rfl)
        (calInForce_eff _ _ _ _) rfl) (thermStep_eff _) rfl) fun _ => Eff.comp ((publish_eff _ _ _ _).mono rfl) (retirePen_eff _
        _) rfl

theorem publishLive_eff (pens : List ℕ) (img : Image) (s : State) :
    Eff [.pens, .canvas, .portA, .portB] s (publishLive pens img s) := by
  unfold publishLive
  dsimp only
  exact Eff.ite (fun _ => Eff.set_canvas (Eff.foldl (fun _ _ => (updPort_eff _ _ _ (by exact fun _ => id)).mono rfl) _
      (Eff.foldl (fun _ _ => (updPen_eff _ _ _ (by exact fun _ => rfl)).mono rfl) _ (Eff.refl _ _))) rfl) fun _ => Eff.foldl
      (fun _ _ => (updPort_eff _ _ _ (by exact fun _ => id)).mono rfl) _ (Eff.foldl (fun _ _ => (updPen_eff _ _ _ (by exact fun
      _ => rfl)).mono rfl) _ (Eff.refl _ _))

theorem sampleLevels_eff (l : MatrixLevels) (s : State) : Eff [.matrix] s (sampleLevels l s) := by
  unfold sampleLevels
  dsimp only
  exact Eff.set_matrix (Eff.refl _ _) rfl id

theorem completeBurst_eff (target : ℕ) (s : State) : Eff [.pens, .matrix] s (completeBurst target s) := by
  unfold completeBurst
  split
  · exact Eff.refl _ _
  · dsimp only
    exact Eff.ite (fun _ => Eff.ite (fun _ => Eff.foldl (fun _ _ => (writeByte_eff _ _).mono rfl) _ ((updArbiter_eff _ _ _).mono
        rfl)) fun _ => (updArbiter_eff _ _ _).mono rfl) fun _ => Eff.comp (Eff.ite (fun _ => Eff.foldl (fun _ _ =>
        (writeByte_eff _ _).mono rfl) _ ((updArbiter_eff _ _ _).mono rfl)) fun _ => (updArbiter_eff _ _ _).mono rfl) (answer_eff
        _ _ _) rfl

theorem endLock_eff (target : ℕ) (s : State) : Eff [.matrix] s (endLock target s) := by
  unfold endLock
  exact (updArbiter_eff _ _ _).mono rfl

theorem lockBreach_eff (target : ℕ) (l : LockState) (s : State) : Eff [.matrix, .beacon] s (lockBreach target l s) := by
  unfold lockBreach
  exact Eff.comp (Eff.comp ((endLock_eff _ _).mono rfl) (answerError_eff _ _ _) rfl) (report_eff _ _ _ _) rfl

theorem endBreach_eff (k : ℕ) (r : MatrixReq) (s : State) : Eff [.matrix, .beacon] s (endBreach k r s) := by
  unfold endBreach
  exact (lockBreach_eff _ _ _).mono rfl

theorem noteDecodeError_eff (r : MatrixReq) (s : State) : Eff [.matrix] s (noteDecodeError r s) := by
  unfold noteDecodeError
  exact Eff.set_matrix (Eff.refl _ _) rfl id

theorem laneErrs_eff (l : Lane) (s : State) :
    Eff [.cart, .mem, .binding, .gather, .codec, .pens, .select, .canvas, .portA, .portB, .engine, .emit, .beacon] s (laneErrs l
      s) := by
  unfold laneErrs
  split
  · split
    · exact (jobBroken_eff _ _).mono rfl
    · exact Eff.refl _ _
  · exact (discardCanvas_eff _ _).mono rfl

theorem codecErrs_eff (r : MatrixReq) (s : State) :
    Eff [.pack, .core, .cart, .keeper, .clocks, .mem, .binding, .gather, .codec, .pens, .select, .canvas, .portA, .portB,
      .engine, .emit, .beacon] s (codecErrs r s) := by
  unfold codecErrs
  exact Eff.ite (fun _ => (endRead_eff _ _).mono rfl) fun _ => (laneErrs_eff _ _).mono rfl

theorem loopErrs_eff (l : Lane) (s : State) :
    Eff [.pack, .core, .cart, .keeper, .clocks, .mem, .binding, .gather, .codec, .pens, .matrix, .select, .canvas, .portA,
      .portB, .engine, .emit, .lamp, .beacon] s (loopErrs l s) := by
  unfold loopErrs
  dsimp only
  exact Eff.ite (fun _ => Eff.refl _ _) fun _ => (resetDomain_eff _ _).mono rfl

theorem defaultAnswer_eff (r : MatrixReq) (s : State) :
    Eff [.pack, .core, .cart, .keeper, .clocks, .mem, .binding, .gather, .codec, .pens, .matrix, .select, .canvas, .portA,
      .portB, .engine, .emit, .lamp, .beacon] s (defaultAnswer r s) := by
  unfold defaultAnswer
  dsimp only
  split
  · refine Eff.comp ?_ (answer_eff _ _ _) rfl
    refine Eff.set_matrix ?_ rfl id
    exact (noteDecodeError_eff _ _).mono rfl
  · refine Eff.comp ?_ (answer_eff _ _ _) rfl
    refine Eff.set_matrix ?_ rfl id
    exact (noteDecodeError_eff _ _).mono rfl
  · refine Eff.comp ?_ (answer_eff _ _ _) rfl
    refine Eff.set_matrix ?_ rfl id
    exact (noteDecodeError_eff _ _).mono rfl
  · refine Eff.comp ?_ (codecErrs_eff _ _) rfl
    refine Eff.comp ?_ (answerError_eff _ _ _) rfl
    exact (noteDecodeError_eff _ _).mono rfl
  · refine Eff.comp ?_ (codecErrs_eff _ _) rfl
    refine Eff.comp ?_ (answerError_eff _ _ _) rfl
    exact (noteDecodeError_eff _ _).mono rfl
  · refine Eff.comp ?_ (discardFrame_eff _ _) rfl
    refine Eff.comp ?_ (answerError_eff _ _ _) rfl
    exact (noteDecodeError_eff _ _).mono rfl
  · refine Eff.comp ?_ (loopErrs_eff _ _) rfl
    refine Eff.comp ?_ (answerError_eff _ _ _) rfl
    exact (noteDecodeError_eff _ _).mono rfl
  · refine Eff.comp ?_ (answerError_eff _ _ _) rfl
    exact (noteDecodeError_eff _ _).mono rfl

theorem reachFlash_eff (target : ℕ) (r : MatrixReq) (s : State) : Eff [.mem] s (reachFlash target r s) := by
  unfold reachFlash
  exact Eff.ite (fun _ => (issueReads_eff _ _).mono rfl) fun _ => Eff.refl _ _

theorem zeroStored_eff (a : ℕ) (s : State) : Eff [.pens, .matrix] s (zeroStored a s) := by
  unfold zeroStored
  exact Eff.foldl (fun _ _ => (writeByte_eff _ _).mono rfl) _ (Eff.refl _ _)

theorem restartCanvas_eff (i : ℕ) (s : State) : Eff [.codec, .pens, .canvas, .beacon] s (restartCanvas i s) := by
  unfold restartCanvas
  split
  · exact Eff.ite (fun _ => Eff.refl _ _) fun _ => Eff.ite (fun _ => (discardCanvas_eff _ _).mono rfl) fun _ => Eff.set_canvas
        (Eff.refl _ _) rfl
  · exact Eff.refl _ _

theorem restartFill_eff (i : ℕ) (s : State) :
    Eff [.cart, .mem, .binding, .gather, .codec, .pens, .select, .canvas, .portA, .portB, .engine, .emit, .beacon] s
      (restartFill i s) := by
  unfold restartFill
  split
  · exact Eff.ite (fun _ => (restartCanvas_eff _ _).mono rfl) fun _ => Eff.ite (fun _ => (jobBroken_eff _ _).mono rfl) fun _ =>
        (setRunning_eff _ _).mono rfl
  · exact (restartCanvas_eff _ _).mono rfl

theorem freeStandby_eff (i : ℕ) (q : Pen) (s : State) : Eff [.gather, .codec, .pens] s (freeStandby i q s) := by
  unfold freeStandby
  dsimp only
  refine Eff.ite (fun _ => ?_) fun _ => ?_
  · exact Eff.ite (fun _ => Eff.comp (Eff.set_gather ((freePen_eff _ _).mono rfl) rfl) (requestStitch_eff _) rfl) fun _ =>
        Eff.comp ((freePen_eff _ _).mono rfl) (requestStitch_eff _) rfl
  · refine Eff.ite (fun _ => ?_) fun _ => ?_
    · exact Eff.comp ((freePen_eff _ _).mono rfl) (requestRestore_eff _) rfl
    · split
      · exact Eff.ite (fun _ => (freePen_eff _ _).mono rfl) fun _ => Eff.comp ((freePen_eff _ _).mono rfl) (requestEntry_eff _ _
            _ _ _) rfl
      · exact (freePen_eff _ _).mono rfl

theorem frameStoreError_eff (a : ℕ) (s : State) :
    Eff [.cart, .mem, .binding, .gather, .codec, .pens, .matrix, .select, .canvas, .portA, .portB, .engine, .emit, .beacon] s
      (frameStoreError a s) := by
  unfold frameStoreError
  split
  · exact (zeroStored_eff _ _).mono rfl
  · split
    · exact Eff.refl _ _
    · exact (restartFill_eff _ _).mono rfl
    · exact (freeStandby_eff _ _ _).mono rfl
    · exact (updPen_eff _ _ _ (by exact fun _ => rfl)).mono rfl
    · split
      · exact Eff.refl _ _
      · exact (updPen_eff _ _ _ (by exact fun _ => rfl)).mono rfl
      · dsimp only
        exact Eff.set_emit ((updPen_eff _ _ _ (by exact fun _ => rfl)).mono rfl) rfl id
      · exact (updPen_eff _ _ _ (by exact fun _ => rfl)).mono rfl

theorem tableStoreError_eff (a : ℕ) (s : State) :
    Eff [.core, .mem, .pens, .matrix, .portA, .portB, .emit, .lamp, .beacon] s (tableStoreError a s) := by
  unfold tableStoreError
  dsimp only
  exact Eff.ite (fun _ => Eff.ite (fun _ => Eff.ite (fun _ => Eff.refl _ _) fun _ => Eff.comp (Eff.set_mem (Eff.refl _ _) rfl)
      (pumpReads_eff _) rfl) fun _ => (zeroStored_eff _ _).mono rfl) fun _ => Eff.ite (fun _ => Eff.set_lamp (Eff.refl _ _) rfl)
      fun _ => (halt_eff _).mono rfl

theorem uncorrectable_eff (a : ℕ) (s : State) :
    Eff [.core, .cart, .mem, .binding, .gather, .codec, .pens, .matrix, .select, .canvas, .portA, .portB, .engine, .emit, .lamp,
      .beacon] s (uncorrectable a s) := by
  unfold uncorrectable
  dsimp only
  exact Eff.ite (fun _ => Eff.comp ((reportX_eff _ _ _ _ _).mono rfl) (frameStoreError_eff _ _) rfl) fun _ => Eff.ite (fun _ =>
      Eff.comp ((reportX_eff _ _ _ _ _).mono rfl) (tableStoreError_eff _ _) rfl) fun _ => Eff.refl _ _

theorem meetBad_eff (r : MatrixReq) (s : State) :
    Eff [.core, .cart, .mem, .binding, .gather, .codec, .pens, .matrix, .select, .canvas, .portA, .portB, .engine, .emit, .lamp,
      .beacon] s (meetBad r s) := by
  unfold meetBad
  split
  · exact Eff.refl _ _
  · dsimp only
    refine Eff.comp ?_ (uncorrectable_eff _ _) rfl
    refine Eff.ite (fun _ => ?_) fun _ => ?_
    · refine Eff.set_matrix ?_ rfl id
      exact Eff.refl _ _
    · exact Eff.refl _ _

theorem grant_eff (target : ℕ) (r : MatrixReq) (s : State) :
    Eff [.pack, .core, .cart, .keeper, .clocks, .mem, .binding, .gather, .codec, .pens, .matrix, .select, .canvas, .portA,
      .portB, .engine, .emit, .lamp, .beacon] s (grant target r s) := by
  unfold grant
  dsimp only
  refine Eff.ite (fun _ => ?_) fun _ => ?_
  · refine Eff.comp ?_ (defaultAnswer_eff _ _) rfl
    refine Eff.set_matrix ?_ rfl id
    exact (updArbiter_eff _ _ _).mono rfl
  · refine Eff.comp ?_ (reachFlash_eff _ _ _) rfl
    refine Eff.ite (fun _ => ?_) fun _ => ?_
    · refine Eff.set_matrix ?_ rfl id
      exact (updArbiter_eff _ _ _).mono rfl
    · refine Eff.comp ?_ (meetBad_eff _ _) rfl
      refine Eff.set_matrix ?_ rfl id
      exact (updArbiter_eff _ _ _).mono rfl

theorem decideFor_eff (target : ℕ) (here : List MatrixReq) (s : State) :
    Eff [.pack, .core, .cart, .keeper, .clocks, .mem, .binding, .gather, .codec, .pens, .matrix, .select, .canvas, .portA,
      .portB, .engine, .emit, .lamp, .beacon] s (decideFor target here s) := by
  unfold decideFor
  split
  · dsimp only
    exact Eff.ite (fun _ => Eff.comp ((endBreach_eff _ _ _).mono rfl) (grant_eff _ _ _) rfl) fun _ => Eff.comp ((endBreach_eff _
        _ _).mono rfl) (answerError_eff _ _ _) rfl
  · split
    · exact Eff.refl _ _
    · exact (grant_eff _ _ _).mono rfl

theorem countStrobe_eff (s : State) : Eff [.beacon] s (countStrobe s) := by
  unfold countStrobe
  exact Eff.set_beacon (Eff.refl _ _) rfl id

theorem seeSelection_eff (n : ℕ) (s : State) : Eff [.codec, .pens, .select, .beacon] s (seeSelection n s) := by
  unfold seeSelection
  refine Eff.ite (fun _ => ?_) fun _ => ?_
  · exact Eff.refl _ _
  · refine Eff.ite (fun _ => ?_) fun _ => ?_
    · exact (countStrobe_eff _).mono rfl
    · refine Eff.ite (fun _ => ?_) fun _ => ?_
      · refine Eff.comp ?_ (report_eff _ _ _ _) rfl
        refine Eff.set_beacon ?_ rfl id
        exact Eff.refl _ _
      · refine Eff.ite (fun _ => ?_) fun _ => ?_
        · refine Eff.set_select ?_ rfl
          exact Eff.refl _ _
        · refine Eff.ite (fun _ => ?_) fun _ => ?_
          · exact (countStrobe_eff _).mono rfl
          · exact (selectEntry_eff _ _).mono rfl

theorem latchStitch_eff (p : Port) (s : State) : Eff [.gather] s (latchStitch p s) := by
  unfold latchStitch
  exact Eff.ite (fun _ => Eff.set_gather (Eff.refl _ _) rfl) fun _ => Eff.refl _ _

theorem latchTakeover_eff (p : Port) (s : State) : Eff [.emit] s (latchTakeover p s) := by
  unfold latchTakeover
  refine Eff.ite (fun _ => ?_) fun _ => ?_
  · refine Eff.comp ?_ (assignChannels_eff _) rfl
    refine Eff.set_emit ?_ rfl id
    exact Eff.refl _ _
  · exact Eff.refl _ _

theorem takeEntry_eff (p : Port) (e : ℕ) (s : State) : Eff [.select, .portA, .portB] s (takeEntry p e s) := by
  unfold takeEntry
  dsimp only
  exact Eff.set_select ((updPort_eff _ _ _ (by exact fun _ => id)).mono rfl) rfl

theorem askLeaves_eff (e : ℕ) (l : List ℕ) (s : State) : Eff [.codec, .pens] s (askLeaves e l s) := by
  unfold askLeaves
  refine Eff.ite (fun _ => ?_) fun _ => ?_
  · exact Eff.refl _ _
  · dsimp only
    exact Eff.foldl (fun _ _ => Eff.ite (fun _ => Eff.refl _ _) fun _ => (requestLeaf_eff _ _ _ _ _ _).mono rfl) _ (Eff.refl _
        _)

theorem latchSelection_eff (p : Port) (s : State) : Eff [.codec, .pens, .select, .portA, .portB] s (latchSelection p s) := by
  unfold latchSelection
  split
  · dsimp only
    exact Eff.ite (fun _ => Eff.ite (fun _ => (takeEntry_eff _ _ _).mono rfl) fun _ => Eff.refl _ _) fun _ => Eff.ite (fun _ =>
        (askLeaves_eff _ _ _).mono rfl) fun _ => Eff.refl _ _
  · split
    · exact Eff.ite (fun _ => (takeEntry_eff _ _ _).mono rfl) fun _ => Eff.refl _ _
    · exact Eff.refl _ _

theorem latchLive_eff (p : Port) (s : State) : Eff [.pens, .portA, .portB] s (latchLive p s) := by
  unfold latchLive
  dsimp only
  exact Eff.comp ((retirePens_eff _ _).mono rfl) (updPort_eff _ _ _ (by exact fun _ => id)) rfl

theorem latchSteps_eff (p : Port) (s : State) :
    Eff [.gather, .codec, .pens, .select, .portA, .portB, .emit] s (latchSteps p s) := by
  unfold latchSteps
  exact Eff.comp (Eff.comp (Eff.comp (Eff.comp ((latchLive_eff _ _).mono rfl) (latchSelection_eff _ _) rfl) (latchTakeover_eff _
      _) rfl) (latchStitch_eff _ _) rfl) (updPort_eff _ _ _ (by exact fun _ => id)) rfl

theorem passBoundary_eff (p : Port) (s : State) : Eff [.pens] s (passBoundary p s) := by
  unfold passBoundary
  exact (stopReading_eff _ _).mono rfl

theorem beginFrame_eff (p : Port) (s : State) : Eff [.select, .portA, .portB, .emit] s (beginFrame p s) := by
  unfold beginFrame
  dsimp only
  exact Eff.ite (fun _ => Eff.ofMk ((updPort_eff _ _ _ (by exact fun _ => id)).mono rfl) id id id (lasers_dark id rfl rfl fun h
      => dark_map fun l hl => by split <;> exact h l hl)) fun _ => Eff.set_emit ((updPort_eff _ _ _ (by exact fun _ => id)).mono
      rfl) rfl (lasers_dark id rfl rfl fun h => dark_map fun l hl => by split <;> exact h l hl)

theorem endPending_eff (s : State) : Eff [.gather, .select] s (endPending s) := by
  unfold endPending
  split
  · exact Eff.refl _ _
  · dsimp only
    exact Eff.ite (fun _ => Eff.ofMk (Eff.refl _ _) id id id id) fun _ => Eff.refl _ _

/-- A change of a channel that keeps it dark. -/
theorem updLaser_eff (c : Nat) (f : Laser → Laser) (s : State)
    (hf : ∀ l, l.level = 0 ∧ l.code = 0 → (f l).level = 0 ∧ (f l).code = 0) : Eff [.emit] s (updLaser c f s) := by
  unfold updLaser modAt
  split
  · rename_i v hv
    refine Eff.set_emit (Eff.refl _ _) rfl (lasers_dark id rfl rfl fun h l hl => ?_)
    rcases List.mem_or_eq_of_mem_set hl with hm | rfl
    · exact h l hm
    · exact hf v (h v (List.mem_of_getElem? hv))
  · exact Eff.set_emit (Eff.refl _ _) rfl (by exact id)

/-- What a channel needs to be enabled fails where light is forbidden. -/
theorem guideAllowed_forbidden {s : State} (hr : running s = true) (hg : guideAllowed s = true) (hj :
    (s.jtag.instr != .extest) = true) :
    ¬Forbidden s := by
  intro h
  simp only [running, guideAllowed, Bool.and_eq_true, Bool.not_eq_true', List.isEmpty_iff] at hr hg
  rcases h with h | h | h | h
  · rw [hr.2] at h; cases h
  · exact h hg.1.2
  · rw [hg.2] at h; cases h
  · rw [h] at hj; cases hj

theorem sinkCode_zero (s : State) (c : Nat) : sinkCode s c 0 = 0 := rfl

/-- A level other than 0 where light is not forbidden, or level 0, keeps the part dark. -/
theorem setLevel_eff (c v : Nat) (s : State) (hv : DarkSafe s → Forbidden s → v = 0) :
    Eff [.emit, .beacon] s (setLevel c v s) := by
  have h : ∀ f : Laser → Laser, (∀ l, (f l).level = v ∧ (f l).code = sinkCode s c v) → Eff [.emit] s (updLaser c f s) := by
    intro f hf
    unfold updLaser modAt
    split
    · refine Eff.set_emit (Eff.refl _ _) rfl (fun hd => fun hF => ⟨(hd hF).1, (hd hF).2.1, fun l hl => ?_⟩)
      rcases List.mem_or_eq_of_mem_set hl with hm | rfl
      · exact (hd hF).2.2 l hm
      · rw [(hf _).1, (hf _).2, hv hd hF]
        exact ⟨rfl, sinkCode_zero s c⟩
    · exact Eff.set_emit (Eff.refl _ _) rfl (by exact id)
  unfold setLevel
  dsimp only
  refine Eff.ite (fun _ => Eff.comp (Eff.comp (Eff.refl _ _) (h _ ?_) rfl) (report_eff _ _ _ _) rfl)
    (fun _ => Eff.comp (Eff.refl _ _) (h _ ?_) rfl) <;> exact fun _ => ⟨rfl, rfl⟩

theorem zeroChannels_eff (p : Port) (s : State) : Eff [.emit, .beacon] s (zeroChannels p s) := by
  unfold zeroChannels
  exact Eff.foldl (fun _ _ => setLevel_eff _ _ _ (fun _ _ => rfl)) _ (Eff.refl _ _)

theorem gateAtBoundary_eff (p : Port) (s : State) : Eff [.portA, .portB, .emit, .beacon] s (gateAtBoundary p s) := by
  unfold gateAtBoundary
  dsimp only
  refine Eff.ite (fun hg => ?_) (fun _ => Eff.comp (Eff.refl _ _) (closeGate_eff _ _) rfl)
  simp only [gateAllowed, Bool.and_eq_true] at hg
  have hn : ¬Forbidden s := guideAllowed_forbidden hg.1.1.1.1.1.1.1.1.1.1.1.1 hg.1.1.1.1.1.1.1.1.1.1.1.2 hg.1.1.1.2
  have h : ∀ f g, Eff [.portA, .portB, .emit, .beacon] s
      { updPort s p f with emit := { (updPort s p f).emit with lasers := (updPort s p f).emit.lasers.map g } } := by
    intro f g
    cases p <;>
      exact ⟨fun p hp => by cases p <;> first | rfl | (simp at hp), id, id, id, fun _ hF => absurd hF hn⟩
  refine Eff.ite (fun _ => h _ _) (fun _ => ?_)
  exact Eff.comp (h _ _) (zeroChannels_eff _ _) rfl

theorem dllReturns_eff (p : Port) (s : State) : Eff [.emit] s (dllReturns p s) := by
  unfold dllReturns
  exact Eff.set_emit (Eff.refl _ _) rfl id

theorem requestCal_eff (s : State) : Eff [.gather, .codec] s (requestCal s) := by
  unfold requestCal
  split
  · exact Eff.refl _ _
  · refine Eff.ite (fun _ => ?_) fun _ => ?_
    · exact Eff.refl _ _
    · split
      · exact Eff.comp (Eff.set_gather (Eff.refl _ _) rfl) (enqueue_eff _ _) rfl
      · exact Eff.refl _ _

theorem qualifyCart_eff (s : State) : Eff [.cart, .gather, .codec, .beacon] s (qualifyCart s) := by
  unfold qualifyCart
  exact Eff.comp (Eff.comp (Eff.set_cart (Eff.refl _ _) rfl) (report_eff _ _ _ _) rfl) (requestCal_eff _) rfl

theorem qualifyPort_eff (p : Port) (s : State) :
    Eff [.cart, .gather, .codec, .portA, .portB, .emit, .beacon] s (qualifyPort p s) := by
  unfold qualifyPort
  refine Eff.ite (fun _ => ?_) fun _ => ?_
  · exact Eff.refl _ _
  · dsimp only
    refine Eff.comp ?_ (takeover_eff _ _) rfl
    refine Eff.ite (fun _ => ?_) fun _ => ?_
    · refine Eff.set_emit ?_ rfl id
      refine Eff.ite (fun _ => ?_) fun _ => ?_
      · exact (updPort_eff _ _ _ (by exact fun _ => id)).mono rfl
      · refine Eff.comp ?_ (qualifyCart_eff _) rfl
        exact (updPort_eff _ _ _ (by exact fun _ => id)).mono rfl
    · refine Eff.ite (fun _ => ?_) fun _ => ?_
      · exact (updPort_eff _ _ _ (by exact fun _ => id)).mono rfl
      · refine Eff.comp ?_ (qualifyCart_eff _) rfl
        exact (updPort_eff _ _ _ (by exact fun _ => id)).mono rfl

theorem reportMismatch_eff (p : Port) (first : Bool) (m : ℕ × ℕ) (s : State) :
    Eff [.beacon] s (reportMismatch p first m s) := by
  unfold reportMismatch
  dsimp only
  exact Eff.ite (fun _ => (reportX_eff _ _ _ _ _).mono rfl) fun _ => Eff.set_beacon ((reportX_eff _ _ _ _ _).mono rfl) rfl id

theorem mismatchAction_eff (p : Port) (q : PortState) (e : ℕ) (s : State) :
    Eff [.codec, .pens, .portA, .portB] s (mismatchAction p q e s) := by
  unfold mismatchAction
  dsimp only
  exact Eff.ite (fun _ => Eff.refl _ _) fun _ => Eff.comp (Eff.ite (fun _ => Eff.refl _ _) fun _ => Eff.foldl (fun _ _ =>
      (requestLeaf_eff _ _ _ _ _ _).mono rfl) _ (Eff.refl _ _)) (updPort_eff _ _ _ (by exact fun _ => id)) rfl

theorem checkFrame_eff (p : Port) (q : PortState) (s : State) :
    Eff [.codec, .pens, .portA, .portB, .beacon] s (checkFrame p q s) := by
  unfold checkFrame
  refine Eff.ite (fun _ => ?_) fun _ => ?_
  · exact Eff.refl _ _
  · dsimp only
    split
    · exact (updPort_eff _ _ _ (by exact fun _ => id)).mono rfl
    · exact Eff.ite (fun _ => Eff.comp (Eff.comp (Eff.foldl (fun _ _ => (reportMismatch_eff _ _ _ _).mono rfl) _
          ((reportMismatch_eff _ _ _ _).mono rfl)) (updPort_eff _ _ _ (by exact fun _ => id)) rfl) (mismatchAction_eff _ _ _ _)
          rfl) fun _ => Eff.comp (Eff.foldl (fun _ _ => (reportMismatch_eff _ _ _ _).mono rfl) _ ((reportMismatch_eff _ _ _
          _).mono rfl)) (updPort_eff _ _ _ (by exact fun _ => id)) rfl

theorem clearLatches_eff (s : State) :
    Eff [.aon, .cart, .keeper, .clocks, .gather, .portA, .portB, .engine, .emit, .lamp, .beacon] s (clearLatches s) := by
  unfold clearLatches
  dsimp only
  exact Eff.ofMk (Eff.refl _ _) id id id id

theorem swapLampOnly_eff (s : State) : Eff [.cart, .codec, .pens, .portA, .portB, .emit, .beacon] s (swapLampOnly s) := by
  unfold swapLampOnly
  refine Eff.ite (fun _ => ?_) fun _ => ?_
  · dsimp only
    exact Eff.set_cart (Eff.comp ((coastBoth_eff _).mono rfl) (dropCalJobs_eff _) rfl) rfl
  · exact Eff.refl _ _

theorem swapCalibration_eff (oldGen : ℕ) (s : State) :
    Eff [.cart, .pens, .portA, .portB, .emit, .beacon] s (swapCalibration oldGen s) := by
  unfold swapCalibration
  refine Eff.ite (fun _ => ?_) fun _ => ?_
  · exact Eff.refl _ _
  · split
    · exact (calInForce_eff _ _ _ _).mono rfl
    · exact Eff.comp (Eff.comp (Eff.set_cart (Eff.refl _ _) rfl) (coastBoth_eff _) rfl) (report_eff _ _ _ _) rfl

theorem retireUnshown_eff (s : State) : Eff [.pens] s (retireUnshown s) := by
  unfold retireUnshown
  dsimp only
  exact (retirePens_eff _ _).mono rfl

theorem showAll_eff (e : Option ℕ) (s : State) : Eff [.pens, .portA, .portB] s (showAll e s) := by
  unfold showAll
  exact Eff.comp (Eff.foldl (fun _ _ => (showOn_eff _ _ _).mono rfl) _ (Eff.refl _ _)) (retireUnshown_eff _) rfl

theorem holdOther_eff (s : State) : Eff [.pens, .portA, .portB, .emit] s (holdOther s) := by
  unfold holdOther
  split
  · exact Eff.ite (fun _ => Eff.comp (Eff.comp ((stopReading_eff _ _).mono rfl) (closeGate_eff _ _) rfl) (updPort_eff _ _ _ (by
        exact fun _ => id)) rfl) fun _ => Eff.refl _ _
  · exact Eff.refl _ _

theorem swapCanvas_eff (old : Store) (s : State) : Eff [.pens, .canvas, .portA, .portB] s (swapCanvas old s) := by
  unfold swapCanvas
  refine Eff.ite (fun _ => ?_) fun _ => ?_
  · exact Eff.refl _ _
  · dsimp only
    refine Eff.comp ?_ (fitReserve_eff _) rfl
    refine Eff.ofMk ?_ id id id id
    exact (retirePens_eff _ _).mono rfl

theorem swapStandby_eff (s : State) : Eff [.engine] s (swapStandby s) := by
  unfold swapStandby
  exact Eff.ite (fun _ => Eff.set_engine (Eff.refl _ _) rfl) fun _ => Eff.refl _ _

theorem swapRetries_eff (packFreed : Bool) (s : State) : Eff [.pack, .cart] s (swapRetries packFreed s) := by
  unfold swapRetries
  dsimp only
  exact Eff.ite (fun _ => Eff.comp (Eff.set_pack (Eff.ite (fun _ => Eff.set_cart (Eff.refl _ _) rfl) fun _ => Eff.refl _ _) rfl)
      (packLimit_eff _) rfl) fun _ => Eff.comp (Eff.ite (fun _ => Eff.set_cart (Eff.refl _ _) rfl) fun _ => Eff.refl _ _)
      (packLimit_eff _) rfl

theorem swap_eff (s : State) :
    Eff [.aon, .pack, .cart, .keeper, .clocks, .mem, .binding, .gather, .codec, .pens, .matrix, .select, .canvas, .portA,
      .portB, .engine, .emit, .lamp, .beacon] s (swap s) := by
  unfold swap
  split
  · exact Eff.refl _ _
  · dsimp only
    refine Eff.comp ?_ (closeGather_eff _ _ _) rfl
    refine Eff.comp ?_ (preloadRound_eff _) rfl
    refine Eff.comp ?_ (swapStandby_eff _) rfl
    refine Eff.comp ?_ (swapRetries_eff _ _) rfl
    refine Eff.comp ?_ (swapCanvas_eff _ _) rfl
    refine Eff.comp ?_ (followVertical_eff _ _) rfl
    refine Eff.comp ?_ (assignChannels_eff _) rfl
    refine Eff.set_select ?_ rfl
    refine Eff.comp ?_ (showAll_eff _ _) rfl
    refine Eff.comp ?_ (holdOther_eff _) rfl
    refine Eff.comp ?_ (swapLampOnly_eff _) rfl
    refine Eff.comp ?_ (swapCalibration_eff _ _) rfl
    refine Eff.comp ?_ (clearLatches_eff _) rfl
    refine Eff.ofMk ?_ id id id id
    exact Eff.refl _ _

theorem forgetDropped_eff (s : State) : Eff [.portA, .portB] s (forgetDropped s) := by
  unfold forgetDropped
  dsimp only
  exact Eff.comp ((updPort_eff _ _ _ (by exact fun _ => id)).mono rfl) (updPort_eff _ _ _ (by exact fun _ => id)) rfl

theorem startDark_eff (s : State) : Eff [.gather, .codec, .pens, .portA, .portB] s (startDark s) := by
  unfold startDark
  exact Eff.comp (Eff.comp (Eff.comp (Eff.set_gather (Eff.refl _ _) rfl) (reclaim_eff _ _ _) rfl) (forgetDropped_eff _) rfl)
      (requestStitch_eff _) rfl

theorem beginBridge_eff (s : State) :
    Eff [.gather, .codec, .pens, .portA, .portB, .engine, .emit, .beacon] s (beginBridge s) := by
  unfold beginBridge
  dsimp only
  exact Eff.ite (fun _ => Eff.comp (Eff.comp (Eff.comp (Eff.comp (Eff.set_gather (Eff.refl _ _) rfl) (closeGates_eff _) rfl)
      (stopReading_eff _ _) rfl) (stopReading_eff _ _) rfl) (startDark_eff _) rfl) fun _ => Eff.comp (Eff.comp (Eff.comp
      (Eff.comp (Eff.set_gather (Eff.refl _ _) rfl) (closeGates_eff _) rfl) (stopReading_eff _ _) rfl) (stopReading_eff _ _)
      rfl) (startRamp_eff _) rfl

theorem stitchAtBoundary_eff (p : Port) (s : State) :
    Eff [.aon, .pack, .cart, .keeper, .clocks, .mem, .binding, .gather, .codec, .pens, .matrix, .select, .canvas, .portA,
      .portB, .engine, .emit, .lamp, .beacon] s (stitchAtBoundary p s) := by
  unfold stitchAtBoundary
  exact Eff.ite (fun _ => Eff.refl _ _) fun _ => Eff.ite (fun _ => (swap_eff _).mono rfl) fun _ => Eff.ite (fun _ =>
      (beginBridge_eff _).mono rfl) fun _ => Eff.refl _ _

theorem showTaken_eff (p : Port) (s : State) : Eff [.pens, .portA, .portB] s (showTaken p s) := by
  unfold showTaken
  dsimp only
  split
  · exact Eff.refl _ _
  · exact Eff.comp (Eff.comp (Eff.comp ((updPort_eff _ _ _ (by exact fun _ => id)).mono rfl) (markShown_eff _ _) rfl)
        (markShown_eff _ _) rfl) (retireUnshown_eff _) rfl

theorem relightAt_eff (p : Port) (s : State) : Eff [.gather, .pens, .portA, .portB] s (relightAt p s) := by
  unfold relightAt
  refine Eff.ite (fun _ => ?_) fun _ => ?_
  · exact Eff.refl _ _
  · dsimp only
    exact Eff.ite (fun _ => Eff.comp (Eff.set_gather (Eff.refl _ _) rfl) (reshow_eff _) rfl) fun _ => Eff.set_gather (Eff.refl _
        _) rfl

theorem boundaryShows_eff (p : Port) (s : State) :
    Eff [.aon, .pack, .cart, .keeper, .clocks, .mem, .binding, .gather, .codec, .pens, .matrix, .select, .canvas, .portA,
      .portB, .engine, .emit, .lamp, .beacon] s (boundaryShows p s) := by
  unfold boundaryShows
  exact Eff.ite (fun _ => (swap_eff _).mono rfl) fun _ => Eff.comp (Eff.comp ((relightAt_eff _ _).mono rfl) (showTaken_eff _ _)
      rfl) (stitchAtBoundary_eff _ _) rfl

theorem showLive_eff (p : Port) (s : State) : Eff [.pens, .portA, .portB] s (showLive p s) := by
  unfold showLive
  dsimp only
  split
  · exact (updPort_eff _ _ _ (by exact fun _ => id)).mono rfl
  · exact Eff.comp (Eff.comp ((updPort_eff _ _ _ (by exact fun _ => id)).mono rfl) (markShown_eff _ _) rfl) (retirePens_eff _ _)
        rfl

theorem countBoundary_eff (p : Port) (s : State) : Eff [.beacon] s (countBoundary p s) := by
  unfold countBoundary
  exact Eff.ite (fun _ => Eff.set_beacon (Eff.refl _ _) rfl id) fun _ => Eff.refl _ _

theorem boundarySys_eff (p : Port) (s : State) :
    Eff [.aon, .pack, .cart, .keeper, .clocks, .mem, .binding, .gather, .codec, .pens, .matrix, .select, .canvas, .portA,
      .portB, .engine, .emit, .lamp, .beacon] s (boundarySys p s) := by
  unfold boundarySys
  exact Eff.comp (Eff.comp (Eff.comp (Eff.comp ((countBoundary_eff _ _).mono rfl) (showLive_eff _ _) rfl) (boundaryShows_eff _
      _) rfl) (checkFrame_eff _ _ _) rfl) (qualifyPort_eff _ _) rfl

theorem keepLine_eff (p : Port) (n : ℕ) (levels : List (List ℕ)) (s : State) :
    Eff [.portA, .portB] s (keepLine p n levels s) := by
  unfold keepLine
  exact (updPort_eff _ _ _ (by exact fun _ => id)).mono rfl

theorem skipLine_eff (p : Port) (s : State) : Eff [.portA, .portB] s (skipLine p s) := by
  unfold skipLine
  dsimp only
  exact Eff.comp (Eff.ite (fun _ => (keepLine_eff _ _ _ _).mono rfl) fun _ => Eff.refl _ _) (updWheel_eff _ _ _ (by exact fun _
      => id)) rfl

theorem bumpCounters_gate (f : WheelCounters → WheelCounters) (w : Wheel) : (bumpCounters f w).gate = w.gate := rfl

theorem writeEvent_gate (d : Int) (e : Event) (w : Wheel) : (writeEvent d e w).gate = w.gate := by
  unfold writeEvent
  split
  · rfl
  · split <;> rfl

/-- Testing events moves no gate. -/
theorem testEvents_gate (pos : BitVec 32) (l : List Event) :
    ∀ (moves : List Nat) (w : Wheel), (testEvents pos moves l w).gate = w.gate := by
  induction l with
  | nil => exact fun _ _ => rfl
  | cons e l ih =>
    intro moves w
    unfold testEvents
    dsimp only
    split
    · split <;> rfl
    · exact (ih _ _).trans (writeEvent_gate _ _ _)

theorem keepTested_gate (pos : BitVec 32) (moves : List Nat) (l : List Event) (n : Nat) (w : Wheel)
    (h : (if (testEvents pos moves l w).held.isEmpty then markComplete n (testEvents pos moves l w)
      else testEvents pos moves l w).gate = true) : w.gate = true := by
  rw [← testEvents_gate pos l moves w]
  split at h <;> exact h

theorem retest_gate (pos : BitVec 32) (w : Wheel) : (retest pos w).gate = w.gate := by
  unfold retest
  dsimp only
  split
  · rfl
  · split <;> exact testEvents_gate pos w.held _ w

theorem renderLine_eff (p : Port) (pos : BitVec 32) (moves : List Nat) (missing : List (Layer × Nat)) (s : State) :
    Eff [.matrix, .portA, .portB] s (renderLine p pos moves missing s) := by
  unfold renderLine
  dsimp only
  split
  · exact Eff.mono (updWheel_eff _ _ _ (by exact fun _ => id)) rfl
  · refine Eff.comp ?_ (updWheel_eff _ _ _ (by intro w h; have k := keepTested_gate _ _ _ _ _ h; exact k)) rfl
    refine Eff.set_matrix ?_ rfl id
    exact Eff.comp ((keepLine_eff _ _ _ _).mono rfl) (updPort_eff _ _ _ (by exact fun _ => id)) rfl

theorem rasterRate_eff (p : Port) (s : State) :
    Eff [.cart, .codec, .pens, .portA, .portB, .emit, .beacon] s (rasterRate p s) := by
  unfold rasterRate
  exact Eff.comp (Eff.comp (Eff.comp ((coastPort_eff _ _).mono rfl) (updPort_eff _ _ _ (by exact fun _ => id)) rfl) (report_eff
      _ _ _ _) rfl) (portFailsQual_eff _) rfl

theorem startRaster_eff (p : Port) (s : State) :
    Eff [.cart, .gather, .codec, .pens, .select, .portA, .portB, .emit, .beacon] s (startRaster p s) := by
  unfold startRaster
  dsimp only
  refine Eff.ite (fun _ => ?_) fun _ => ?_
  · refine Eff.comp ?_ (takeover_eff _ _) rfl
    exact (rasterRate_eff _ _).mono rfl
  · refine Eff.ite (fun _ => ?_) fun _ => ?_
    · refine Eff.comp ?_ (latchSteps_eff _ _) rfl
      refine Eff.ite (fun _ => ?_) fun _ => ?_
      · refine Eff.set_beacon ?_ rfl id
        exact (updPort_eff _ _ _ (by exact fun _ h => absurd h Bool.false_ne_true)).mono rfl
      · exact (updPort_eff _ _ _ (by exact fun _ h => absurd h Bool.false_ne_true)).mono rfl
    · refine Eff.ite (fun _ => ?_) fun _ => ?_
      · refine Eff.set_beacon ?_ rfl id
        exact (updPort_eff _ _ _ (by exact fun _ h => absurd h Bool.false_ne_true)).mono rfl
      · exact (updPort_eff _ _ _ (by exact fun _ h => absurd h Bool.false_ne_true)).mono rfl

theorem addLivePen_eff (st : PenState) (img : Image) (seq : Nat) (p : Port) (s : State) :
    Eff [.pens] s (addLivePen st img seq p s) := by
  unfold addLivePen addPen
  exact pens_eff s _ (blocksOk_perm (reserve_take_perm s.pens _ _ rfl _))

/-- The pens taken for a frame, port by port. -/
theorem fillPens_eff (ports : List Port) (seq : Nat) (s : State) : Eff [.pens] s (fillPens ports seq s).2 := by
  unfold fillPens
  have h : ∀ (l : List Port) (r : List Nat × State), Eff [.pens] s r.2 →
      Eff [.pens] s (l.foldl (fun r p => (r.1 ++ [r.2.pens.next], addLivePen .filling {} seq p r.2)) r).2 := by
    intro l
    induction l with
    | nil => exact fun _ h => h
    | cons p l ih => exact fun r h => ih _ (h.trans (addLivePen_eff _ _ _ _ _))
  exact h ports _ (Eff.refl _ _)

theorem cvsHeader_eff (r : CanvasRx) (s : State) : Eff [.pens] s (cvsHeader r s).2 := by
  unfold cvsHeader
  dsimp only
  split
  · exact Eff.refl _ _
  · exact fillPens_eff _ _ _

theorem cvsByte_eff (e : CvsPeriod) (r : CanvasRx) (s : State) : Eff [.pens, .canvas] s (cvsByte e r s) := by
  have h : ∀ (c : Prop) [Decidable c] (k l : CanvasRx), Eff [.pens, .canvas] s (if c then cvsHeader k s else (l, s)).2 := by
    intro c _ k l
    split
    · exact (cvsHeader_eff _ _).mono rfl
    · exact Eff.refl _ _
  exact Eff.set_canvas (h _ _ _) rfl

theorem cvsStart_eff (e : CvsPeriod) (s : State) : Eff [.pens, .canvas] s (cvsStart e s) := by
  unfold cvsStart
  exact (cvsByte_eff _ _ _).mono rfl

theorem cvsEnd_eff (r : CanvasRx) (s : State) : Eff [.codec, .pens, .canvas, .portA, .portB, .beacon] s (cvsEnd r s) := by
  unfold cvsEnd
  dsimp only
  exact Eff.ite (fun _ => Eff.comp (Eff.set_canvas (Eff.refl _ _) rfl) (cvsDiscard_eff _ _ _ _) rfl) fun _ => Eff.ite (fun _ =>
      Eff.ofMk (Eff.refl _ _) id id id id) fun _ => Eff.ite (fun _ => Eff.comp (Eff.set_canvas (Eff.refl _ _) rfl)
      (cvsDiscard_eff _ _ _ _) rfl) fun _ => Eff.ite (fun _ => Eff.comp (Eff.set_canvas (Eff.refl _ _) rfl) (cvsDiscard_eff _ _
      _ _) rfl) fun _ => Eff.comp (Eff.set_canvas (Eff.refl _ _) rfl) (publishLive_eff _ _ _) rfl

theorem cvsPeriod_eff (s : State) (e : CvsPeriod) :
    Eff [.codec, .pens, .canvas, .portA, .portB, .beacon] s (cvsPeriod s e) := by
  unfold cvsPeriod
  dsimp only
  refine Eff.set_canvas ?_ rfl
  split
  · exact Eff.ite (fun _ => (cvsStart_eff _ _).mono rfl) fun _ => Eff.refl _ _
  · exact Eff.ite (fun _ => (cvsByte_eff _ _ _).mono rfl) fun _ => (cvsEnd_eff _ _).mono rfl

theorem portFault_eff (p : Port) (phase : ℕ) (s : State) :
    Eff [.cart, .codec, .pens, .portA, .portB, .emit, .beacon] s (portFault p phase s) := by
  unfold portFault
  dsimp only
  exact Eff.ite (fun _ => Eff.comp (Eff.comp (Eff.comp ((coastPort_eff _ _).mono rfl) (updPort_eff _ _ _ (by exact fun _ => id))
      rfl) (countMirrorFault_eff _ _) rfl) (takeover_eff _ _) rfl) fun _ => Eff.comp (Eff.comp (Eff.comp (Eff.comp
      ((coastPort_eff _ _).mono rfl) (updPort_eff _ _ _ (by exact fun _ => id)) rfl) (updPort_eff _ _ _ (by exact fun _ => id))
      rfl) (portFailsQual_eff _) rfl) (takeover_eff _ _) rfl

theorem startFails_eff (p : Port) (phase : ℕ) (s : State) :
    Eff [.cart, .codec, .pens, .portA, .portB, .emit, .beacon] s (startFails p phase s) := by
  unfold startFails
  exact Eff.comp ((report_eff _ _ _ _).mono rfl) (portFault_eff _ _ _) rfl

theorem beginStart_eff (p : Port) (s : State) :
    Eff [.cart, .codec, .pens, .portA, .portB, .emit, .beacon] s (beginStart p s) := by
  unfold beginStart
  dsimp only
  exact Eff.ite (fun _ => Eff.comp ((updPort_eff _ _ _ (by exact fun _ => id)).mono rfl) (startFails_eff _ _ _) rfl) fun _ =>
      Eff.comp ((updPort_eff _ _ _ (by exact fun _ => id)).mono rfl) (reportClamp_eff _ _ _) rfl

theorem beginKick_eff (p : Port) (j : ℕ) (s : State) : Eff [.portA, .portB] s (beginKick p j s) := by
  unfold beginKick
  dsimp only
  exact (updPort_eff _ _ _ (by exact fun _ => id)).mono rfl

theorem beginCapture_eff (p : Port) (milliHz : ℕ) (amp : ℕ) (s : State) :
    Eff [.portA, .portB] s (beginCapture p milliHz amp s) := by
  unfold beginCapture
  dsimp only
  exact (updPort_eff _ _ _ (by exact fun _ => id)).mono rfl

theorem takeAmp_eff (p : Port) (s : State) : Eff [.portA, .portB] s (takeAmp p s) := by
  unfold takeAmp
  split
  · exact Eff.ite (fun _ => (updPort_eff _ _ _ (by exact fun _ => id)).mono rfl) fun _ => Eff.refl _ _
  · exact Eff.refl _ _

theorem setLane_eff (l : Lane) (ks : List Slot) (s : State) : Eff [.engine] s (setLane l ks s) := by
  unfold setLane
  split
  · exact Eff.set_engine (Eff.refl _ _) rfl
  · exact Eff.set_engine (Eff.refl _ _) rfl

theorem upset_eff (u : Lane × ℕ × ℤ) (s : State) : Eff [.engine] s (upset u s) := by
  unfold upset
  exact (setLane_eff _ _ _).mono rfl

theorem takePreset_eff (s : State) : Eff [.engine] s (takePreset s) := by
  unfold takePreset
  refine Eff.ite (fun _ => ?_) fun _ => ?_
  · dsimp only
    exact Eff.comp (Eff.set_engine (Eff.refl _ _) rfl) (setLane_eff _ _ _) rfl
  · exact Eff.refl _ _

theorem mapLanes_eff (f : ℕ → Slot → Slot) (s : State) : Eff [.engine] s (mapLanes f s) := by
  unfold mapLanes
  dsimp only
  exact Eff.comp ((setLane_eff _ _ _).mono rfl) (setLane_eff _ _ _) rfl

theorem takeFolios_eff (s : State) : Eff [.engine] s (takeFolios s) := by
  unfold takeFolios
  dsimp only
  exact Eff.ite (fun _ => Eff.set_engine (Eff.refl _ _) rfl) fun _ => Eff.comp (Eff.set_engine (Eff.refl _ _) rfl) (mapLanes_eff
      _ _) rfl

theorem latchFrame_eff (i : FrameInputs) (s : State) : Eff [.cart, .portA, .portB, .engine] s (latchFrame i s) := by
  unfold latchFrame
  dsimp only
  exact Eff.foldl (fun _ _ => (upset_eff _ _).mono rfl) _ (Eff.comp (Eff.comp (Eff.ite (fun _ => Eff.set_cart (Eff.comp
      (Eff.comp (Eff.set_engine (Eff.refl _ _) rfl) (takeAmp_eff _ _) rfl) (takeAmp_eff _ _) rfl) rfl) fun _ => Eff.comp
      (Eff.comp (Eff.set_engine (Eff.refl _ _) rfl) (takeAmp_eff _ _) rfl) (takeAmp_eff _ _) rfl) (takeFolios_eff _) rfl)
      (takePreset_eff _) rfl)

theorem compareEdge_eff (s : State) (x : ℕ × Bool) : Eff [.emit] s (compareEdge s x) := by
  unfold compareEdge
  dsimp only
  exact Eff.set_emit (Eff.refl _ _) rfl id

theorem delayFrame_eff (comparisons : List (ℕ × Bool)) (locked : Bool) (s : State) :
    Eff [.emit] s (delayFrame comparisons locked s) := by
  unfold delayFrame
  dsimp only
  exact Eff.set_emit (Eff.foldl (fun _ _ => (compareEdge_eff _ _).mono rfl) _ (Eff.refl _ _)) rfl id

theorem spreadFrame_eff (s : State) : Eff [.clocks] s (spreadFrame s) := by
  unfold spreadFrame
  dsimp only
  exact (updClocks_eff _ _).mono rfl

theorem passCoil_eff (s : State) : Eff [.portA, .portB] s (passCoil s) := by
  unfold passCoil
  dsimp only
  exact Eff.comp ((updPort_eff _ _ _ (by exact fun _ => id)).mono rfl) (updPort_eff _ _ _ (by exact fun _ => id)) rfl

theorem passRecovery_eff (s : State) : Eff [.keeper] s (passRecovery s) := by
  unfold passRecovery
  exact Eff.set_keeper (Eff.refl _ _) rfl

theorem slotEvents_eff (st : Store) (before : List Slot) (after : List Slot) (done : List Done) (s : State) :
    Eff [.engine, .beacon] s (slotEvents st before after done s) := by
  unfold slotEvents
  refine Eff.foldl (fun _ _ => ?_) _ ?_
  · dsimp only
    exact Eff.ite (fun _ => Eff.comp (Eff.set_engine (Eff.ite (fun _ => Eff.comp (Eff.ite (fun _ => (report_eff _ _ _ _).mono
        rfl) fun _ => Eff.refl _ _) (report_eff _ _ _ _) rfl) fun _ => Eff.ite (fun _ => (report_eff _ _ _ _).mono rfl) fun _ =>
        Eff.refl _ _) rfl) (report_eff _ _ _ _) rfl) fun _ => Eff.ite (fun _ => Eff.comp (Eff.ite (fun _ => (report_eff _ _ _
        _).mono rfl) fun _ => Eff.refl _ _) (report_eff _ _ _ _) rfl) fun _ => Eff.ite (fun _ => (report_eff _ _ _ _).mono rfl)
        fun _ => Eff.refl _ _
  · exact Eff.refl _ _

theorem finish_eff (st : Store) (r : LaneRun) (before : List Slot) (ks : List Slot) (s : State) :
    Eff [.engine, .beacon] s (finish st r before ks s) := by
  unfold finish
  dsimp only
  exact Eff.comp (Eff.set_engine (Eff.refl _ _) rfl) (slotEvents_eff _ _ _ _ _) rfl

theorem rescale_eff (s : State) : Eff [.emit, .beacon] s (rescale s) := by
  unfold rescale
  refine Eff.foldl (fun t c => Eff.ite (fun _ => Eff.refl _ _) fun hn => setLevel_eff c _ t fun hd hF => ?_) _
      (Eff.refl _ _)
  refine absurd ?_ hn
  unfold laserOf
  rw [List.getD_eq_getElem?_getD]
  cases h : t.emit.lasers[c]? with
  | none => rfl
  | some l => exact ((hd hF).2.2 l (List.mem_of_getElem? h)).1

theorem dropUnwritten_eff (st : Store) (s : State) : Eff [.portA, .portB, .engine] s (dropUnwritten st s) := by
  unfold dropUnwritten
  dsimp only
  exact Eff.ite (fun _ => Eff.ite (fun _ => Eff.set_engine (Eff.refl _ _) rfl) fun _ => Eff.comp (Eff.set_engine (Eff.refl _ _)
      rfl) (updPort_eff _ _ _ (by exact fun _ => id)) rfl) fun _ => Eff.comp (Eff.ite (fun _ => Eff.set_engine (Eff.refl _ _)
      rfl) fun _ => Eff.comp (Eff.set_engine (Eff.refl _ _) rfl) (updPort_eff _ _ _ (by exact fun _ => id)) rfl) (updPort_eff _
      _ _ (by exact fun _ => id)) rfl

theorem applyWrite_eff (s : State) (w : Write) : Eff [.portA, .portB, .engine] s (applyWrite s w) := by
  unfold applyWrite
  refine Eff.ite (fun _ => Eff.refl _ _) fun _ => ?_
  split
  · refine Eff.mono (updPort_eff _ _ _ ?_) rfl
    intro q h
    split at h
    · exact h
    · split at h <;> exact h
  · exact Eff.set_engine (Eff.refl _ _) rfl

theorem writeFrame_eff (st : Store) (r : LaneRun) (s : State) :
    Eff [.portA, .portB, .engine, .emit, .beacon] s (writeFrame st r s) := by
  unfold writeFrame
  exact Eff.comp (Eff.comp (Eff.foldl (fun _ _ => (applyWrite_eff _ _).mono rfl) _ (Eff.refl _ _)) (dropUnwritten_eff _ _) rfl)
      (rescale_eff _) rfl

theorem frameBoth_eff (st : Store) (s : State) :
    Eff [.pack, .core, .cart, .keeper, .clocks, .mem, .binding, .gather, .codec, .pens, .matrix, .select, .canvas, .portA,
      .portB, .engine, .emit, .lamp, .beacon] s (frameBoth st s) := by
  unfold frameBoth
  dsimp only
  exact Eff.ite (fun _ => Eff.comp (Eff.comp (Eff.comp ((setLane_eff _ _ _).mono rfl) (setLane_eff _ _ _) rfl) (writeFrame_eff _
      _ _) rfl) (finish_eff _ _ _ _ _) rfl) fun _ => Eff.ite (fun _ => Eff.comp (Eff.comp (Eff.comp (Eff.comp ((setLane_eff _ _
      _).mono rfl) (setLane_eff _ _ _) rfl) (finish_eff _ _ _ _ _) rfl) (laneTakeover_eff _) rfl) (resetDomain_eff _ _) rfl) fun
      _ => Eff.comp (Eff.comp (Eff.comp ((setLane_eff _ _ _).mono rfl) (setLane_eff _ _ _) rfl) (finish_eff _ _ _ _ _) rfl)
      (resetDomain_eff _ _) rfl

theorem joinLane_eff (s : State) : Eff [.engine, .beacon] s (joinLane s) := by
  unfold joinLane
  dsimp only
  split
  · exact Eff.ite (fun _ => Eff.set_engine ((setLane_eff _ _ _).mono rfl) rfl) fun _ => Eff.comp (Eff.set_engine ((setLane_eff _
        _ _).mono rfl) rfl) (report_eff _ _ _ _) rfl
  · exact Eff.refl _ _

theorem frameAlone_eff (st : Store) (s : State) : Eff [.portA, .portB, .engine, .emit, .beacon] s (frameAlone st s) := by
  unfold frameAlone
  dsimp only
  exact Eff.comp (Eff.comp (Eff.comp ((writeFrame_eff _ _ _).mono rfl) (setLane_eff _ _ _) rfl) (finish_eff _ _ _ _ _) rfl)
      (joinLane_eff _) rfl

theorem tableError_eff (l : Lane) (s : State) :
    Eff [.core, .keeper, .pens, .matrix, .portA, .portB, .engine, .emit, .lamp, .beacon] s (tableError l s) := by
  unfold tableError
  dsimp only
  refine Eff.ite (fun _ => ?_) fun _ => ?_
  · refine Eff.comp ?_ (halt_eff _) rfl
    split
    · exact Eff.set_engine (Eff.refl _ _) rfl
    · exact Eff.set_engine (Eff.refl _ _) rfl
  · refine Eff.set_engine ?_ rfl
    refine Eff.comp ?_ (loseLane_eff _ _) rfl
    split
    · exact Eff.set_engine (Eff.refl _ _) rfl
    · exact Eff.set_engine (Eff.refl _ _) rfl

theorem lanesLost_eff (i : FrameInputs) (s : State) :
    Eff [.pack, .core, .cart, .keeper, .clocks, .mem, .binding, .gather, .codec, .pens, .matrix, .select, .canvas, .portA,
      .portB, .engine, .emit, .lamp, .beacon] s (lanesLost i s) := by
  unfold lanesLost
  dsimp only
  exact Eff.elim (Eff.elim (Eff.refl _ _) (fun _ => (tableError_eff _ _).mono rfl) _) (fun _ => Eff.ite (fun _ => Eff.elim
      (Eff.refl _ _) (fun _ => (tableError_eff _ _).mono rfl) _) fun _ => Eff.comp (Eff.elim (Eff.refl _ _) (fun _ =>
      (tableError_eff _ _).mono rfl) _) (resetDomain_eff _ _) rfl) _

theorem windowBlind_eff (xs : List PdSample) (s : State) :
    Eff [.safety, .portA, .portB, .emit, .beacon] s (windowBlind xs s) := by
  unfold windowBlind
  dsimp only
  refine Eff.ite (fun _ => ?_) fun _ => ?_
  · refine Eff.comp ?_ (trip_eff _ _ _) rfl
    refine Eff.ite (fun _ => ?_) fun _ => ?_
    · refine Eff.comp ?_ (report_eff _ _ _ _) rfl
      refine Eff.ite (fun _ => ?_) fun _ => ?_
      · refine Eff.comp ?_ (report_eff _ _ _ _) rfl
        refine Eff.set_emit ?_ rfl id
        exact Eff.refl _ _
      · refine Eff.set_emit ?_ rfl id
        exact Eff.refl _ _
    · refine Eff.ite (fun _ => ?_) fun _ => ?_
      · refine Eff.comp ?_ (report_eff _ _ _ _) rfl
        refine Eff.set_emit ?_ rfl id
        exact Eff.refl _ _
      · refine Eff.set_emit ?_ rfl id
        exact Eff.refl _ _
  · refine Eff.ite (fun _ => ?_) fun _ => ?_
    · refine Eff.comp ?_ (report_eff _ _ _ _) rfl
      refine Eff.ite (fun _ => ?_) fun _ => ?_
      · refine Eff.comp ?_ (report_eff _ _ _ _) rfl
        refine Eff.set_emit ?_ rfl id
        exact Eff.refl _ _
      · refine Eff.set_emit ?_ rfl id
        exact Eff.refl _ _
    · refine Eff.ite (fun _ => ?_) fun _ => ?_
      · refine Eff.comp ?_ (report_eff _ _ _ _) rfl
        refine Eff.set_emit ?_ rfl id
        exact Eff.refl _ _
      · refine Eff.set_emit ?_ rfl id
        exact Eff.refl _ _

theorem headroomEvent_eff (c : ℕ) (s : State) : Eff [.emit, .beacon] s (headroomEvent c s) := by
  unfold headroomEvent
  dsimp only
  exact Eff.ite (fun _ => Eff.comp ((updLaser_eff _ _ _ (by exact fun _ => id)).mono rfl) (report_eff _ _ _ _) rfl) fun _ =>
      Eff.refl _ _

theorem windowChannels_eff (xs : List PdSample) (runs : List SinkRun) (s : State) :
    Eff [.emit, .beacon, .free] s (windowChannels xs runs s) := by
  unfold windowChannels
  dsimp only
  exact Eff.foldl (fun _ _ => (headroomEvent_eff _ _).mono rfl) _ (Eff.ite (fun _ => Eff.ofMk (Eff.refl _ _) id id id
      (lasers_dark id rfl rfl fun h => dark_zipIdx h fun _ he => he)) fun _ => Eff.set_emit (Eff.refl _ _) rfl (lasers_dark id
      rfl rfl fun h => dark_zipIdx h fun _ he => he))

theorem updLamps_eff (f : LampField → LampField) (s : State) : Eff [.lamp] s (updLamps f s) := by
  unfold updLamps
  exact Eff.set_lamp (Eff.refl _ _) rfl

theorem lampHeadroomEvent_eff (s : State) : Eff [.lamp, .beacon] s (lampHeadroomEvent s) := by
  unfold lampHeadroomEvent
  exact Eff.ite (fun _ => Eff.comp ((updLamps_eff _ _).mono rfl) (report_eff _ _ _ _) rfl) fun _ => Eff.refl _ _

theorem turnFrame_eff (s : State) : Eff [.lamp] s (turnFrame s) := by
  unfold turnFrame
  exact (updLamps_eff _ _).mono rfl

theorem computeCodes_eff (s : State) : Eff [.lamp] s (computeCodes s) := by
  unfold computeCodes
  dsimp only
  exact (updLamps_eff _ _).mono rfl

theorem takeScales_eff (s : State) : Eff [.lamp] s (takeScales s) := by
  unfold takeScales
  exact (updLamps_eff _ _).mono rfl

theorem takeLampEntry_eff (e : ℕ) (s : State) : Eff [.select] s (takeLampEntry e s) := by
  unfold takeLampEntry
  exact Eff.ite (fun _ => Eff.set_select (Eff.refl _ _) rfl) fun _ => Eff.set_select (Eff.refl _ _) rfl

theorem takeMask_eff (s : State) : Eff [.pens, .select, .lamp] s (takeMask s) := by
  unfold takeMask
  split
  · exact (updLamps_eff _ _).mono rfl
  · dsimp only
    exact Eff.ite (fun _ => Eff.ite (fun _ => Eff.elim (Eff.refl _ _) (fun _ => (takeLampEntry_eff _ _).mono rfl) _) fun _ =>
        Eff.refl _ _) fun _ => Eff.comp (Eff.comp (Eff.comp (Eff.ite (fun _ => Eff.elim (Eff.refl _ _) (fun _ =>
        (takeLampEntry_eff _ _).mono rfl) _) fun _ => Eff.refl _ _) (updLamps_eff _ _) rfl) (markShown_eff _ _) rfl)
        (retirePens_eff _ _) rfl

theorem takeLampFields_eff (s : State) : Eff [.lamp] s (takeLampFields s) := by
  unfold takeLampFields
  dsimp only
  exact (updLamps_eff _ _).mono rfl

theorem stitchAtTick_eff (s : State) :
    Eff [.aon, .pack, .cart, .keeper, .clocks, .mem, .binding, .gather, .codec, .pens, .matrix, .select, .canvas, .portA,
      .portB, .engine, .emit, .lamp, .beacon] s (stitchAtTick s) := by
  unfold stitchAtTick
  exact Eff.ite (fun _ => Eff.refl _ _) fun _ => Eff.ite (fun _ => (swap_eff _).mono rfl) fun _ => Eff.ite (fun _ =>
      (beginBridge_eff _).mono rfl) fun _ => Eff.refl _ _

theorem trackSinks_eff (track : List (ℕ × Bool)) (s : State) : Eff [.lamp] s (trackSinks track s) := by
  unfold trackSinks
  exact (updLamps_eff _ _).mono rfl

theorem latchLamp_eff (i : ℕ) (s : State) : Eff [.lamp] s (latchLamp i s) := by
  unfold latchLamp
  exact (updLamps_eff _ _).mono rfl

theorem lampFault_eff (s : State) (i : ℕ) : Eff [.lamp, .beacon] s (lampFault s i) := by
  unfold lampFault
  dsimp only
  exact Eff.ite (fun _ => Eff.refl _ _) fun _ => Eff.ite (fun _ => Eff.comp ((latchLamp_eff _ _).mono rfl) (report_eff _ _ _ _)
      rfl) fun _ => Eff.ite (fun _ => Eff.comp ((latchLamp_eff _ _).mono rfl) (report_eff _ _ _ _) rfl) fun _ => Eff.refl _ _

theorem probeRow_eff (row : ℕ) (rail : ℕ) (sinks : List ℕ) (s : State) :
    Eff [.lamp, .beacon] s (probeRow row rail sinks s) := by
  unfold probeRow
  dsimp only
  exact Eff.ite (fun _ => Eff.comp (Eff.comp (Eff.foldl (fun _ _ => (latchLamp_eff _ _).mono rfl) _ ((updLamps_eff _ _).mono
      rfl)) (updLamps_eff _ _) rfl) (report_eff _ _ _ _) rfl) fun _ => Eff.foldl (fun _ _ => (lampFault_eff _ _).mono rfl) _
      ((updLamps_eff _ _).mono rfl)

theorem countTick_eff (trig : Bool) (s : State) : Eff [.pins, .safety, .keeper] s (countTick trig s) := by
  unfold countTick
  exact Eff.ofMk (Eff.refl _ _) id id id id

theorem allocateTick_eff (s : State) : Eff [.yard, .beacon] s (allocateTick s) := by
  unfold allocateTick
  dsimp only
  exact Eff.ite (fun _ => Eff.comp (Eff.set_yard (Eff.refl _ _) rfl) (report_eff _ _ _ _) rfl) fun _ => Eff.set_yard (Eff.refl _
      _) rfl

theorem tickTimer_eff (first : Bool) (s : State) : Eff [.beacon] s (tickTimer first s) := by
  unfold tickTimer
  dsimp only
  exact Eff.ite (fun _ => Eff.set_beacon (Eff.refl _ _) rfl id) fun _ => Eff.ite (fun _ => Eff.set_beacon (Eff.refl _ _) rfl id)
      fun _ => Eff.set_beacon (Eff.refl _ _) rfl id

theorem tickGather_eff (s : State) :
    Eff [.aon, .pack, .cart, .keeper, .clocks, .mem, .binding, .gather, .codec, .pens, .matrix, .select, .canvas, .portA,
      .portB, .engine, .emit, .lamp, .beacon] s (tickGather s) := by
  unfold tickGather
  dsimp only
  exact Eff.ite (fun _ => (restoreProgress_eff _).mono rfl) fun _ => Eff.comp ((restoreProgress_eff _).mono rfl)
      (stitchAtTick_eff _) rfl

theorem clearLatch_eff (s : State) : Eff [.safety, .portA, .portB] s (clearLatch s) := by
  unfold clearLatch
  exact Eff.ofMk (Eff.refl _ _) id id id (darkSafe_clear rfl rfl rfl rfl rfl rfl rfl)

theorem updIntegrity_eff (f : Integrity → Integrity) (s : State) : Eff [.integrity] s (updIntegrity f s) := by
  unfold updIntegrity
  exact Eff.set_integrity (Eff.refl _ _) rfl

theorem scrubLate_eff (s : State) : Eff [.integrity, .beacon] s (scrubLate s) := by
  unfold scrubLate
  dsimp only
  exact Eff.ite (fun _ => Eff.comp ((updIntegrity_eff _ _).mono rfl) (report_eff _ _ _ _) rfl) fun _ => Eff.refl _ _

theorem askAgain_eff (i : ℕ) (q : Pen) (s : State) : Eff [.codec, .pens] s (askAgain i q s) := by
  unfold askAgain
  refine Eff.ite (fun _ => ?_) fun _ => ?_
  · dsimp only
    split
    · exact Eff.ite (fun _ => Eff.refl _ _) fun _ => (enqueue_eff _ _).mono rfl
    · exact Eff.refl _ _
  · split
    · exact Eff.ite (fun _ => (requestLeaf_eff _ _ _ _ _ _).mono rfl) fun _ => Eff.refl _ _
    · exact Eff.refl _ _

theorem askBadPens_eff (s : State) : Eff [.codec, .pens] s (askBadPens s) := by
  unfold askBadPens
  exact Eff.ite (fun _ => Eff.refl _ _) fun _ => Eff.foldl (fun _ _ => (askAgain_eff _ _ _).mono rfl) _ (Eff.refl _ _)

theorem writeBackAll_eff (s : State) : Eff [.integrity] s (writeBackAll s) := by
  unfold writeBackAll
  exact (updIntegrity_eff _ _).mono rfl

theorem correctWord_eff (a : ℕ) (s : State) : Eff [.keeper, .integrity, .beacon] s (correctWord a s) := by
  unfold correctWord
  dsimp only
  exact Eff.comp (Eff.ite (fun _ => Eff.comp ((updIntegrity_eff _ _).mono rfl) (reportX_eff _ _ _ _ _) rfl) fun _ =>
      (updIntegrity_eff _ _).mono rfl) (coverFault_eff _ _ _) rfl

theorem advanceWalk_eff (s : State) : Eff [.integrity] s (advanceWalk s) := by
  unfold advanceWalk
  dsimp only
  exact (updIntegrity_eff _ _).mono rfl

theorem takeEvents_suffix (n : Nat) (q : List EventEntry) : (takeEvents n q).2 <:+ q := by
  induction q generalizing n with
  | nil => exact List.suffix_refl _
  | cons e q ih =>
    unfold takeEvents
    split
    · exact (ih _).trans (List.suffix_cons e q)
    · exact List.suffix_refl _

/-- A part of the queue fills no more places. -/
theorem queuePlaces_sublist {q r : List EventEntry} (h : r.Sublist q) : queuePlaces r ≤ queuePlaces q :=
  List.Sublist.sum_le_sum (h.map _) fun _ _ => Nat.zero_le _

theorem capture_eff (frame : Bool) (s : State) : Eff [.yard, .beacon] s (capture frame s) := by
  refine ⟨fun p hp => by cases p <;> first | rfl | (simp at hp), fun h => ?_, id, id, id⟩
  have hs := (takeEvents_suffix 4 s.beacon.queue).sublist
  exact ⟨(queuePlaces_sublist hs).trans h.1, h.2.1.sublist hs, h.2.2⟩

theorem queueEvents_eff (p : Port) (f : BitVec 32) (evs : List (ℕ × ℕ × ℕ)) (s : State) :
    Eff [.portA, .portB] s (queueEvents p f evs s) := by
  unfold queueEvents
  refine Eff.ite (fun _ => ?_) fun _ => ?_
  · exact Eff.refl _ _
  · dsimp only
    exact (updWheel_eff _ _ _ (by exact fun _ => id)).mono rfl

theorem fireLevel_eff (p : Port) (c v : Nat) (s : State) : Eff [.emit, .beacon] s (fireLevel p c v s) := by
  unfold fireLevel
  dsimp only
  refine setLevel_eff c _ s fun _ hF => ?_
  split
  · rename_i hl
    simp only [Bool.and_eq_true, channelEnabled] at hl
    exact absurd hF (guideAllowed_forbidden hl.1.1.1.1.1.1.1.1 hl.1.1.2.2 hl.2)
  · rfl

theorem monitor_eff (p : Port) (pos : BitVec 32) (s : State) : Eff [.emit, .beacon] s (monitor p pos s) := by
  unfold monitor
  dsimp only
  exact Eff.ite (fun _ => Eff.foldl (fun _ _ => Eff.ite (fun _ => Eff.refl _ _) fun _ => Eff.ite (fun _ => (fireLevel_eff _ _ _
      _).mono rfl) fun _ => Eff.ite (fun _ => (fireLevel_eff _ _ _ _).mono rfl) fun _ => Eff.refl _ _) _ (Eff.refl _ _)) fun _
      => Eff.refl _ _

theorem fireDue_eff (p : Port) (pos : BitVec 32) (s : State) : Eff [.portA, .portB, .emit, .beacon] s (fireDue p pos s) := by
  unfold fireDue
  dsimp only
  exact Eff.foldl (fun _ _ => Eff.foldl (fun _ _ => (fireLevel_eff _ _ _ _).mono rfl) _ (Eff.refl _ _)) _ ((updWheel_eff _ _ _
      (by exact fun _ => id)).mono rfl)

end Sys2Proof.Laws
end

