-- ==== Sys2Proof/Laws/Commands.lean ====
section
/-! SUPPORT. One lemma for each command: it answers a next state, with the parts that it changes and the whole-machine facts that
it keeps. -/

namespace Sys2Proof.Laws

open Sys2Proof Machine

theorem execVinValid_eff (s : State) : ∃ t, execVinValid s = .next t ∧ Eff (touches .vinValid) s t := by
  unfold execVinValid
  exact Eff.guarded (Eff.set_supply (Eff.refl _ _) rfl)

theorem execAonUp_eff (s : State) : ∃ t, execAonUp s = .next t ∧ Eff (touches .aonUp) s t := by
  unfold execAonUp
  exact Eff.guarded (Eff.set_supply (Eff.refl _ _) rfl)

theorem execVinInvalid_eff (s : State) : ∃ t, execVinInvalid s = .next t ∧ Eff (touches .vinInvalid) s t :=
  Eff.guarded ⟨fun p hp => by cases p <;> first | rfl | (simp [touches] at hp), fun _ => reset_queue, fun _ => reset_blocks,
    fun _ => rfl, fun _ _ => reset_dark⟩

theorem execVddioHValid_eff (level33 : Bool) (s : State) :
    ∃ t, execVddioHValid level33 s = .next t ∧ Eff (touches (.vddioHValid level33)) s t := by
  unfold execVddioHValid
  exact Eff.guarded (Eff.set_supply (Eff.refl _ _) rfl)

theorem execVddioHInvalid_eff (s : State) : ∃ t, execVddioHInvalid s = .next t ∧ Eff (touches .vddioHInvalid) s t := by
  unfold execVddioHInvalid
  exact Eff.guarded (Eff.comp (Eff.set_supply (Eff.refl _ _) rfl) (coreReset_eff _) rfl)

theorem execVddioMValid_eff (level33 : Bool) (s : State) :
    ∃ t, execVddioMValid level33 s = .next t ∧ Eff (touches (.vddioMValid level33)) s t := by
  unfold execVddioMValid
  exact Eff.guarded (Eff.ite (fun _ => Eff.comp (Eff.set_supply (Eff.refl _ _) rfl) (failReads_eff _) rfl) fun _ =>
      Eff.set_supply (Eff.refl _ _) rfl)

theorem execVddioMInvalid_eff (s : State) : ∃ t, execVddioMInvalid s = .next t ∧ Eff (touches .vddioMInvalid) s t := by
  unfold execVddioMInvalid
  exact Eff.guarded (Eff.ite (fun _ => Eff.comp (Eff.set_supply (Eff.refl _ _) rfl) (failReads_eff _) rfl) fun _ =>
      Eff.set_supply (Eff.refl _ _) rfl)

theorem execMemSupplyTimeout_eff (s : State) : ∃ t, execMemSupplyTimeout s = .next t ∧ Eff (touches .memSupplyTimeout) s t := by
  unfold execMemSupplyTimeout
  refine Eff.guarded ?_
  refine Eff.comp ?_ (report_eff _ _ _ _) rfl
  refine Eff.comp ?_ (goLive_eff _ _) rfl
  refine Eff.ofMk ?_ id id id id
  exact Eff.refl _ _

theorem execVmirLow_eff (s : State) : ∃ t, execVmirLow s = .next t ∧ Eff (touches .vmirLow) s t := by
  unfold execVmirLow
  exact Eff.guarded (Eff.ite (fun _ => Eff.ite (fun _ => Eff.comp (Eff.comp (Eff.set_cart (Eff.comp (Eff.set_supply (Eff.refl _
      _) rfl) (coastBoth_eff _) rfl) rfl) (freshPorts_eff _) rfl) (setStep_eff _ _) rfl) fun _ => Eff.comp (Eff.set_supply
      (Eff.refl _ _) rfl) (coastBoth_eff _) rfl) fun _ => Eff.set_supply (Eff.refl _ _) rfl)

theorem execVmirRestored_eff (s : State) : ∃ t, execVmirRestored s = .next t ∧ Eff (touches .vmirRestored) s t := by
  unfold execVmirRestored
  exact Eff.guarded (Eff.set_supply (Eff.refl _ _) rfl)

theorem execRstNAssert_eff (lowNs : ℕ) (s : State) :
    ∃ t, execRstNAssert lowNs s = .next t ∧ Eff (touches (.rstNAssert lowNs)) s t := by
  unfold execRstNAssert
  exact Eff.guarded (Eff.ite (fun _ => Eff.comp ((pulse_eff _ _ _ _).mono rfl) (coreReset_eff _) rfl) fun _ => (pulse_eff _ _ _
      _).mono rfl)

theorem execCoreRelease_eff (r : ReleasePins) (s : State) :
    ∃ t, execCoreRelease r s = .next t ∧ Eff (touches (.coreRelease r)) s t := by
  unfold execCoreRelease
  refine Eff.guardedIf fun hc => ?_
  simp only [Bool.and_eq_true] at hc
  refine Eff.comp (Eff.comp (Eff.comp ?_ (releasePack_eff _) rfl) (releasePens_eff _) rfl) (releaseBus_eff _ _) rfl
  have h0 : ∀ x y, Eff (touches (.coreRelease r)) s { s with core := x, pins := y } := fun x y =>
    ⟨fun p hp => by cases p <;> first | rfl | (simp [touches] at hp), id, id, id, fun hd _ => hd (Or.inl hc.1.2)⟩
  have h1 : ∀ x y, Eff (touches (.coreRelease r)) s
      (releaseWaiting (releaseStraps (allBalls.foldl (fun t b => releaseBall b t) { s with core := x, pins := y }))) :=
    fun x y => Eff.comp (Eff.comp (Eff.foldl (fun _ _ => (releaseBall_eff _ _).mono rfl) _ (h0 x y)) (releaseStraps_eff _) rfl)
      (releaseWaiting_eff _) rfl
  have h2 : ∀ t, Eff (touches (.coreRelease r)) s t → Eff (touches (.coreRelease r)) s
      (if t.keeper.restarted then report evKeeperRestart 0 255 { t with keeper := { t.keeper with restarted := false } } else t)
          :=
    fun _ h => Eff.ite (fun _ => Eff.comp (Eff.set_keeper h rfl) (report_eff _ _ _ _) rfl) fun _ => h
  exact Eff.ite (fun _ => Eff.set_cart (h2 _ (h1 _ _)) rfl) fun _ => h2 _ (h1 _ _)

theorem execPllLocked_eff (crystalHz : ℕ) (refinHz : ℕ) (s : State) :
    ∃ t, execPllLocked crystalHz refinHz s = .next t ∧ Eff (touches (.pllLocked crystalHz refinHz)) s t := by
  unfold execPllLocked
  refine Eff.guarded ?_
  refine Eff.ite (fun _ => ?_) fun _ => ?_
  · refine Eff.comp ?_ (report_eff _ _ _ _) rfl
    refine Eff.set_clocks ?_ rfl
    refine Eff.ite (fun _ => ?_) fun _ => ?_
    · refine Eff.ofMk ?_ id id id id
      exact Eff.refl _ _
    · refine Eff.comp ?_ (report_eff _ _ _ _) rfl
      refine Eff.ofMk ?_ id id id id
      exact Eff.refl _ _
  · refine Eff.ite (fun _ => ?_) fun _ => ?_
    · refine Eff.ofMk ?_ id id id id
      exact Eff.refl _ _
    · refine Eff.comp ?_ (report_eff _ _ _ _) rfl
      refine Eff.ofMk ?_ id id id id
      exact Eff.refl _ _

theorem execKeeperRestart_eff (s : State) : ∃ t, execKeeperRestart s = .next t ∧ Eff (touches .keeperRestart) s t := by
  unfold execKeeperRestart
  refine Eff.guarded ?_
  dsimp only
  exact Eff.set_keeper ((coreReset_eff _).mono rfl) rfl

theorem execCodePass_eff (r : PassReadings) (s : State) :
    ∃ t, execCodePass r s = .next t ∧ Eff (touches (.codePass r)) s t := by
  unfold execCodePass
  exact Eff.guarded (Eff.ite (fun _ => Eff.comp (Eff.comp (Eff.comp (Eff.comp (Eff.comp ((cartPass_eff _ _).mono rfl)
      (codesPass_eff _ _) rfl) (packPass_eff _ _) rfl) (detectPair_eff _) rfl) (packLimit_eff _) rfl) (codeStepPass_eff _ _)
      rfl) fun _ => Eff.comp (Eff.comp (Eff.comp (Eff.comp ((cartPass_eff _ _).mono rfl) (codesPass_eff _ _) rfl) (packPass_eff
      _ _) rfl) (detectPair_eff _) rfl) (packLimit_eff _) rfl)

theorem execCodeChanged_eff (ball : CodeBall) (s : State) :
    ∃ t, execCodeChanged ball s = .next t ∧ Eff (touches (.codeChanged ball)) s t := by
  unfold execCodeChanged
  refine Eff.guarded ?_
  refine Eff.comp ?_ (report_eff _ _ _ _) rfl
  refine Eff.ofMk ?_ id id id id
  exact Eff.refl _ _

theorem execCodeSafeChange_eff (s : State) : ∃ t, execCodeSafeChange s = .next t ∧ Eff (touches .codeSafeChange) s t := by
  unfold execCodeSafeChange
  exact Eff.guarded (Eff.comp ((trip_eff _ _ _).mono rfl) (report_eff _ _ _ _) rfl)

theorem execPackPresent_eff (s : State) : ∃ t, execPackPresent s = .next t ∧ Eff (touches .packPresent) s t := by
  unfold execPackPresent
  exact Eff.guarded (Eff.comp (Eff.ite (fun _ => Eff.set_pack (Eff.refl _ _) rfl) fun _ => Eff.ite (fun _ => Eff.set_pack
      (Eff.refl _ _) rfl) fun _ => Eff.ite (fun _ => Eff.comp (Eff.set_pack (Eff.refl _ _) rfl) (startDetection_eff _) rfl) fun
      _ => Eff.set_pack (Eff.set_pack (Eff.refl _ _) rfl) rfl) (packLimit_eff _) rfl)

theorem execPackRemoved_eff (s : State) : ∃ t, execPackRemoved s = .next t ∧ Eff (touches .packRemoved) s t := by
  unfold execPackRemoved
  refine Eff.guarded ?_
  refine Eff.comp ?_ (packLimit_eff _) rfl
  refine Eff.ite (fun _ => ?_) fun _ => ?_
  · refine Eff.set_pack ?_ rfl
    refine Eff.ite (fun _ => ?_) fun _ => ?_
    · refine Eff.comp ?_ (report_eff _ _ _ _) rfl
      refine Eff.set_cart ?_ rfl
      refine Eff.ite (fun _ => ?_) fun _ => ?_
      · refine Eff.comp ?_ (reportAon_eff _ _ _ _) rfl
        refine Eff.ofMk ?_ id id id id
        exact Eff.refl _ _
      · refine Eff.comp ?_ (coverFault_eff _ _ _) rfl
        refine Eff.comp ?_ (reportAon_eff _ _ _ _) rfl
        refine Eff.ofMk ?_ id id id id
        exact Eff.refl _ _
    · refine Eff.ite (fun _ => ?_) fun _ => ?_
      · refine Eff.comp ?_ (reportAon_eff _ _ _ _) rfl
        refine Eff.ofMk ?_ id id id id
        exact Eff.refl _ _
      · refine Eff.comp ?_ (coverFault_eff _ _ _) rfl
        refine Eff.comp ?_ (reportAon_eff _ _ _ _) rfl
        refine Eff.ofMk ?_ id id id id
        exact Eff.refl _ _
  · refine Eff.ite (fun _ => ?_) fun _ => ?_
    · refine Eff.comp ?_ (report_eff _ _ _ _) rfl
      refine Eff.set_cart ?_ rfl
      refine Eff.ite (fun _ => ?_) fun _ => ?_
      · refine Eff.comp ?_ (reportAon_eff _ _ _ _) rfl
        refine Eff.ofMk ?_ id id id id
        exact Eff.refl _ _
      · refine Eff.comp ?_ (coverFault_eff _ _ _) rfl
        refine Eff.comp ?_ (reportAon_eff _ _ _ _) rfl
        refine Eff.ofMk ?_ id id id id
        exact Eff.refl _ _
    · refine Eff.ite (fun _ => ?_) fun _ => ?_
      · refine Eff.comp ?_ (reportAon_eff _ _ _ _) rfl
        refine Eff.ofMk ?_ id id id id
        exact Eff.refl _ _
      · refine Eff.comp ?_ (coverFault_eff _ _ _) rfl
        refine Eff.comp ?_ (reportAon_eff _ _ _ _) rfl
        refine Eff.ofMk ?_ id id id id
        exact Eff.refl _ _

theorem execPackRetryExpired_eff (s : State) : ∃ t, execPackRetryExpired s = .next t ∧ Eff (touches .packRetryExpired) s t := by
  unfold execPackRetryExpired
  exact Eff.guarded (Eff.ite (fun _ => Eff.set_pack (Eff.refl _ _) rfl) fun _ => (packRetryEnds_eff _).mono rfl)

theorem execPackTFault_eff (s : State) : ∃ t, execPackTFault s = .next t ∧ Eff (touches .packTFault) s t := by
  unfold execPackTFault
  exact Eff.guarded (Eff.comp (Eff.comp (Eff.set_pack (Eff.refl _ _) rfl) (reportAon_eff _ _ _ _) rfl) (packLimit_eff _) rfl)

theorem execScheme3Frame_eff (idleUs : ℕ) (segs : List (Bool × ℕ)) (s : State) :
    ∃ t, execScheme3Frame idleUs segs s = .next t ∧ Eff (touches (.scheme3Frame idleUs segs)) s t := by
  unfold execScheme3Frame
  refine Eff.guarded ?_
  split
  · exact Eff.ite (fun _ => Eff.refl _ _) fun _ => Eff.set_beacon (Eff.refl _ _) rfl id
  · refine Eff.ite (fun _ => ?_) fun _ => ?_
    · dsimp only
      exact Eff.comp (Eff.set_pack (Eff.refl _ _) rfl) (packLimit_eff _) rfl
    · exact Eff.set_pack (Eff.refl _ _) rfl

theorem execPackS3WaitExpired_eff (s : State) :
    ∃ t, execPackS3WaitExpired s = .next t ∧ Eff (touches .packS3WaitExpired) s t := by
  unfold execPackS3WaitExpired
  exact Eff.guarded (Eff.comp (Eff.set_pack (Eff.refl _ _) rfl) (packLimit_eff _) rfl)

theorem execPackSilent_eff (s : State) : ∃ t, execPackSilent s = .next t ∧ Eff (touches .packSilent) s t := by
  unfold execPackSilent
  exact Eff.guarded (Eff.comp (Eff.comp (Eff.set_pack (Eff.refl _ _) rfl) (reportAon_eff _ _ _ _) rfl) (packLimit_eff _) rfl)

theorem execCartRemoved_eff (byDet : Bool) (s : State) :
    ∃ t, execCartRemoved byDet s = .next t ∧ Eff (touches (.cartRemoved byDet)) s t := by
  unfold execCartRemoved
  refine Eff.guarded ?_
  refine Eff.ite (fun _ => ?_) fun _ => ?_
  · refine Eff.comp ?_ (report_eff _ _ _ _) rfl
    refine Eff.set_cart ?_ rfl
    refine Eff.comp ?_ (coverFault_eff _ _ _) rfl
    refine Eff.comp ?_ (report_eff _ _ _ _) rfl
    dsimp only
    exact Eff.set_cart (Eff.comp ((darkAllChannels_eff _).mono rfl) (removeCart_eff _) rfl) rfl
  · refine Eff.comp ?_ (coverFault_eff _ _ _) rfl
    refine Eff.comp ?_ (report_eff _ _ _ _) rfl
    dsimp only
    exact Eff.set_cart (Eff.comp ((darkAllChannels_eff _).mono rfl) (removeCart_eff _) rfl) rfl

theorem execCartPresenceNoted_eff (s : State) :
    ∃ t, execCartPresenceNoted s = .next t ∧ Eff (touches .cartPresenceNoted) s t := by
  unfold execCartPresenceNoted
  exact Eff.guarded (Eff.ite (fun _ => Eff.set_cart (Eff.refl _ _) rfl) fun _ => Eff.comp (Eff.set_cart (Eff.refl _ _) rfl)
      (startRetry_eff _) rfl)

theorem execCartRetryExpired_eff (s : State) : ∃ t, execCartRetryExpired s = .next t ∧ Eff (touches .cartRetryExpired) s t := by
  unfold execCartRetryExpired
  exact Eff.guarded (Eff.ite (fun _ => Eff.set_cart (Eff.refl _ _) rfl) fun _ => (retryEnds_eff _).mono rfl)

theorem execPdCrossCheck_eff (p : Port) (r : CrossCheck) (s : State) :
    ∃ t, execPdCrossCheck p r s = .next t ∧ Eff (touches (.pdCrossCheck p r)) s t := by
  unfold execPdCrossCheck
  refine Eff.guarded ?_
  split
  · exact Eff.comp (Eff.set_cart (Eff.refl _ _) rfl) (updPort_eff _ _ _ (by exact fun _ => id)) rfl
  · exact Eff.ite (fun _ => Eff.comp (Eff.comp ((coastPort_eff _ _).mono rfl) (countMirrorFault_eff _ _) rfl) (takeover_eff _ _)
        rfl) fun _ => Eff.comp ((setStep_eff _ _).mono rfl) (failQual_eff _ _) rfl

theorem execKeeperHeartbeatSample_eff (beats : List ℕ) (cvsToggling : Bool) (s : State) :
    ∃ t, execKeeperHeartbeatSample beats cvsToggling s = .next t ∧ Eff (touches (.keeperHeartbeatSample beats cvsToggling)) s t
      := by
  unfold execKeeperHeartbeatSample
  exact Eff.guarded (Eff.foldl (fun _ _ => (sampleDomain_eff _ _ _ _).mono rfl) _ (Eff.refl _ _))

theorem execDomainRestart_eff (d : Domain) (s : State) :
    ∃ t, execDomainRestart d s = .next t ∧ Eff (touches (.domainRestart d)) s t := by
  unfold execDomainRestart
  exact Eff.guarded (Eff.comp ((updDomain_eff _ _ _).mono rfl) (restartEffect_eff _ _) rfl)

theorem execPllLockLost_eff (d : Domain) (s : State) :
    ∃ t, execPllLockLost d s = .next t ∧ Eff (touches (.pllLockLost d)) s t := by
  unfold execPllLockLost
  exact Eff.guarded ((resetDomain_eff _ _).mono rfl)

theorem execDriftWindowEnd_eff (refs : RefCycles) (ring : ℕ) (aon : ℕ) (s : State) :
    ∃ t, execDriftWindowEnd refs ring aon s = .next t ∧ Eff (touches (.driftWindowEnd refs ring aon)) s t := by
  unfold execDriftWindowEnd
  exact Eff.guarded (Eff.ite (fun _ => Eff.comp (Eff.comp (Eff.ite (fun _ => (judgeWindow_eff _ _).mono rfl) fun _ => Eff.refl _
      _) (updClocks_eff _ _) rfl) (report_eff _ _ _ _) rfl) fun _ => Eff.comp (Eff.ite (fun _ => (judgeWindow_eff _ _).mono rfl)
      fun _ => Eff.refl _ _) (updClocks_eff _ _) rfl)

theorem execRefLost_eff (s : State) : ∃ t, execRefLost s = .next t ∧ Eff (touches .refLost) s t := by
  unfold execRefLost
  exact Eff.guarded (Eff.ite (fun _ => Eff.comp (Eff.comp ((latchRef_eff _ _).mono rfl) (report_eff _ _ _ _) rfl) (switchRef_eff
      _ _) rfl) fun _ => Eff.ite (fun _ => Eff.comp (Eff.comp ((latchRef_eff _ _).mono rfl) (report_eff _ _ _ _) rfl)
      (switchRef_eff _ _) rfl) fun _ => Eff.comp (Eff.comp ((latchRef_eff _ _).mono rfl) (report_eff _ _ _ _) rfl)
      (updClocks_eff _ _) rfl)

theorem execRefReturn_eff (s : State) : ∃ t, execRefReturn s = .next t ∧ Eff (touches .refReturn) s t := by
  unfold execRefReturn
  split
  · exact ⟨_, rfl, Eff.refl _ _⟩
  · exact Eff.guarded (Eff.comp ((report_eff _ _ _ _).mono rfl) (switchRef_eff _ _) rfl)

theorem execVrefCheck_eff (other : ℤ) (bandgap : ℤ) (safeRef : ℤ) (s : State) :
    ∃ t, execVrefCheck other bandgap safeRef s = .next t ∧ Eff (touches (.vrefCheck other bandgap safeRef)) s t := by
  unfold execVrefCheck
  exact Eff.guarded (Eff.comp ((checkVref_eff _ _ _).mono rfl) (checkSafeRef_eff _ _) rfl)

theorem execFlashResetEnd_eff (s : State) : ∃ t, execFlashResetEnd s = .next t ∧ Eff (touches .flashResetEnd) s t := by
  unfold execFlashResetEnd
  exact Eff.guarded (Eff.set_mem (Eff.refl _ _) rfl)

theorem execBindingReadStart_eff (s : State) : ∃ t, execBindingReadStart s = .next t ∧ Eff (touches .bindingReadStart) s t := by
  unfold execBindingReadStart
  exact Eff.guarded (Eff.comp (Eff.set_mem (Eff.refl _ _) rfl) (beginSelection_eff _ _) rfl)

theorem execMemReadDone_eff (r : ReadResult) (s : State) :
    ∃ t, execMemReadDone r s = .next t ∧ Eff (touches (.memReadDone r)) s t := by
  unfold execMemReadDone
  exact Eff.guarded ((endRead_eff _ _).mono rfl)

theorem execDqsTimeout_eff (s : State) : ∃ t, execDqsTimeout s = .next t ∧ Eff (touches .dqsTimeout) s t := by
  unfold execDqsTimeout
  exact Eff.guarded ((failCurrentRead_eff _).mono rfl)

theorem execHoldRequest_eff (e : CutPulse) (s : State) :
    ∃ t, execHoldRequest e s = .next t ∧ Eff (touches (.holdRequest e)) s t := by
  unfold execHoldRequest
  exact Eff.guarded (Eff.ite (fun _ => Eff.ofMk ((pulse_eff _ _ _ _).mono rfl) id id id id) fun _ => (pulse_eff _ _ _ _).mono
      rfl)

theorem execHoldRelease_eff (s : State) : ∃ t, execHoldRelease s = .next t ∧ Eff (touches .holdRelease) s t := by
  unfold execHoldRelease
  refine Eff.guarded ?_
  refine Eff.ite (fun _ => ?_) fun _ => ?_
  · refine Eff.set_pins ?_ rfl id
    exact Eff.refl _ _
  · refine Eff.set_mem ?_ rfl
    refine Eff.set_pins ?_ rfl id
    exact Eff.refl _ _

theorem execStatusPoll_eff (wip : Option Bool) (s : State) :
    ∃ t, execStatusPoll wip s = .next t ∧ Eff (touches (.statusPoll wip)) s t := by
  unfold execStatusPoll
  exact Eff.guarded (Eff.ite (fun _ => Eff.comp (Eff.comp (Eff.set_mem ((issue_eff _ _).mono rfl) rfl) (resumeRead_eff _) rfl)
      (pumpReads_eff _) rfl) fun _ => (issue_eff _ _).mono rfl)

theorem execMemBusy_eff (s : State) : ∃ t, execMemBusy s = .next t ∧ Eff (touches .memBusy) s t := by
  unfold execMemBusy
  exact Eff.guarded (Eff.comp (Eff.set_mem (Eff.refl _ _) rfl) (report_eff _ _ _ _) rfl)

theorem execHoldLong_eff (s : State) : ∃ t, execHoldLong s = .next t ∧ Eff (touches .holdLong) s t := by
  unfold execHoldLong
  exact Eff.guarded (Eff.comp (Eff.set_mem (Eff.refl _ _) rfl) (report_eff _ _ _ _) rfl)

theorem execLampOnlyServiceStart_eff (s : State) :
    ∃ t, execLampOnlyServiceStart s = .next t ∧ Eff (touches .lampOnlyServiceStart) s t := by
  unfold execLampOnlyServiceStart
  refine Eff.guarded ?_
  refine Eff.comp ?_ (preloadRound_eff _) rfl
  refine Eff.ite (fun _ => ?_) fun _ => ?_
  · refine Eff.comp ?_ (selectEntry_eff _ _) rfl
    refine Eff.comp ?_ (startLamps_eff _) rfl
    refine Eff.set_core ?_ rfl id
    exact Eff.refl _ _
  · refine Eff.comp ?_ (startLamps_eff _) rfl
    refine Eff.set_core ?_ rfl id
    exact Eff.refl _ _

theorem execGatheringOpen_eff (lowNs : ℕ) (s : State) :
    ∃ t, execGatheringOpen lowNs s = .next t ∧ Eff (touches (.gatheringOpen lowNs)) s t := by
  unfold execGatheringOpen
  exact Eff.guarded (Eff.ite (fun _ => (pulse_eff _ _ _ _).mono rfl) fun _ => Eff.ite (fun _ => Eff.comp ((pulse_eff _ _ _
      _).mono rfl) (refuseOpen_eff _ _) rfl) fun _ => Eff.ite (fun _ => Eff.comp ((pulse_eff _ _ _ _).mono rfl) (refuseOpen_eff
      _ _) rfl) fun _ => Eff.ofMk ((pulse_eff _ _ _ _).mono rfl) id id id id)

theorem execGatheringCancel_eff (highNs : ℕ) (s : State) :
    ∃ t, execGatheringCancel highNs s = .next t ∧ Eff (touches (.gatheringCancel highNs)) s t := by
  unfold execGatheringCancel
  exact Eff.guarded (Eff.ite (fun _ => Eff.comp ((pulse_eff _ _ _ _).mono rfl) (closeGather_eff _ _ _) rfl) fun _ => (pulse_eff
      _ _ _ _).mono rfl)

theorem execGatheringTimeout_eff (s : State) : ∃ t, execGatheringTimeout s = .next t ∧ Eff (touches .gatheringTimeout) s t := by
  unfold execGatheringTimeout
  exact Eff.guarded ((closeGather_eff _ _ _).mono rfl)

theorem execStitchRequest_eff (highNs : ℕ) (s : State) :
    ∃ t, execStitchRequest highNs s = .next t ∧ Eff (touches (.stitchRequest highNs)) s t := by
  unfold execStitchRequest
  exact Eff.guarded (Eff.ite (fun _ => (pulse_eff _ _ _ _).mono rfl) fun _ => Eff.ite (fun _ => Eff.comp (Eff.set_gather
      ((pulse_eff _ _ _ _).mono rfl) rfl) (beginSelection_eff _ _) rfl) fun _ => Eff.set_beacon ((pulse_eff _ _ _ _).mono rfl)
      rfl id)

theorem execStitchValidated_eff (s : State) : ∃ t, execStitchValidated s = .next t ∧ Eff (touches .stitchValidated) s t := by
  unfold execStitchValidated
  exact Eff.guarded ((judgeStitch_eff _).mono rfl)

theorem execStitchDecodeDone_eff (s : State) : ∃ t, execStitchDecodeDone s = .next t ∧ Eff (touches .stitchDecodeDone) s t := by
  unfold execStitchDecodeDone
  exact Eff.guarded (Eff.ite (fun _ => (startRamp_eff _).mono rfl) fun _ => Eff.ite (fun _ => Eff.set_gather (Eff.refl _ _) rfl)
      fun _ => Eff.set_gather (Eff.refl _ _) rfl)

theorem execDecodeLimitExpired_eff (s : State) :
    ∃ t, execDecodeLimitExpired s = .next t ∧ Eff (touches .decodeLimitExpired) s t := by
  unfold execDecodeLimitExpired
  exact Eff.guarded ((rollback_eff _ _).mono rfl)

theorem execSItemConverged_eff (e : Convergence) (s : State) :
    ∃ t, execSItemConverged e s = .next t ∧ Eff (touches (.sItemConverged e)) s t := by
  unfold execSItemConverged
  exact Eff.guarded (Eff.comp (Eff.set_gather (Eff.refl _ _) rfl) (restoreProgress_eff _) rfl)

theorem execBridgeLimitExpired_eff (s : State) :
    ∃ t, execBridgeLimitExpired s = .next t ∧ Eff (touches .bridgeLimitExpired) s t := by
  unfold execBridgeLimitExpired
  exact Eff.guarded ((beginRestore_eff _ _).mono rfl)

theorem execRestoreRetry_eff (s : State) : ∃ t, execRestoreRetry s = .next t ∧ Eff (touches .restoreRetry) s t := by
  unfold execRestoreRetry
  exact Eff.guarded (Eff.ite (fun _ => Eff.set_gather (Eff.refl _ _) rfl) fun _ => (retryRestore_eff _).mono rfl)

theorem execAbort_eff (e : CutPulse) (s : State) : ∃ t, execAbort e s = .next t ∧ Eff (touches (.abort e)) s t := by
  unfold execAbort
  refine Eff.guarded ?_
  refine Eff.ite (fun _ => ?_) fun _ => ?_
  · refine Eff.comp ?_ (resumeRead_eff _) rfl
    refine Eff.comp ?_ (coverFault_eff _ _ _) rfl
    refine Eff.comp ?_ (rollback_eff _ _) rfl
    refine Eff.comp ?_ (abortFrame_eff _) rfl
    refine Eff.comp ?_ (discardCanvas_eff _ _) rfl
    refine Eff.comp ?_ (abortJobs_eff _) rfl
    refine Eff.comp ?_ (abortBursts_eff _) rfl
    refine Eff.set_mem ?_ rfl
    refine Eff.ofMk ?_ id id id id
    exact (pulse_eff _ _ _ _).mono rfl
  · exact (pulse_eff _ _ _ _).mono rfl

theorem execAbortComplete_eff (s : State) : ∃ t, execAbortComplete s = .next t ∧ Eff (touches .abortComplete) s t := by
  unfold execAbortComplete
  exact Eff.guarded (Eff.set_gather (Eff.refl _ _) rfl)

theorem execAbortRelease_eff (s : State) : ∃ t, execAbortRelease s = .next t ∧ Eff (touches .abortRelease) s t := by
  unfold execAbortRelease
  have h0 : Eff (touches .abortRelease) s { s with pins := { s.pins with abortLow := false } } :=
    Eff.set_pins (Eff.refl _ _) rfl id
  have h1 : ∀ t, Eff (touches .abortRelease) s t → Eff (touches .abortRelease) s
      (if t.cart.retryDue then startRetry { t with cart := { t.cart with retryDue := false } } else t) :=
    fun _ h => Eff.ite (fun _ => Eff.comp (Eff.set_cart h rfl) (startRetry_eff _) rfl) fun _ => h
  have h2 : ∀ t, Eff (touches .abortRelease) s t →
      Eff (touches .abortRelease) s (if t.cart.expiredDue then retryEnds t else t) :=
    fun _ h => Eff.ite (fun _ => Eff.comp h (retryEnds_eff _) rfl) fun _ => h
  have h3 : ∀ t, Eff (touches .abortRelease) s t →
      Eff (touches .abortRelease) s (if t.pack.expiredDue then packRetryEnds t else t) :=
    fun _ h => Eff.ite (fun _ => Eff.comp h (packRetryEnds_eff _) rfl) fun _ => h
  have h4 : ∀ t, Eff (touches .abortRelease) s t → Eff (touches .abortRelease) s
      (if t.gather.restoreDue then
        restoreProgress (requestRestore { t with gather := { t.gather with restoreDue := false } }) else t) :=
    fun _ h => Eff.ite (fun _ => Eff.comp (Eff.comp (Eff.set_gather h rfl) (requestRestore_eff _) rfl)
      (restoreProgress_eff _) rfl) fun _ => h
  have h5 : ∀ t, Eff (touches .abortRelease) s t →
      Eff (touches .abortRelease) s (if t.gather.retryDue then retryDueNow t else t) :=
    fun _ h => Eff.ite (fun _ => Eff.comp h (retryDueNow_eff _) rfl) fun _ => h
  have h6 : ∀ t, Eff (touches .abortRelease) s t →
      Eff (touches .abortRelease) s (if t.codec.preloadDue then preloadRound t else t) :=
    fun _ h => Eff.ite (fun _ => Eff.comp h (preloadRound_eff _) rfl) fun _ => h
  exact Eff.guarded (h6 _ (h5 _ (h4 _ (h3 _ (h2 _ (h1 _ h0))))))

theorem execLeafJobStart_eff (header : List Byte) (s : State) :
    ∃ t, execLeafJobStart header s = .next t ∧ Eff (touches (.leafJobStart header)) s t := by
  unfold execLeafJobStart
  split
  · exact ⟨_, rfl, Eff.refl _ _⟩
  · exact Eff.guarded (Eff.comp (Eff.comp (Eff.comp (Eff.set_codec (Eff.refl _ _) rfl) (issueReads_eff _ _) rfl) (startJob_eff _
        _ _) rfl) (promote_eff _) rfl)

theorem execLeafJobEnd_eff (data : List Byte) (trailer : List Byte) (readOk : Bool) (s : State) :
    ∃ t, execLeafJobEnd data trailer readOk s = .next t ∧ Eff (touches (.leafJobEnd data trailer readOk)) s t := by
  unfold execLeafJobEnd
  split
  · exact ⟨_, rfl, Eff.refl _ _⟩
  · refine Eff.guarded ?_
    refine Eff.ite (fun _ => ?_) fun _ => ?_
    · exact (readFails_eff _ _ _).mono rfl
    · split
      · exact (jobFails_eff _ _ _).mono rfl
      · exact (publish_eff _ _ _ _).mono rfl

theorem execCalibrationLoadDone_eff (block : List Byte) (trailer : List Byte) (readOk : Bool) (s : State) :
    ∃ t, execCalibrationLoadDone block trailer readOk s = .next t ∧ Eff (touches (.calibrationLoadDone block trailer readOk)) s
      t := by
  unfold execCalibrationLoadDone
  split
  · exact ⟨_, rfl, Eff.refl _ _⟩
  · exact Eff.guarded (Eff.ite (fun _ => (readFails_eff _ _ _).mono rfl) fun _ => Eff.ite (fun _ => (useCalibration_eff _ _
        _).mono rfl) fun _ => (jobFails_eff _ _ _).mono rfl)

theorem execCanvasJobEnd_eff (s : State) : ∃ t, execCanvasJobEnd s = .next t ∧ Eff (touches .canvasJobEnd) s t := by
  unfold execCanvasJobEnd
  split
  · exact ⟨_, rfl, Eff.refl _ _⟩
  · refine Eff.guarded ?_
    split
    · exact Eff.comp (Eff.comp (Eff.comp (Eff.set_codec (Eff.refl _ _) rfl) (reportX_eff _ _ _ _ _) rfl) (discardCanvas_eff _ _)
          rfl) (endedJob_eff _ _ _ _) rfl
    · exact Eff.ite (fun _ => (discardCanvas_eff _ _).mono rfl) fun _ => Eff.comp (Eff.set_canvas (Eff.refl _ _) rfl)
          (publishLive_eff _ _ _) rfl

theorem execPenFreed_eff (pen : ℕ) (s : State) : ∃ t, execPenFreed pen s = .next t ∧ Eff (touches (.penFreed pen)) s t := by
  unfold execPenFreed
  exact Eff.guarded ((freePen_eff _ _).mono rfl)

theorem execArbiterDecision_eff (target : ℕ) (levels : MatrixLevels) (reqs : List MatrixReq) (s : State) :
    ∃ t, execArbiterDecision target levels reqs s = .next t ∧ Eff (touches (.arbiterDecision target levels reqs)) s t := by
  unfold execArbiterDecision
  exact Eff.guarded (Eff.comp (Eff.comp ((completeBurst_eff _ _).mono rfl) (sampleLevels_eff _ _) rfl) (decideFor_eff _ _ _)
      rfl)

theorem execLockUnlock_eff (target : ℕ) (s : State) :
    ∃ t, execLockUnlock target s = .next t ∧ Eff (touches (.lockUnlock target)) s t := by
  unfold execLockUnlock
  split
  · exact ⟨_, rfl, Eff.refl _ _⟩
  · exact Eff.guarded (Eff.foldl (fun _ _ => (writeByte_eff _ _).mono rfl) _ (Eff.comp ((completeBurst_eff _ _).mono rfl)
        (endLock_eff _ _) rfl))

theorem execLockError_eff (target : ℕ) (breach : LockBreach) (master : ℕ) (lane : Lane) (s : State) :
    ∃ t, execLockError target breach master lane s = .next t ∧ Eff (touches (.lockError target breach master lane)) s t := by
  unfold execLockError
  split
  · exact Eff.guarded ((lockBreach_eff _ _ _).mono rfl)
  · exact Eff.guarded ((lockBreach_eff _ _ _).mono rfl)

theorem execPatternSelect_eff (psel : BitVec 6) (highNs : ℕ) (s : State) :
    ∃ t, execPatternSelect psel highNs s = .next t ∧ Eff (touches (.patternSelect psel highNs)) s t := by
  unfold execPatternSelect
  exact Eff.guarded (Eff.ite (fun _ => Eff.ite (fun _ => Eff.comp (Eff.comp ((pulse_eff _ _ _ _).mono rfl) (seeSelection_eff _
      _) rfl) (retryRestore_eff _) rfl) fun _ => Eff.comp ((pulse_eff _ _ _ _).mono rfl) (seeSelection_eff _ _) rfl) fun _ =>
      (pulse_eff _ _ _ _).mono rfl)

theorem execLatchPoint_eff (p : Port) (s : State) : ∃ t, execLatchPoint p s = .next t ∧ Eff (touches (.latchPoint p)) s t := by
  unfold execLatchPoint
  exact Eff.guarded ((latchSteps_eff _ _).mono rfl)

theorem execFrameBoundary_eff (p : Port) (s : State) :
    ∃ t, execFrameBoundary p s = .next t ∧ Eff (touches (.frameBoundary p)) s t := by
  unfold execFrameBoundary
  exact Eff.guarded (Eff.ite (fun _ => Eff.comp (Eff.comp ((passBoundary_eff _ _).mono rfl) (beginFrame_eff _ _) rfl)
      (closeGate_eff _ _) rfl) fun _ => Eff.comp (Eff.comp (Eff.comp (Eff.comp (Eff.comp (Eff.comp ((passBoundary_eff _ _).mono
      rfl) (boundarySys_eff _ _) rfl) (beginFrame_eff _ _) rfl) (dllReturns_eff _ _) rfl) (gateAtBoundary_eff _ _) rfl)
      (endPending_eff _) rfl) (restoreProgress_eff _) rfl)

theorem execRenderLine_eff (p : Port) (lag : Nat) (moves : List Nat) (missing : List (Layer × Nat)) (s : State) :
    ∃ t, execRenderLine p lag moves missing s = .next t ∧ Eff (touches (.renderLine p lag moves missing)) s t := by
  unfold execRenderLine
  refine Eff.guarded (Eff.ite (fun _ => ?_) fun _ => Eff.ite (fun _ => Eff.refl _ _) fun _ =>
    Eff.ite (fun _ => (skipLine_eff _ _).mono rfl) fun _ => (renderLine_eff _ _ _ _ _).mono rfl)
  exact (updWheel_eff _ _ _ fun w h => by rw [retest_gate] at h; exact h).mono rfl

theorem execComposeStaleLine_eff (p : Port) (s : State) :
    ∃ t, execComposeStaleLine p s = .next t ∧ Eff (touches (.composeStaleLine p)) s t := by
  unfold execComposeStaleLine
  exact Eff.guarded (Eff.ite (fun _ => Eff.comp (Eff.comp (Eff.comp ((updWheel_eff _ _ _ (by exact fun _ => id)).mono rfl)
      (report_eff _ _ _ _) rfl) (updWheel_eff _ _ _ (by exact fun _ => id)) rfl) (resetDomain_eff _ _) rfl) fun _ => Eff.comp
      ((updWheel_eff _ _ _ (by exact fun _ => id)).mono rfl) (report_eff _ _ _ _) rfl)

theorem execWheelLate_eff (p : Port) (s : State) : ∃ t, execWheelLate p s = .next t ∧ Eff (touches (.wheelLate p)) s t := by
  unfold execWheelLate
  exact Eff.guarded (Eff.ite (fun _ => Eff.comp (Eff.comp (Eff.comp ((updWheel_eff _ _ _ (by exact fun _ => id)).mono rfl)
      (report_eff _ _ _ _) rfl) (updWheel_eff _ _ _ (by exact fun _ => id)) rfl) (closeGate_eff _ _) rfl) fun _ => Eff.comp
      ((updWheel_eff _ _ _ (by exact fun _ => id)).mono rfl) (report_eff _ _ _ _) rfl)

theorem execRingCleared_eff (p : Port) (s : State) :
    ∃ t, execRingCleared p s = .next t ∧ Eff (touches (.ringCleared p)) s t := by
  unfold execRingCleared
  exact Eff.guarded (Eff.ite (fun _ => Eff.comp ((updWheel_eff _ _ _ (by exact fun _ => id)).mono rfl) (startRaster_eff _ _)
      rfl) fun _ => (updWheel_eff _ _ _ (by exact fun _ => id)).mono rfl)

theorem execTimelineValid_eff (p : Port) (s : State) :
    ∃ t, execTimelineValid p s = .next t ∧ Eff (touches (.timelineValid p)) s t := by
  unfold execTimelineValid
  exact Eff.guarded ((updWheel_eff _ _ _ (by exact fun _ => id)).mono rfl)

theorem execDllLockLost_eff (channel : Option ℕ) (s : State) :
    ∃ t, execDllLockLost channel s = .next t ∧ Eff (touches (.dllLockLost channel)) s t := by
  unfold execDllLockLost
  refine Eff.guarded ?_
  split
  · refine Eff.comp ?_ (report_eff _ _ _ _) rfl
    refine Eff.set_emit ?_ rfl id
    exact Eff.refl _ _
  · refine Eff.comp ?_ (report_eff _ _ _ _) rfl
    refine Eff.set_emit ?_ rfl id
    exact Eff.refl _ _

theorem cvsReceive_eff (periods : List CvsPeriod) (s : State) :
    Eff (touches (.canvasFrame periods)) s (cvsReceive periods s) := by
  unfold cvsReceive
  exact Eff.ite (fun _ => Eff.refl _ _) fun _ => Eff.foldl (fun _ _ => (cvsPeriod_eff _ _).mono rfl) _ (Eff.refl _ _)

theorem execCanvasFrame_eff (periods : List CvsPeriod) (s : State) :
    ∃ t, execCanvasFrame periods s = .next t ∧ Eff (touches (.canvasFrame periods)) s t := by
  unfold execCanvasFrame
  exact Eff.guarded (cvsReceive_eff _ _)

theorem cvsStall_eff (s : State) : Eff [.pens, .canvas, .beacon] s (cvsStall s) := by
  unfold cvsStall
  split
  · exact Eff.refl _ _
  · exact Eff.comp (Eff.set_canvas (Eff.refl _ _) rfl) (cvsDiscard_eff _ _ _ _) rfl

theorem execCanvasFrameStalled_eff (periods : List CvsPeriod) (s : State) :
    ∃ t, execCanvasFrameStalled periods s = .next t ∧ Eff (touches (.canvasFrameStalled periods)) s t := by
  unfold execCanvasFrameStalled
  exact Eff.guarded (Eff.comp (cvsReceive_eff periods _) (cvsStall_eff _) rfl)

theorem execLiveStale_eff (p : Port) (s : State) : ∃ t, execLiveStale p s = .next t ∧ Eff (touches (.liveStale p)) s t := by
  unfold execLiveStale
  exact Eff.guarded (Eff.comp ((updPort_eff _ _ _ (by exact fun _ => id)).mono rfl) (report_eff _ _ _ _) rfl)

theorem execMirrorStart_eff (p : Port) (s : State) :
    ∃ t, execMirrorStart p s = .next t ∧ Eff (touches (.mirrorStart p)) s t := by
  unfold execMirrorStart
  exact Eff.guarded ((beginStart_eff _ _).mono rfl)

theorem execMirrorCheckDone_eff (p : Port) (commonMv : List ℕ) (s : State) :
    ∃ t, execMirrorCheckDone p commonMv s = .next t ∧ Eff (touches (.mirrorCheckDone p commonMv)) s t := by
  unfold execMirrorCheckDone
  exact Eff.guarded (Eff.ite (fun _ => (beginKick_eff _ _ _).mono rfl) fun _ => (startFails_eff _ _ _).mono rfl)

theorem execKickEnd_eff (p : Port) (s : State) : ∃ t, execKickEnd p s = .next t ∧ Eff (touches (.kickEnd p)) s t := by
  unfold execKickEnd
  exact Eff.guarded ((updPort_eff _ _ _ (by exact fun _ => id)).mono rfl)

theorem execRingDone_eff (p : Port) (milliHz : ℕ) (counts : ℕ) (s : State) :
    ∃ t, execRingDone p milliHz counts s = .next t ∧ Eff (touches (.ringDone p milliHz counts)) s t := by
  unfold execRingDone
  exact Eff.guarded (Eff.ite (fun _ => (beginCapture_eff _ _ _ _).mono rfl) fun _ => Eff.ite (fun _ => (beginKick_eff _ _
      _).mono rfl) fun _ => (startFails_eff _ _ _).mono rfl)

theorem execPortLocked_eff (e : PortLock) (s : State) :
    ∃ t, execPortLocked e s = .next t ∧ Eff (touches (.portLocked e)) s t := by
  unfold execPortLocked
  exact Eff.guarded (Eff.ite (fun _ => Eff.ite (fun _ => Eff.comp ((updPort_eff _ _ _ (by exact fun _ => id)).mono rfl)
      (setStep_eff _ _) rfl) fun _ => (updPort_eff _ _ _ (by exact fun _ => id)).mono rfl) fun _ => Eff.comp (Eff.ite (fun _ =>
      Eff.comp ((updPort_eff _ _ _ (by exact fun _ => id)).mono rfl) (setStep_eff _ _) rfl) fun _ => (updPort_eff _ _ _ (by
      exact fun _ => id)).mono rfl) (startRaster_eff _ _) rfl)

theorem execMirrorStartTimeout_eff (p : Port) (s : State) :
    ∃ t, execMirrorStartTimeout p s = .next t ∧ Eff (touches (.mirrorStartTimeout p)) s t := by
  unfold execMirrorStartTimeout
  exact Eff.guarded ((startFails_eff _ _ _).mono rfl)

theorem execMirrorFault_eff (p : Port) (f : MirrorFault) (s : State) :
    ∃ t, execMirrorFault p f s = .next t ∧ Eff (touches (.mirrorFault p f)) s t := by
  unfold execMirrorFault
  exact Eff.guarded (Eff.ite (fun _ => Eff.comp (Eff.ite (fun _ => Eff.comp ((report_eff _ _ _ _).mono rfl) (startFails_eff _ _
      _) rfl) fun _ => Eff.comp ((report_eff _ _ _ _).mono rfl) (portFault_eff _ _ _) rfl) (updPort_eff _ _ _ (by exact fun _ =>
      id)) rfl) fun _ => Eff.ite (fun _ => Eff.comp ((report_eff _ _ _ _).mono rfl) (startFails_eff _ _ _) rfl) fun _ =>
      Eff.comp ((report_eff _ _ _ _).mono rfl) (portFault_eff _ _ _) rfl)

theorem execPortRestart_eff (p : Port) (s : State) :
    ∃ t, execPortRestart p s = .next t ∧ Eff (touches (.portRestart p)) s t := by
  unfold execPortRestart
  exact Eff.guarded (Eff.comp ((beginStart_eff _ _).mono rfl) (updPort_eff _ _ _ (by intro q h; repeat' (split at h); all_goals
      exact h)) rfl)

theorem execScheduleFrame_eff (i : FrameInputs) (s : State) :
    ∃ t, execScheduleFrame i s = .next t ∧ Eff (touches (.scheduleFrame i)) s t := by
  unfold execScheduleFrame
  refine Eff.guarded ?_
  refine Eff.set_engine ?_ rfl
  refine Eff.comp ?_ (lanesLost_eff _ _) rfl
  refine Eff.ite (fun _ => ?_) fun _ => ?_
  · refine Eff.comp ?_ (latchFrame_eff _ _) rfl
    refine Eff.comp ?_ (delayFrame_eff _ _ _) rfl
    refine Eff.comp ?_ (spreadFrame_eff _) rfl
    refine Eff.comp ?_ (passCoil_eff _) rfl
    exact (passRecovery_eff _).mono rfl
  · refine Eff.ite (fun _ => ?_) fun _ => ?_
    · refine Eff.comp ?_ (frameBoth_eff _ _) rfl
      refine Eff.comp ?_ (latchFrame_eff _ _) rfl
      refine Eff.comp ?_ (delayFrame_eff _ _ _) rfl
      refine Eff.comp ?_ (spreadFrame_eff _) rfl
      refine Eff.comp ?_ (passCoil_eff _) rfl
      exact (passRecovery_eff _).mono rfl
    · refine Eff.comp ?_ (frameAlone_eff _ _) rfl
      refine Eff.comp ?_ (latchFrame_eff _ _) rfl
      refine Eff.comp ?_ (delayFrame_eff _ _ _) rfl
      refine Eff.comp ?_ (spreadFrame_eff _) rfl
      refine Eff.comp ?_ (passCoil_eff _) rfl
      exact (passRecovery_eff _).mono rfl

theorem execManualChange_eff (low : Bool) (s : State) :
    ∃ t, execManualChange low s = .next t ∧ Eff (touches (.manualChange low)) s t := by
  unfold execManualChange
  exact ⟨_, rfl, Eff.set_pins (Eff.refl _ _) rfl id⟩

theorem execEncoderEdge_eff (a : Bool) (b : Bool) (s : State) :
    ∃ t, execEncoderEdge a b s = .next t ∧ Eff (touches (.encoderEdge a b)) s t := by
  unfold execEncoderEdge
  refine ⟨_, rfl, ?_⟩
  refine Eff.ite (fun _ => ?_) fun _ => ?_
  · refine Eff.set_pins ?_ rfl id
    exact Eff.refl _ _
  · refine Eff.ite (fun _ => ?_) fun _ => ?_
    · refine Eff.set_engine ?_ rfl
      refine Eff.set_pins ?_ rfl id
      exact Eff.refl _ _
    · refine Eff.set_engine ?_ rfl
      refine Eff.set_pins ?_ rfl id
      exact Eff.refl _ _

theorem execEncZIndex_eff (s : State) : ∃ t, execEncZIndex s = .next t ∧ Eff (touches .encZIndex) s t := by
  unfold execEncZIndex
  exact Eff.guarded (Eff.set_engine (Eff.refl _ _) rfl)

theorem execBrightEdge_eff (rising : Bool) (ticks : ℕ) (s : State) :
    ∃ t, execBrightEdge rising ticks s = .next t ∧ Eff (touches (.brightEdge rising ticks)) s t := by
  unfold execBrightEdge
  exact Eff.guarded (Eff.set_bright (Eff.refl _ _) rfl)

theorem execBrightAnalogueTimeout_eff (s : State) :
    ∃ t, execBrightAnalogueTimeout s = .next t ∧ Eff (touches .brightAnalogueTimeout) s t := by
  unfold execBrightAnalogueTimeout
  exact Eff.guarded (Eff.set_bright (Eff.refl _ _) rfl)

theorem execPdWindowEnd_eff (samples : List PdSample) (runs : List SinkRun) (s : State) :
    ∃ t, execPdWindowEnd samples runs s = .next t ∧ Eff (touches (.pdWindowEnd samples runs)) s t := by
  unfold execPdWindowEnd
  exact Eff.guarded (Eff.comp ((windowChannels_eff _ _ _).mono rfl) (windowBlind_eff _ _) rfl)

theorem execPdMeasurementAged_eff (channel : ℕ) (s : State) :
    ∃ t, execPdMeasurementAged channel s = .next t ∧ Eff (touches (.pdMeasurementAged channel)) s t := by
  unfold execPdMeasurementAged
  exact Eff.guarded ((updLaser_eff _ _ _ (by exact fun _ => id)).mono rfl)

theorem execRowFrameStart_eff (codesReady : Bool) (s : State) :
    ∃ t, execRowFrameStart codesReady s = .next t ∧ Eff (touches (.rowFrameStart codesReady)) s t := by
  unfold execRowFrameStart
  refine Eff.guarded ?_
  refine Eff.ite (fun _ => ?_) fun _ => ?_
  · refine Eff.ite (fun _ => ?_) fun _ => ?_
    · refine Eff.comp ?_ (computeCodes_eff _) rfl
      refine Eff.comp ?_ (takeScales_eff _) rfl
      refine Eff.comp ?_ (takeMask_eff _) rfl
      refine Eff.comp ?_ (passRowFrame_eff _) rfl
      refine Eff.comp ?_ (takeLampFields_eff _) rfl
      refine Eff.comp ?_ (lampHeadroomEvent_eff _) rfl
      exact (turnFrame_eff _).mono rfl
    · refine Eff.comp ?_ (report_eff _ _ _ _) rfl
      refine Eff.comp ?_ (updLamps_eff _ _) rfl
      refine Eff.comp ?_ (lampHeadroomEvent_eff _) rfl
      exact (turnFrame_eff _).mono rfl
  · refine Eff.comp ?_ (stitchAtTick_eff _) rfl
    refine Eff.comp ?_ (restoreProgress_eff _) rfl
    refine Eff.ite (fun _ => ?_) fun _ => ?_
    · refine Eff.comp ?_ (computeCodes_eff _) rfl
      refine Eff.comp ?_ (takeScales_eff _) rfl
      refine Eff.comp ?_ (takeMask_eff _) rfl
      refine Eff.comp ?_ (passRowFrame_eff _) rfl
      refine Eff.comp ?_ (takeLampFields_eff _) rfl
      refine Eff.comp ?_ (lampHeadroomEvent_eff _) rfl
      exact (turnFrame_eff _).mono rfl
    · refine Eff.comp ?_ (report_eff _ _ _ _) rfl
      refine Eff.comp ?_ (updLamps_eff _ _) rfl
      refine Eff.comp ?_ (lampHeadroomEvent_eff _) rfl
      exact (turnFrame_eff _).mono rfl

theorem execProbeSlotEnd_eff (row : ℕ) (vlampMv : ℕ) (sinkMv : List ℕ) (track : List (ℕ × Bool)) (s : State) :
    ∃ t, execProbeSlotEnd row vlampMv sinkMv track s = .next t ∧ Eff (touches (.probeSlotEnd row vlampMv sinkMv track)) s t :=
      by
  unfold execProbeSlotEnd
  exact Eff.guarded (Eff.ite (fun _ => Eff.comp ((updLamps_eff _ _).mono rfl) (trackSinks_eff _ _) rfl) fun _ => Eff.comp
      (Eff.comp ((updLamps_eff _ _).mono rfl) (trackSinks_eff _ _) rfl) (probeRow_eff _ _ _ _) rfl)

theorem execSinkHot_eff (sink : ℕ) (s : State) : ∃ t, execSinkHot sink s = .next t ∧ Eff (touches (.sinkHot sink)) s t := by
  unfold execSinkHot
  exact Eff.guarded (Eff.comp ((updLamps_eff _ _).mono rfl) (report_eff _ _ _ _) rfl)

theorem execYardTick_eff (trig : Bool) (s : State) :
    ∃ t, execYardTick trig s = .next t ∧ Eff (touches (.yardTick trig)) s t := by
  unfold execYardTick
  exact Eff.guarded (Eff.ite (fun _ => Eff.comp (Eff.comp (Eff.ite (fun _ => Eff.comp ((countTick_eff _ _).mono rfl)
      (allocateTick_eff _) rfl) fun _ => (countTick_eff _ _).mono rfl) (tickTimer_eff _ _) rfl) (tickGather_eff _) rfl) fun _ =>
      Eff.comp (Eff.ite (fun _ => Eff.comp ((countTick_eff _ _).mono rfl) (allocateTick_eff _) rfl) fun _ => (countTick_eff _
      _).mono rfl) (tickTimer_eff _ _) rfl)

theorem execKillAssert_eff (s : State) : ∃ t, execKillAssert s = .next t ∧ Eff (touches .killAssert) s t := by
  unfold execKillAssert
  have h := fun x y z => putOut_eff (l := touches .killAssert) (s := s) (t := { s with pins := x, safety := y, lamp := z })
    (fun p hp => by cases p <;> first | rfl | (simp [touches] at hp)) rfl id id id
  exact Eff.guarded (Eff.ite (fun _ => Eff.comp (h _ _ _) (report_eff _ _ _ _) rfl) fun _ => h _ _ _)

theorem execKillRelease_eff (heldMs : ℕ) (s : State) :
    ∃ t, execKillRelease heldMs s = .next t ∧ Eff (touches (.killRelease heldMs)) s t := by
  unfold execKillRelease
  exact Eff.guarded (Eff.ite (fun _ => Eff.comp (Eff.ite (fun _ => Eff.comp (Eff.set_pins (Eff.refl _ _) rfl (darkSafe_pins
      rfl)) (clearLatch_eff _) rfl) fun _ => Eff.set_pins (Eff.refl _ _) rfl (darkSafe_pins rfl)) (report_eff _ _ _ _) rfl) fun
      _ => Eff.ite (fun _ => Eff.comp (Eff.set_pins (Eff.refl _ _) rfl (darkSafe_pins rfl)) (clearLatch_eff _) rfl) fun _ =>
      Eff.set_pins (Eff.refl _ _) rfl (darkSafe_pins rfl))

theorem execSafetyTrip_eff (cause : TripCause) (e : TripSight) (s : State) :
    ∃ t, execSafetyTrip cause e s = .next t ∧ Eff (touches (.safetyTrip cause e)) s t := by
  unfold execSafetyTrip
  exact Eff.guarded ((trip_eff _ _ _).mono rfl)

theorem execScrubTick_eff (r : ScrubResult) (s : State) :
    ∃ t, execScrubTick r s = .next t ∧ Eff (touches (.scrubTick r)) s t := by
  unfold execScrubTick
  exact Eff.guarded (Eff.ite (fun _ => Eff.comp (Eff.foldl (fun _ _ => (uncorrectable_eff _ _).mono rfl) _ (Eff.foldl (fun _ _
      => (correctWord_eff _ _).mono rfl) _ (Eff.comp (Eff.comp (Eff.comp ((writeBackAll_eff _).mono rfl) (askBadPens_eff _) rfl)
      (scrubLate_eff _) rfl) (advanceWalk_eff _) rfl))) (askBadPens_eff _) rfl) fun _ => Eff.comp (Eff.comp (Eff.comp
      ((writeBackAll_eff _).mono rfl) (askBadPens_eff _) rfl) (scrubLate_eff _) rfl) (updIntegrity_eff _ _) rfl)

theorem execScrubWithdrawn_eff (s : State) : ∃ t, execScrubWithdrawn s = .next t ∧ Eff (touches .scrubWithdrawn) s t := by
  unfold execScrubWithdrawn
  exact Eff.guarded (Eff.set_matrix ((updIntegrity_eff _ _).mono rfl) rfl id)

theorem execBeaconRecordTrigger_eff (frame : Bool) (s : State) :
    ∃ t, execBeaconRecordTrigger frame s = .next t ∧ Eff (touches (.beaconRecordTrigger frame)) s t := by
  unfold execBeaconRecordTrigger
  refine Eff.guarded ?_
  refine Eff.ite (fun _ => ?_) fun _ => ?_
  · refine Eff.set_beacon ?_ rfl id
    refine Eff.ite (fun _ => ?_) fun _ => ?_
    · exact Eff.refl _ _
    · refine Eff.set_beacon ?_ rfl id
      exact Eff.refl _ _
  · refine Eff.comp ?_ (capture_eff _ _) rfl
    refine Eff.ite (fun _ => ?_) fun _ => ?_
    · exact Eff.refl _ _
    · refine Eff.set_beacon ?_ rfl id
      exact Eff.refl _ _

theorem execBeaconRecordSent_eff (s : State) : ∃ t, execBeaconRecordSent s = .next t ∧ Eff (touches .beaconRecordSent) s t := by
  unfold execBeaconRecordSent
  refine Eff.guarded ?_
  split
  · refine Eff.comp ?_ (capture_eff _ _) rfl
    refine Eff.set_beacon ?_ rfl id
    exact Eff.refl _ _
  · refine Eff.set_beacon ?_ rfl id
    exact Eff.refl _ _

theorem execFaultPulseEnd_eff (s : State) : ∃ t, execFaultPulseEnd s = .next t ∧ Eff (touches .faultPulseEnd) s t := by
  unfold execFaultPulseEnd
  exact Eff.guarded (Eff.set_beacon (Eff.refl _ _) rfl id)

theorem execJtagBypass_eff (tdi : Bool) (s : State) :
    ∃ t, execJtagBypass tdi s = .next t ∧ Eff (touches (.jtagBypass tdi)) s t := by
  unfold execJtagBypass
  exact Eff.guarded (Eff.set_jtag (Eff.refl _ _) rfl (darkSafe_jtag nofun))

theorem execJtagIdcode_eff (s : State) : ∃ t, execJtagIdcode s = .next t ∧ Eff (touches .jtagIdcode) s t := by
  unfold execJtagIdcode
  exact Eff.guarded (Eff.set_jtag (Eff.refl _ _) rfl (darkSafe_jtag nofun))

theorem execJtagSamplePreload_eff (cells : List (ℕ × Bool)) (s : State) :
    ∃ t, execJtagSamplePreload cells s = .next t ∧ Eff (touches (.jtagSamplePreload cells)) s t := by
  unfold execJtagSamplePreload
  exact Eff.guarded (Eff.ofMk (Eff.refl _ _) id id id (darkSafe_jtag nofun))

theorem execJtagExtest_eff (s : State) : ∃ t, execJtagExtest s = .next t ∧ Eff (touches .jtagExtest) s t := by
  unfold execJtagExtest
  refine Eff.guarded (Eff.set_lamp ?_ rfl)
  exact putOut_eff (fun p hp => by cases p <;> first | rfl | (simp [touches] at hp)) rfl id id id

theorem ringEvent_gate (f : BitVec 32) (flips : List (Nat × Nat)) (c : Nat) (w : Wheel) :
    (ringEvent f flips c w).2.gate = w.gate := by
  unfold ringEvent
  dsimp only
  split
  · rfl
  · split
    · rfl
    · split <;> rfl

theorem mergeLate_gate (c : Nat) (ev : Option (Nat × Nat)) (w : Wheel) : (mergeLate c ev w).2.gate = w.gate := by
  unfold mergeLate
  split <;> rfl

theorem fetchChannel_gate (f : BitVec 32) (flips : List (Nat × Nat)) (a : List (Nat × Nat × Nat) × Wheel) (c : Nat) :
    (fetchChannel f flips a c).2.gate = a.2.gate := by
  unfold fetchChannel
  dsimp only
  split <;> exact (mergeLate_gate _ _ _).trans (ringEvent_gate _ _ _ _)

/-- Fetching a stall moves no gate. -/
theorem fetch_gate (f : BitVec 32) (flips : List (Nat × Nat)) (cs : List Nat) : ∀ a : List (Nat × Nat × Nat) × Wheel,
    (cs.foldl (fetchChannel f flips) a).2.gate = a.2.gate := by
  induction cs with
  | nil => exact fun _ => rfl
  | cons c cs ih => exact fun a => (ih _).trans (fetchChannel_gate f flips a c)

theorem endLine_gate (pos : BitVec 32) (w : Wheel) : (endLine pos w).gate = w.gate := by
  unfold endLine
  split <;> rfl

theorem takeAnchor_gate (pos : BitVec 32) (n : Nat) (w : Wheel) : (takeAnchor pos n w).gate = w.gate := by
  unfold takeAnchor
  split <;> rfl

theorem execStallFetch_eff (p : Port) (e : StallSight) (s : State) :
    ∃ t, execStallFetch p e s = .next t ∧ Eff (touches (.stallFetch p e)) s t := by
  unfold execStallFetch
  dsimp only
  refine Eff.guarded (Eff.comp (Eff.comp (Eff.comp (Eff.comp ((updWheel_eff _ _ _ ?_).mono rfl)
    (updWheel_at _ _ _ ?_) rfl) (queueEvents_eff _ _ _ _) rfl) (fireDue_eff _ _ _) rfl) (monitor_eff _ _ _) rfl)
  · intro w h
    rw [retest_gate] at h
    split at h
    · rw [endLine_gate] at h
      exact h
    · rw [takeAnchor_gate, endLine_gate] at h
      exact h
  · intro h
    rw [fetch_gate] at h
    exact h

theorem execVddioHThresholdCrossed_eff (above : Bool) (s : State) :
    ∃ t, execVddioHThresholdCrossed above s = .next t ∧ Eff (touches (.vddioHThresholdCrossed above)) s t := by
  unfold execVddioHThresholdCrossed
  exact ⟨_, rfl, Eff.set_supply (Eff.refl _ _) rfl⟩

end Sys2Proof.Laws
end

