-- ==== Sys2Proof/Laws/State.lean ====
section
/-! SUPPORT. The fields of the state under each of the named updates: one lemma per field and update, so that a proof never unfolds
a record update. -/

namespace Sys2Proof.Laws

open Sys2Proof Machine

/-! Conditions. -/

@[simp] theorem when_true (s t : State) : when true s t = t := rfl

@[simp] theorem when_false (s t : State) : when false s t = s := rfl

/-- A command whose condition holds. -/
theorem guarded_of {c : Bool} (h : c = true) (s t : State) : guarded c s t = .next t := by
  subst h
  rfl

/-- A command whose condition does not hold has no effect. -/
theorem guarded_not {c : Bool} (h : c = false) (s t : State) : guarded c s t = .next s := by
  subst h
  rfl

/-! Ports. -/

@[simp] theorem portOf_updPort (s : State) (p : Port) (f : PortState → PortState) : portOf (updPort s p f) p = f (portOf s p) := by
  cases p <;> rfl

theorem portOf_updPort_other (s : State) {p q : Port} (h : q ≠ p) (f : PortState → PortState) : portOf (updPort s p f) q = portOf s q := by
  cases p <;> cases q <;> first | rfl | exact absurd rfl h

@[simp] theorem portOf_updWheel (s : State) (p : Port) (f : Wheel → Wheel) :
    portOf (updWheel s p f) p = { portOf s p with wheel := f (portOf s p).wheel } := by
  cases p <;> rfl

/-! `updPort`. -/

@[simp] theorem updPort_fuses (s : State) (p : Port) (f : PortState → PortState) : (updPort s p f).fuses = s.fuses := by cases p <;> rfl

@[simp] theorem updPort_supply (s : State) (p : Port) (f : PortState → PortState) : (updPort s p f).supply = s.supply := by cases p <;> rfl

@[simp] theorem updPort_pins (s : State) (p : Port) (f : PortState → PortState) : (updPort s p f).pins = s.pins := by cases p <;> rfl

@[simp] theorem updPort_aon (s : State) (p : Port) (f : PortState → PortState) : (updPort s p f).aon = s.aon := by cases p <;> rfl

@[simp] theorem updPort_pack (s : State) (p : Port) (f : PortState → PortState) : (updPort s p f).pack = s.pack := by cases p <;> rfl

@[simp] theorem updPort_safety (s : State) (p : Port) (f : PortState → PortState) : (updPort s p f).safety = s.safety := by cases p <;> rfl

@[simp] theorem updPort_jtag (s : State) (p : Port) (f : PortState → PortState) : (updPort s p f).jtag = s.jtag := by cases p <;> rfl

@[simp] theorem updPort_core (s : State) (p : Port) (f : PortState → PortState) : (updPort s p f).core = s.core := by cases p <;> rfl

@[simp] theorem updPort_cart (s : State) (p : Port) (f : PortState → PortState) : (updPort s p f).cart = s.cart := by cases p <;> rfl

@[simp] theorem updPort_keeper (s : State) (p : Port) (f : PortState → PortState) : (updPort s p f).keeper = s.keeper := by cases p <;> rfl

@[simp] theorem updPort_clocks (s : State) (p : Port) (f : PortState → PortState) : (updPort s p f).clocks = s.clocks := by cases p <;> rfl

@[simp] theorem updPort_mem (s : State) (p : Port) (f : PortState → PortState) : (updPort s p f).mem = s.mem := by cases p <;> rfl

@[simp] theorem updPort_binding (s : State) (p : Port) (f : PortState → PortState) : (updPort s p f).binding = s.binding := by cases p <;> rfl

@[simp] theorem updPort_gather (s : State) (p : Port) (f : PortState → PortState) : (updPort s p f).gather = s.gather := by cases p <;> rfl

@[simp] theorem updPort_codec (s : State) (p : Port) (f : PortState → PortState) : (updPort s p f).codec = s.codec := by cases p <;> rfl

@[simp] theorem updPort_pens (s : State) (p : Port) (f : PortState → PortState) : (updPort s p f).pens = s.pens := by cases p <;> rfl

@[simp] theorem updPort_matrix (s : State) (p : Port) (f : PortState → PortState) : (updPort s p f).matrix = s.matrix := by cases p <;> rfl

@[simp] theorem updPort_select (s : State) (p : Port) (f : PortState → PortState) : (updPort s p f).select = s.select := by cases p <;> rfl

@[simp] theorem updPort_canvas (s : State) (p : Port) (f : PortState → PortState) : (updPort s p f).canvas = s.canvas := by cases p <;> rfl

@[simp] theorem updPort_engine (s : State) (p : Port) (f : PortState → PortState) : (updPort s p f).engine = s.engine := by cases p <;> rfl

@[simp] theorem updPort_bright (s : State) (p : Port) (f : PortState → PortState) : (updPort s p f).bright = s.bright := by cases p <;> rfl

@[simp] theorem updPort_emit (s : State) (p : Port) (f : PortState → PortState) : (updPort s p f).emit = s.emit := by cases p <;> rfl

@[simp] theorem updPort_lamp (s : State) (p : Port) (f : PortState → PortState) : (updPort s p f).lamp = s.lamp := by cases p <;> rfl

@[simp] theorem updPort_yard (s : State) (p : Port) (f : PortState → PortState) : (updPort s p f).yard = s.yard := by cases p <;> rfl

@[simp] theorem updPort_integrity (s : State) (p : Port) (f : PortState → PortState) : (updPort s p f).integrity = s.integrity := by cases p <;> rfl

@[simp] theorem updPort_beacon (s : State) (p : Port) (f : PortState → PortState) : (updPort s p f).beacon = s.beacon := by cases p <;> rfl

@[simp] theorem updPort_free (s : State) (p : Port) (f : PortState → PortState) : (updPort s p f).free = s.free := by cases p <;> rfl

@[simp] theorem updPort_pending (s : State) (p : Port) (f : PortState → PortState) : (updPort s p f).pending = s.pending := by cases p <;> rfl

/-! `updWheel`. -/

@[simp] theorem updWheel_fuses (s : State) (p : Port) (f : Wheel → Wheel) : (updWheel s p f).fuses = s.fuses := by cases p <;> rfl

@[simp] theorem updWheel_supply (s : State) (p : Port) (f : Wheel → Wheel) : (updWheel s p f).supply = s.supply := by cases p <;> rfl

@[simp] theorem updWheel_pins (s : State) (p : Port) (f : Wheel → Wheel) : (updWheel s p f).pins = s.pins := by cases p <;> rfl

@[simp] theorem updWheel_aon (s : State) (p : Port) (f : Wheel → Wheel) : (updWheel s p f).aon = s.aon := by cases p <;> rfl

@[simp] theorem updWheel_pack (s : State) (p : Port) (f : Wheel → Wheel) : (updWheel s p f).pack = s.pack := by cases p <;> rfl

@[simp] theorem updWheel_safety (s : State) (p : Port) (f : Wheel → Wheel) : (updWheel s p f).safety = s.safety := by cases p <;> rfl

@[simp] theorem updWheel_jtag (s : State) (p : Port) (f : Wheel → Wheel) : (updWheel s p f).jtag = s.jtag := by cases p <;> rfl

@[simp] theorem updWheel_core (s : State) (p : Port) (f : Wheel → Wheel) : (updWheel s p f).core = s.core := by cases p <;> rfl

@[simp] theorem updWheel_cart (s : State) (p : Port) (f : Wheel → Wheel) : (updWheel s p f).cart = s.cart := by cases p <;> rfl

@[simp] theorem updWheel_keeper (s : State) (p : Port) (f : Wheel → Wheel) : (updWheel s p f).keeper = s.keeper := by cases p <;> rfl

@[simp] theorem updWheel_clocks (s : State) (p : Port) (f : Wheel → Wheel) : (updWheel s p f).clocks = s.clocks := by cases p <;> rfl

@[simp] theorem updWheel_mem (s : State) (p : Port) (f : Wheel → Wheel) : (updWheel s p f).mem = s.mem := by cases p <;> rfl

@[simp] theorem updWheel_binding (s : State) (p : Port) (f : Wheel → Wheel) : (updWheel s p f).binding = s.binding := by cases p <;> rfl

@[simp] theorem updWheel_gather (s : State) (p : Port) (f : Wheel → Wheel) : (updWheel s p f).gather = s.gather := by cases p <;> rfl

@[simp] theorem updWheel_codec (s : State) (p : Port) (f : Wheel → Wheel) : (updWheel s p f).codec = s.codec := by cases p <;> rfl

@[simp] theorem updWheel_pens (s : State) (p : Port) (f : Wheel → Wheel) : (updWheel s p f).pens = s.pens := by cases p <;> rfl

@[simp] theorem updWheel_matrix (s : State) (p : Port) (f : Wheel → Wheel) : (updWheel s p f).matrix = s.matrix := by cases p <;> rfl

@[simp] theorem updWheel_select (s : State) (p : Port) (f : Wheel → Wheel) : (updWheel s p f).select = s.select := by cases p <;> rfl

@[simp] theorem updWheel_canvas (s : State) (p : Port) (f : Wheel → Wheel) : (updWheel s p f).canvas = s.canvas := by cases p <;> rfl

@[simp] theorem updWheel_engine (s : State) (p : Port) (f : Wheel → Wheel) : (updWheel s p f).engine = s.engine := by cases p <;> rfl

@[simp] theorem updWheel_bright (s : State) (p : Port) (f : Wheel → Wheel) : (updWheel s p f).bright = s.bright := by cases p <;> rfl

@[simp] theorem updWheel_emit (s : State) (p : Port) (f : Wheel → Wheel) : (updWheel s p f).emit = s.emit := by cases p <;> rfl

@[simp] theorem updWheel_lamp (s : State) (p : Port) (f : Wheel → Wheel) : (updWheel s p f).lamp = s.lamp := by cases p <;> rfl

@[simp] theorem updWheel_yard (s : State) (p : Port) (f : Wheel → Wheel) : (updWheel s p f).yard = s.yard := by cases p <;> rfl

@[simp] theorem updWheel_integrity (s : State) (p : Port) (f : Wheel → Wheel) : (updWheel s p f).integrity = s.integrity := by cases p <;> rfl

@[simp] theorem updWheel_beacon (s : State) (p : Port) (f : Wheel → Wheel) : (updWheel s p f).beacon = s.beacon := by cases p <;> rfl

@[simp] theorem updWheel_free (s : State) (p : Port) (f : Wheel → Wheel) : (updWheel s p f).free = s.free := by cases p <;> rfl

@[simp] theorem updWheel_pending (s : State) (p : Port) (f : Wheel → Wheel) : (updWheel s p f).pending = s.pending := by cases p <;> rfl

/-! `reportX`. -/

@[simp] theorem reportX_fuses (c a j : Nat) (x : Option Nat) (s : State) : (reportX c a j x s).fuses = s.fuses := by unfold reportX; dsimp only; split <;> rfl

@[simp] theorem reportX_supply (c a j : Nat) (x : Option Nat) (s : State) : (reportX c a j x s).supply = s.supply := by unfold reportX; dsimp only; split <;> rfl

@[simp] theorem reportX_pins (c a j : Nat) (x : Option Nat) (s : State) : (reportX c a j x s).pins = s.pins := by unfold reportX; dsimp only; split <;> rfl

@[simp] theorem reportX_aon (c a j : Nat) (x : Option Nat) (s : State) : (reportX c a j x s).aon = s.aon := by unfold reportX; dsimp only; split <;> rfl

@[simp] theorem reportX_pack (c a j : Nat) (x : Option Nat) (s : State) : (reportX c a j x s).pack = s.pack := by unfold reportX; dsimp only; split <;> rfl

@[simp] theorem reportX_safety (c a j : Nat) (x : Option Nat) (s : State) : (reportX c a j x s).safety = s.safety := by unfold reportX; dsimp only; split <;> rfl

@[simp] theorem reportX_jtag (c a j : Nat) (x : Option Nat) (s : State) : (reportX c a j x s).jtag = s.jtag := by unfold reportX; dsimp only; split <;> rfl

@[simp] theorem reportX_core (c a j : Nat) (x : Option Nat) (s : State) : (reportX c a j x s).core = s.core := by unfold reportX; dsimp only; split <;> rfl

@[simp] theorem reportX_cart (c a j : Nat) (x : Option Nat) (s : State) : (reportX c a j x s).cart = s.cart := by unfold reportX; dsimp only; split <;> rfl

@[simp] theorem reportX_keeper (c a j : Nat) (x : Option Nat) (s : State) : (reportX c a j x s).keeper = s.keeper := by unfold reportX; dsimp only; split <;> rfl

@[simp] theorem reportX_clocks (c a j : Nat) (x : Option Nat) (s : State) : (reportX c a j x s).clocks = s.clocks := by unfold reportX; dsimp only; split <;> rfl

@[simp] theorem reportX_mem (c a j : Nat) (x : Option Nat) (s : State) : (reportX c a j x s).mem = s.mem := by unfold reportX; dsimp only; split <;> rfl

@[simp] theorem reportX_binding (c a j : Nat) (x : Option Nat) (s : State) : (reportX c a j x s).binding = s.binding := by unfold reportX; dsimp only; split <;> rfl

@[simp] theorem reportX_gather (c a j : Nat) (x : Option Nat) (s : State) : (reportX c a j x s).gather = s.gather := by unfold reportX; dsimp only; split <;> rfl

@[simp] theorem reportX_codec (c a j : Nat) (x : Option Nat) (s : State) : (reportX c a j x s).codec = s.codec := by unfold reportX; dsimp only; split <;> rfl

@[simp] theorem reportX_pens (c a j : Nat) (x : Option Nat) (s : State) : (reportX c a j x s).pens = s.pens := by unfold reportX; dsimp only; split <;> rfl

@[simp] theorem reportX_matrix (c a j : Nat) (x : Option Nat) (s : State) : (reportX c a j x s).matrix = s.matrix := by unfold reportX; dsimp only; split <;> rfl

@[simp] theorem reportX_select (c a j : Nat) (x : Option Nat) (s : State) : (reportX c a j x s).select = s.select := by unfold reportX; dsimp only; split <;> rfl

@[simp] theorem reportX_canvas (c a j : Nat) (x : Option Nat) (s : State) : (reportX c a j x s).canvas = s.canvas := by unfold reportX; dsimp only; split <;> rfl

@[simp] theorem reportX_portA (c a j : Nat) (x : Option Nat) (s : State) : (reportX c a j x s).portA = s.portA := by unfold reportX; dsimp only; split <;> rfl

@[simp] theorem reportX_portB (c a j : Nat) (x : Option Nat) (s : State) : (reportX c a j x s).portB = s.portB := by unfold reportX; dsimp only; split <;> rfl

@[simp] theorem reportX_engine (c a j : Nat) (x : Option Nat) (s : State) : (reportX c a j x s).engine = s.engine := by unfold reportX; dsimp only; split <;> rfl

@[simp] theorem reportX_bright (c a j : Nat) (x : Option Nat) (s : State) : (reportX c a j x s).bright = s.bright := by unfold reportX; dsimp only; split <;> rfl

@[simp] theorem reportX_emit (c a j : Nat) (x : Option Nat) (s : State) : (reportX c a j x s).emit = s.emit := by unfold reportX; dsimp only; split <;> rfl

@[simp] theorem reportX_lamp (c a j : Nat) (x : Option Nat) (s : State) : (reportX c a j x s).lamp = s.lamp := by unfold reportX; dsimp only; split <;> rfl

@[simp] theorem reportX_yard (c a j : Nat) (x : Option Nat) (s : State) : (reportX c a j x s).yard = s.yard := by unfold reportX; dsimp only; split <;> rfl

@[simp] theorem reportX_integrity (c a j : Nat) (x : Option Nat) (s : State) : (reportX c a j x s).integrity = s.integrity := by unfold reportX; dsimp only; split <;> rfl

@[simp] theorem reportX_free (c a j : Nat) (x : Option Nat) (s : State) : (reportX c a j x s).free = s.free := by unfold reportX; dsimp only; split <;> rfl

@[simp] theorem reportX_pending (c a j : Nat) (x : Option Nat) (s : State) : (reportX c a j x s).pending = s.pending := by unfold reportX; dsimp only; split <;> rfl

/-! `report`. -/

@[simp] theorem report_fuses (c a j : Nat) (s : State) : (report c a j s).fuses = s.fuses := reportX_fuses c a j none s

@[simp] theorem report_supply (c a j : Nat) (s : State) : (report c a j s).supply = s.supply := reportX_supply c a j none s

@[simp] theorem report_pins (c a j : Nat) (s : State) : (report c a j s).pins = s.pins := reportX_pins c a j none s

@[simp] theorem report_aon (c a j : Nat) (s : State) : (report c a j s).aon = s.aon := reportX_aon c a j none s

@[simp] theorem report_pack (c a j : Nat) (s : State) : (report c a j s).pack = s.pack := reportX_pack c a j none s

@[simp] theorem report_safety (c a j : Nat) (s : State) : (report c a j s).safety = s.safety := reportX_safety c a j none s

@[simp] theorem report_jtag (c a j : Nat) (s : State) : (report c a j s).jtag = s.jtag := reportX_jtag c a j none s

@[simp] theorem report_core (c a j : Nat) (s : State) : (report c a j s).core = s.core := reportX_core c a j none s

@[simp] theorem report_cart (c a j : Nat) (s : State) : (report c a j s).cart = s.cart := reportX_cart c a j none s

@[simp] theorem report_keeper (c a j : Nat) (s : State) : (report c a j s).keeper = s.keeper := reportX_keeper c a j none s

@[simp] theorem report_clocks (c a j : Nat) (s : State) : (report c a j s).clocks = s.clocks := reportX_clocks c a j none s

@[simp] theorem report_mem (c a j : Nat) (s : State) : (report c a j s).mem = s.mem := reportX_mem c a j none s

@[simp] theorem report_binding (c a j : Nat) (s : State) : (report c a j s).binding = s.binding := reportX_binding c a j none s

@[simp] theorem report_gather (c a j : Nat) (s : State) : (report c a j s).gather = s.gather := reportX_gather c a j none s

@[simp] theorem report_codec (c a j : Nat) (s : State) : (report c a j s).codec = s.codec := reportX_codec c a j none s

@[simp] theorem report_pens (c a j : Nat) (s : State) : (report c a j s).pens = s.pens := reportX_pens c a j none s

@[simp] theorem report_matrix (c a j : Nat) (s : State) : (report c a j s).matrix = s.matrix := reportX_matrix c a j none s

@[simp] theorem report_select (c a j : Nat) (s : State) : (report c a j s).select = s.select := reportX_select c a j none s

@[simp] theorem report_canvas (c a j : Nat) (s : State) : (report c a j s).canvas = s.canvas := reportX_canvas c a j none s

@[simp] theorem report_portA (c a j : Nat) (s : State) : (report c a j s).portA = s.portA := reportX_portA c a j none s

@[simp] theorem report_portB (c a j : Nat) (s : State) : (report c a j s).portB = s.portB := reportX_portB c a j none s

@[simp] theorem report_engine (c a j : Nat) (s : State) : (report c a j s).engine = s.engine := reportX_engine c a j none s

@[simp] theorem report_bright (c a j : Nat) (s : State) : (report c a j s).bright = s.bright := reportX_bright c a j none s

@[simp] theorem report_emit (c a j : Nat) (s : State) : (report c a j s).emit = s.emit := reportX_emit c a j none s

@[simp] theorem report_lamp (c a j : Nat) (s : State) : (report c a j s).lamp = s.lamp := reportX_lamp c a j none s

@[simp] theorem report_yard (c a j : Nat) (s : State) : (report c a j s).yard = s.yard := reportX_yard c a j none s

@[simp] theorem report_integrity (c a j : Nat) (s : State) : (report c a j s).integrity = s.integrity := reportX_integrity c a j none s

@[simp] theorem report_free (c a j : Nat) (s : State) : (report c a j s).free = s.free := reportX_free c a j none s

@[simp] theorem report_pending (c a j : Nat) (s : State) : (report c a j s).pending = s.pending := reportX_pending c a j none s

/-! `darkChannels`. -/

@[simp] theorem darkChannels_fuses (p : Port) (s : State) : (darkChannels p s).fuses = s.fuses := rfl

@[simp] theorem darkChannels_supply (p : Port) (s : State) : (darkChannels p s).supply = s.supply := rfl

@[simp] theorem darkChannels_pins (p : Port) (s : State) : (darkChannels p s).pins = s.pins := rfl

@[simp] theorem darkChannels_aon (p : Port) (s : State) : (darkChannels p s).aon = s.aon := rfl

@[simp] theorem darkChannels_pack (p : Port) (s : State) : (darkChannels p s).pack = s.pack := rfl

@[simp] theorem darkChannels_safety (p : Port) (s : State) : (darkChannels p s).safety = s.safety := rfl

@[simp] theorem darkChannels_jtag (p : Port) (s : State) : (darkChannels p s).jtag = s.jtag := rfl

@[simp] theorem darkChannels_core (p : Port) (s : State) : (darkChannels p s).core = s.core := rfl

@[simp] theorem darkChannels_cart (p : Port) (s : State) : (darkChannels p s).cart = s.cart := rfl

@[simp] theorem darkChannels_keeper (p : Port) (s : State) : (darkChannels p s).keeper = s.keeper := rfl

@[simp] theorem darkChannels_clocks (p : Port) (s : State) : (darkChannels p s).clocks = s.clocks := rfl

@[simp] theorem darkChannels_mem (p : Port) (s : State) : (darkChannels p s).mem = s.mem := rfl

@[simp] theorem darkChannels_binding (p : Port) (s : State) : (darkChannels p s).binding = s.binding := rfl

@[simp] theorem darkChannels_gather (p : Port) (s : State) : (darkChannels p s).gather = s.gather := rfl

@[simp] theorem darkChannels_codec (p : Port) (s : State) : (darkChannels p s).codec = s.codec := rfl

@[simp] theorem darkChannels_pens (p : Port) (s : State) : (darkChannels p s).pens = s.pens := rfl

@[simp] theorem darkChannels_matrix (p : Port) (s : State) : (darkChannels p s).matrix = s.matrix := rfl

@[simp] theorem darkChannels_select (p : Port) (s : State) : (darkChannels p s).select = s.select := rfl

@[simp] theorem darkChannels_canvas (p : Port) (s : State) : (darkChannels p s).canvas = s.canvas := rfl

@[simp] theorem darkChannels_portA (p : Port) (s : State) : (darkChannels p s).portA = s.portA := rfl

@[simp] theorem darkChannels_portB (p : Port) (s : State) : (darkChannels p s).portB = s.portB := rfl

@[simp] theorem darkChannels_engine (p : Port) (s : State) : (darkChannels p s).engine = s.engine := rfl

@[simp] theorem darkChannels_bright (p : Port) (s : State) : (darkChannels p s).bright = s.bright := rfl

@[simp] theorem darkChannels_lamp (p : Port) (s : State) : (darkChannels p s).lamp = s.lamp := rfl

@[simp] theorem darkChannels_yard (p : Port) (s : State) : (darkChannels p s).yard = s.yard := rfl

@[simp] theorem darkChannels_integrity (p : Port) (s : State) : (darkChannels p s).integrity = s.integrity := rfl

@[simp] theorem darkChannels_beacon (p : Port) (s : State) : (darkChannels p s).beacon = s.beacon := rfl

@[simp] theorem darkChannels_free (p : Port) (s : State) : (darkChannels p s).free = s.free := rfl

@[simp] theorem darkChannels_pending (p : Port) (s : State) : (darkChannels p s).pending = s.pending := rfl

/-! `darkAllChannels`. -/

@[simp] theorem darkAllChannels_fuses (s : State) : (darkAllChannels s).fuses = s.fuses := rfl

@[simp] theorem darkAllChannels_supply (s : State) : (darkAllChannels s).supply = s.supply := rfl

@[simp] theorem darkAllChannels_pins (s : State) : (darkAllChannels s).pins = s.pins := rfl

@[simp] theorem darkAllChannels_aon (s : State) : (darkAllChannels s).aon = s.aon := rfl

@[simp] theorem darkAllChannels_pack (s : State) : (darkAllChannels s).pack = s.pack := rfl

@[simp] theorem darkAllChannels_safety (s : State) : (darkAllChannels s).safety = s.safety := rfl

@[simp] theorem darkAllChannels_jtag (s : State) : (darkAllChannels s).jtag = s.jtag := rfl

@[simp] theorem darkAllChannels_core (s : State) : (darkAllChannels s).core = s.core := rfl

@[simp] theorem darkAllChannels_cart (s : State) : (darkAllChannels s).cart = s.cart := rfl

@[simp] theorem darkAllChannels_keeper (s : State) : (darkAllChannels s).keeper = s.keeper := rfl

@[simp] theorem darkAllChannels_clocks (s : State) : (darkAllChannels s).clocks = s.clocks := rfl

@[simp] theorem darkAllChannels_mem (s : State) : (darkAllChannels s).mem = s.mem := rfl

@[simp] theorem darkAllChannels_binding (s : State) : (darkAllChannels s).binding = s.binding := rfl

@[simp] theorem darkAllChannels_gather (s : State) : (darkAllChannels s).gather = s.gather := rfl

@[simp] theorem darkAllChannels_codec (s : State) : (darkAllChannels s).codec = s.codec := rfl

@[simp] theorem darkAllChannels_pens (s : State) : (darkAllChannels s).pens = s.pens := rfl

@[simp] theorem darkAllChannels_matrix (s : State) : (darkAllChannels s).matrix = s.matrix := rfl

@[simp] theorem darkAllChannels_select (s : State) : (darkAllChannels s).select = s.select := rfl

@[simp] theorem darkAllChannels_canvas (s : State) : (darkAllChannels s).canvas = s.canvas := rfl

@[simp] theorem darkAllChannels_portA (s : State) : (darkAllChannels s).portA = s.portA := rfl

@[simp] theorem darkAllChannels_portB (s : State) : (darkAllChannels s).portB = s.portB := rfl

@[simp] theorem darkAllChannels_engine (s : State) : (darkAllChannels s).engine = s.engine := rfl

@[simp] theorem darkAllChannels_bright (s : State) : (darkAllChannels s).bright = s.bright := rfl

@[simp] theorem darkAllChannels_lamp (s : State) : (darkAllChannels s).lamp = s.lamp := rfl

@[simp] theorem darkAllChannels_yard (s : State) : (darkAllChannels s).yard = s.yard := rfl

@[simp] theorem darkAllChannels_integrity (s : State) : (darkAllChannels s).integrity = s.integrity := rfl

@[simp] theorem darkAllChannels_beacon (s : State) : (darkAllChannels s).beacon = s.beacon := rfl

@[simp] theorem darkAllChannels_free (s : State) : (darkAllChannels s).free = s.free := rfl

@[simp] theorem darkAllChannels_pending (s : State) : (darkAllChannels s).pending = s.pending := rfl

/-! `stopReading`. -/

@[simp] theorem stopReading_fuses (p : Port) (s : State) : (stopReading p s).fuses = s.fuses := rfl

@[simp] theorem stopReading_supply (p : Port) (s : State) : (stopReading p s).supply = s.supply := rfl

@[simp] theorem stopReading_pins (p : Port) (s : State) : (stopReading p s).pins = s.pins := rfl

@[simp] theorem stopReading_aon (p : Port) (s : State) : (stopReading p s).aon = s.aon := rfl

@[simp] theorem stopReading_pack (p : Port) (s : State) : (stopReading p s).pack = s.pack := rfl

@[simp] theorem stopReading_safety (p : Port) (s : State) : (stopReading p s).safety = s.safety := rfl

@[simp] theorem stopReading_jtag (p : Port) (s : State) : (stopReading p s).jtag = s.jtag := rfl

@[simp] theorem stopReading_core (p : Port) (s : State) : (stopReading p s).core = s.core := rfl

@[simp] theorem stopReading_cart (p : Port) (s : State) : (stopReading p s).cart = s.cart := rfl

@[simp] theorem stopReading_keeper (p : Port) (s : State) : (stopReading p s).keeper = s.keeper := rfl

@[simp] theorem stopReading_clocks (p : Port) (s : State) : (stopReading p s).clocks = s.clocks := rfl

@[simp] theorem stopReading_mem (p : Port) (s : State) : (stopReading p s).mem = s.mem := rfl

@[simp] theorem stopReading_binding (p : Port) (s : State) : (stopReading p s).binding = s.binding := rfl

@[simp] theorem stopReading_gather (p : Port) (s : State) : (stopReading p s).gather = s.gather := rfl

@[simp] theorem stopReading_codec (p : Port) (s : State) : (stopReading p s).codec = s.codec := rfl

@[simp] theorem stopReading_matrix (p : Port) (s : State) : (stopReading p s).matrix = s.matrix := rfl

@[simp] theorem stopReading_select (p : Port) (s : State) : (stopReading p s).select = s.select := rfl

@[simp] theorem stopReading_canvas (p : Port) (s : State) : (stopReading p s).canvas = s.canvas := rfl

@[simp] theorem stopReading_portA (p : Port) (s : State) : (stopReading p s).portA = s.portA := rfl

@[simp] theorem stopReading_portB (p : Port) (s : State) : (stopReading p s).portB = s.portB := rfl

@[simp] theorem stopReading_engine (p : Port) (s : State) : (stopReading p s).engine = s.engine := rfl

@[simp] theorem stopReading_bright (p : Port) (s : State) : (stopReading p s).bright = s.bright := rfl

@[simp] theorem stopReading_emit (p : Port) (s : State) : (stopReading p s).emit = s.emit := rfl

@[simp] theorem stopReading_lamp (p : Port) (s : State) : (stopReading p s).lamp = s.lamp := rfl

@[simp] theorem stopReading_yard (p : Port) (s : State) : (stopReading p s).yard = s.yard := rfl

@[simp] theorem stopReading_integrity (p : Port) (s : State) : (stopReading p s).integrity = s.integrity := rfl

@[simp] theorem stopReading_beacon (p : Port) (s : State) : (stopReading p s).beacon = s.beacon := rfl

@[simp] theorem stopReading_free (p : Port) (s : State) : (stopReading p s).free = s.free := rfl

@[simp] theorem stopReading_pending (p : Port) (s : State) : (stopReading p s).pending = s.pending := rfl

/-! `updPen`. -/

@[simp] theorem updPen_fuses (s : State) (i : Nat) (f : Pen → Pen) : (updPen s i f).fuses = s.fuses := rfl

@[simp] theorem updPen_supply (s : State) (i : Nat) (f : Pen → Pen) : (updPen s i f).supply = s.supply := rfl

@[simp] theorem updPen_pins (s : State) (i : Nat) (f : Pen → Pen) : (updPen s i f).pins = s.pins := rfl

@[simp] theorem updPen_aon (s : State) (i : Nat) (f : Pen → Pen) : (updPen s i f).aon = s.aon := rfl

@[simp] theorem updPen_pack (s : State) (i : Nat) (f : Pen → Pen) : (updPen s i f).pack = s.pack := rfl

@[simp] theorem updPen_safety (s : State) (i : Nat) (f : Pen → Pen) : (updPen s i f).safety = s.safety := rfl

@[simp] theorem updPen_jtag (s : State) (i : Nat) (f : Pen → Pen) : (updPen s i f).jtag = s.jtag := rfl

@[simp] theorem updPen_core (s : State) (i : Nat) (f : Pen → Pen) : (updPen s i f).core = s.core := rfl

@[simp] theorem updPen_cart (s : State) (i : Nat) (f : Pen → Pen) : (updPen s i f).cart = s.cart := rfl

@[simp] theorem updPen_keeper (s : State) (i : Nat) (f : Pen → Pen) : (updPen s i f).keeper = s.keeper := rfl

@[simp] theorem updPen_clocks (s : State) (i : Nat) (f : Pen → Pen) : (updPen s i f).clocks = s.clocks := rfl

@[simp] theorem updPen_mem (s : State) (i : Nat) (f : Pen → Pen) : (updPen s i f).mem = s.mem := rfl

@[simp] theorem updPen_binding (s : State) (i : Nat) (f : Pen → Pen) : (updPen s i f).binding = s.binding := rfl

@[simp] theorem updPen_gather (s : State) (i : Nat) (f : Pen → Pen) : (updPen s i f).gather = s.gather := rfl

@[simp] theorem updPen_codec (s : State) (i : Nat) (f : Pen → Pen) : (updPen s i f).codec = s.codec := rfl

@[simp] theorem updPen_matrix (s : State) (i : Nat) (f : Pen → Pen) : (updPen s i f).matrix = s.matrix := rfl

@[simp] theorem updPen_select (s : State) (i : Nat) (f : Pen → Pen) : (updPen s i f).select = s.select := rfl

@[simp] theorem updPen_canvas (s : State) (i : Nat) (f : Pen → Pen) : (updPen s i f).canvas = s.canvas := rfl

@[simp] theorem updPen_portA (s : State) (i : Nat) (f : Pen → Pen) : (updPen s i f).portA = s.portA := rfl

@[simp] theorem updPen_portB (s : State) (i : Nat) (f : Pen → Pen) : (updPen s i f).portB = s.portB := rfl

@[simp] theorem updPen_engine (s : State) (i : Nat) (f : Pen → Pen) : (updPen s i f).engine = s.engine := rfl

@[simp] theorem updPen_bright (s : State) (i : Nat) (f : Pen → Pen) : (updPen s i f).bright = s.bright := rfl

@[simp] theorem updPen_emit (s : State) (i : Nat) (f : Pen → Pen) : (updPen s i f).emit = s.emit := rfl

@[simp] theorem updPen_lamp (s : State) (i : Nat) (f : Pen → Pen) : (updPen s i f).lamp = s.lamp := rfl

@[simp] theorem updPen_yard (s : State) (i : Nat) (f : Pen → Pen) : (updPen s i f).yard = s.yard := rfl

@[simp] theorem updPen_integrity (s : State) (i : Nat) (f : Pen → Pen) : (updPen s i f).integrity = s.integrity := rfl

@[simp] theorem updPen_beacon (s : State) (i : Nat) (f : Pen → Pen) : (updPen s i f).beacon = s.beacon := rfl

@[simp] theorem updPen_free (s : State) (i : Nat) (f : Pen → Pen) : (updPen s i f).free = s.free := rfl

@[simp] theorem updPen_pending (s : State) (i : Nat) (f : Pen → Pen) : (updPen s i f).pending = s.pending := rfl

/-! `removePen`. -/

@[simp] theorem removePen_fuses (i : Nat) (s : State) : (removePen i s).fuses = s.fuses := rfl

@[simp] theorem removePen_supply (i : Nat) (s : State) : (removePen i s).supply = s.supply := rfl

@[simp] theorem removePen_pins (i : Nat) (s : State) : (removePen i s).pins = s.pins := rfl

@[simp] theorem removePen_aon (i : Nat) (s : State) : (removePen i s).aon = s.aon := rfl

@[simp] theorem removePen_pack (i : Nat) (s : State) : (removePen i s).pack = s.pack := rfl

@[simp] theorem removePen_safety (i : Nat) (s : State) : (removePen i s).safety = s.safety := rfl

@[simp] theorem removePen_jtag (i : Nat) (s : State) : (removePen i s).jtag = s.jtag := rfl

@[simp] theorem removePen_core (i : Nat) (s : State) : (removePen i s).core = s.core := rfl

@[simp] theorem removePen_cart (i : Nat) (s : State) : (removePen i s).cart = s.cart := rfl

@[simp] theorem removePen_keeper (i : Nat) (s : State) : (removePen i s).keeper = s.keeper := rfl

@[simp] theorem removePen_clocks (i : Nat) (s : State) : (removePen i s).clocks = s.clocks := rfl

@[simp] theorem removePen_mem (i : Nat) (s : State) : (removePen i s).mem = s.mem := rfl

@[simp] theorem removePen_binding (i : Nat) (s : State) : (removePen i s).binding = s.binding := rfl

@[simp] theorem removePen_gather (i : Nat) (s : State) : (removePen i s).gather = s.gather := rfl

@[simp] theorem removePen_codec (i : Nat) (s : State) : (removePen i s).codec = s.codec := rfl

@[simp] theorem removePen_matrix (i : Nat) (s : State) : (removePen i s).matrix = s.matrix := rfl

@[simp] theorem removePen_select (i : Nat) (s : State) : (removePen i s).select = s.select := rfl

@[simp] theorem removePen_canvas (i : Nat) (s : State) : (removePen i s).canvas = s.canvas := rfl

@[simp] theorem removePen_portA (i : Nat) (s : State) : (removePen i s).portA = s.portA := rfl

@[simp] theorem removePen_portB (i : Nat) (s : State) : (removePen i s).portB = s.portB := rfl

@[simp] theorem removePen_engine (i : Nat) (s : State) : (removePen i s).engine = s.engine := rfl

@[simp] theorem removePen_bright (i : Nat) (s : State) : (removePen i s).bright = s.bright := rfl

@[simp] theorem removePen_emit (i : Nat) (s : State) : (removePen i s).emit = s.emit := rfl

@[simp] theorem removePen_lamp (i : Nat) (s : State) : (removePen i s).lamp = s.lamp := rfl

@[simp] theorem removePen_yard (i : Nat) (s : State) : (removePen i s).yard = s.yard := rfl

@[simp] theorem removePen_integrity (i : Nat) (s : State) : (removePen i s).integrity = s.integrity := rfl

@[simp] theorem removePen_beacon (i : Nat) (s : State) : (removePen i s).beacon = s.beacon := rfl

@[simp] theorem removePen_free (i : Nat) (s : State) : (removePen i s).free = s.free := rfl

@[simp] theorem removePen_pending (i : Nat) (s : State) : (removePen i s).pending = s.pending := rfl

/-! `updDomain`. -/

@[simp] theorem updDomain_fuses (s : State) (d : Domain) (f : DomainState → DomainState) : (updDomain s d f).fuses = s.fuses := rfl

@[simp] theorem updDomain_supply (s : State) (d : Domain) (f : DomainState → DomainState) : (updDomain s d f).supply = s.supply := rfl

@[simp] theorem updDomain_pins (s : State) (d : Domain) (f : DomainState → DomainState) : (updDomain s d f).pins = s.pins := rfl

@[simp] theorem updDomain_aon (s : State) (d : Domain) (f : DomainState → DomainState) : (updDomain s d f).aon = s.aon := rfl

@[simp] theorem updDomain_pack (s : State) (d : Domain) (f : DomainState → DomainState) : (updDomain s d f).pack = s.pack := rfl

@[simp] theorem updDomain_safety (s : State) (d : Domain) (f : DomainState → DomainState) : (updDomain s d f).safety = s.safety := rfl

@[simp] theorem updDomain_jtag (s : State) (d : Domain) (f : DomainState → DomainState) : (updDomain s d f).jtag = s.jtag := rfl

@[simp] theorem updDomain_core (s : State) (d : Domain) (f : DomainState → DomainState) : (updDomain s d f).core = s.core := rfl

@[simp] theorem updDomain_cart (s : State) (d : Domain) (f : DomainState → DomainState) : (updDomain s d f).cart = s.cart := rfl

@[simp] theorem updDomain_clocks (s : State) (d : Domain) (f : DomainState → DomainState) : (updDomain s d f).clocks = s.clocks := rfl

@[simp] theorem updDomain_mem (s : State) (d : Domain) (f : DomainState → DomainState) : (updDomain s d f).mem = s.mem := rfl

@[simp] theorem updDomain_binding (s : State) (d : Domain) (f : DomainState → DomainState) : (updDomain s d f).binding = s.binding := rfl

@[simp] theorem updDomain_gather (s : State) (d : Domain) (f : DomainState → DomainState) : (updDomain s d f).gather = s.gather := rfl

@[simp] theorem updDomain_codec (s : State) (d : Domain) (f : DomainState → DomainState) : (updDomain s d f).codec = s.codec := rfl

@[simp] theorem updDomain_pens (s : State) (d : Domain) (f : DomainState → DomainState) : (updDomain s d f).pens = s.pens := rfl

@[simp] theorem updDomain_matrix (s : State) (d : Domain) (f : DomainState → DomainState) : (updDomain s d f).matrix = s.matrix := rfl

@[simp] theorem updDomain_select (s : State) (d : Domain) (f : DomainState → DomainState) : (updDomain s d f).select = s.select := rfl

@[simp] theorem updDomain_canvas (s : State) (d : Domain) (f : DomainState → DomainState) : (updDomain s d f).canvas = s.canvas := rfl

@[simp] theorem updDomain_portA (s : State) (d : Domain) (f : DomainState → DomainState) : (updDomain s d f).portA = s.portA := rfl

@[simp] theorem updDomain_portB (s : State) (d : Domain) (f : DomainState → DomainState) : (updDomain s d f).portB = s.portB := rfl

@[simp] theorem updDomain_engine (s : State) (d : Domain) (f : DomainState → DomainState) : (updDomain s d f).engine = s.engine := rfl

@[simp] theorem updDomain_bright (s : State) (d : Domain) (f : DomainState → DomainState) : (updDomain s d f).bright = s.bright := rfl

@[simp] theorem updDomain_emit (s : State) (d : Domain) (f : DomainState → DomainState) : (updDomain s d f).emit = s.emit := rfl

@[simp] theorem updDomain_lamp (s : State) (d : Domain) (f : DomainState → DomainState) : (updDomain s d f).lamp = s.lamp := rfl

@[simp] theorem updDomain_yard (s : State) (d : Domain) (f : DomainState → DomainState) : (updDomain s d f).yard = s.yard := rfl

@[simp] theorem updDomain_integrity (s : State) (d : Domain) (f : DomainState → DomainState) : (updDomain s d f).integrity = s.integrity := rfl

@[simp] theorem updDomain_beacon (s : State) (d : Domain) (f : DomainState → DomainState) : (updDomain s d f).beacon = s.beacon := rfl

@[simp] theorem updDomain_free (s : State) (d : Domain) (f : DomainState → DomainState) : (updDomain s d f).free = s.free := rfl

@[simp] theorem updDomain_pending (s : State) (d : Domain) (f : DomainState → DomainState) : (updDomain s d f).pending = s.pending := rfl

/-! `issue`. -/

@[simp] theorem issue_fuses (o : FlashCommand) (s : State) : (issue o s).fuses = s.fuses := rfl

@[simp] theorem issue_supply (o : FlashCommand) (s : State) : (issue o s).supply = s.supply := rfl

@[simp] theorem issue_pins (o : FlashCommand) (s : State) : (issue o s).pins = s.pins := rfl

@[simp] theorem issue_aon (o : FlashCommand) (s : State) : (issue o s).aon = s.aon := rfl

@[simp] theorem issue_pack (o : FlashCommand) (s : State) : (issue o s).pack = s.pack := rfl

@[simp] theorem issue_safety (o : FlashCommand) (s : State) : (issue o s).safety = s.safety := rfl

@[simp] theorem issue_jtag (o : FlashCommand) (s : State) : (issue o s).jtag = s.jtag := rfl

@[simp] theorem issue_core (o : FlashCommand) (s : State) : (issue o s).core = s.core := rfl

@[simp] theorem issue_cart (o : FlashCommand) (s : State) : (issue o s).cart = s.cart := rfl

@[simp] theorem issue_keeper (o : FlashCommand) (s : State) : (issue o s).keeper = s.keeper := rfl

@[simp] theorem issue_clocks (o : FlashCommand) (s : State) : (issue o s).clocks = s.clocks := rfl

@[simp] theorem issue_mem (o : FlashCommand) (s : State) : (issue o s).mem = { s.mem with issued := [o] } := rfl

@[simp] theorem issue_binding (o : FlashCommand) (s : State) : (issue o s).binding = s.binding := rfl

@[simp] theorem issue_gather (o : FlashCommand) (s : State) : (issue o s).gather = s.gather := rfl

@[simp] theorem issue_codec (o : FlashCommand) (s : State) : (issue o s).codec = s.codec := rfl

@[simp] theorem issue_pens (o : FlashCommand) (s : State) : (issue o s).pens = s.pens := rfl

@[simp] theorem issue_matrix (o : FlashCommand) (s : State) : (issue o s).matrix = s.matrix := rfl

@[simp] theorem issue_select (o : FlashCommand) (s : State) : (issue o s).select = s.select := rfl

@[simp] theorem issue_canvas (o : FlashCommand) (s : State) : (issue o s).canvas = s.canvas := rfl

@[simp] theorem issue_portA (o : FlashCommand) (s : State) : (issue o s).portA = s.portA := rfl

@[simp] theorem issue_portB (o : FlashCommand) (s : State) : (issue o s).portB = s.portB := rfl

@[simp] theorem issue_engine (o : FlashCommand) (s : State) : (issue o s).engine = s.engine := rfl

@[simp] theorem issue_bright (o : FlashCommand) (s : State) : (issue o s).bright = s.bright := rfl

@[simp] theorem issue_emit (o : FlashCommand) (s : State) : (issue o s).emit = s.emit := rfl

@[simp] theorem issue_lamp (o : FlashCommand) (s : State) : (issue o s).lamp = s.lamp := rfl

@[simp] theorem issue_yard (o : FlashCommand) (s : State) : (issue o s).yard = s.yard := rfl

@[simp] theorem issue_integrity (o : FlashCommand) (s : State) : (issue o s).integrity = s.integrity := rfl

@[simp] theorem issue_beacon (o : FlashCommand) (s : State) : (issue o s).beacon = s.beacon := rfl

@[simp] theorem issue_free (o : FlashCommand) (s : State) : (issue o s).free = s.free := rfl

@[simp] theorem issue_pending (o : FlashCommand) (s : State) : (issue o s).pending = s.pending := rfl

/-! `updReader`. -/

@[simp] theorem updReader_fuses (f : Reader → Reader) (s : State) : (updReader f s).fuses = s.fuses := rfl

@[simp] theorem updReader_supply (f : Reader → Reader) (s : State) : (updReader f s).supply = s.supply := rfl

@[simp] theorem updReader_pins (f : Reader → Reader) (s : State) : (updReader f s).pins = s.pins := rfl

@[simp] theorem updReader_aon (f : Reader → Reader) (s : State) : (updReader f s).aon = s.aon := rfl

@[simp] theorem updReader_pack (f : Reader → Reader) (s : State) : (updReader f s).pack = s.pack := rfl

@[simp] theorem updReader_safety (f : Reader → Reader) (s : State) : (updReader f s).safety = s.safety := rfl

@[simp] theorem updReader_jtag (f : Reader → Reader) (s : State) : (updReader f s).jtag = s.jtag := rfl

@[simp] theorem updReader_core (f : Reader → Reader) (s : State) : (updReader f s).core = s.core := rfl

@[simp] theorem updReader_cart (f : Reader → Reader) (s : State) : (updReader f s).cart = s.cart := rfl

@[simp] theorem updReader_keeper (f : Reader → Reader) (s : State) : (updReader f s).keeper = s.keeper := rfl

@[simp] theorem updReader_clocks (f : Reader → Reader) (s : State) : (updReader f s).clocks = s.clocks := rfl

@[simp] theorem updReader_mem (f : Reader → Reader) (s : State) : (updReader f s).mem = s.mem := rfl

@[simp] theorem updReader_binding (f : Reader → Reader) (s : State) : (updReader f s).binding = { s.binding with reader := f s.binding.reader } := rfl

@[simp] theorem updReader_gather (f : Reader → Reader) (s : State) : (updReader f s).gather = s.gather := rfl

@[simp] theorem updReader_codec (f : Reader → Reader) (s : State) : (updReader f s).codec = s.codec := rfl

@[simp] theorem updReader_pens (f : Reader → Reader) (s : State) : (updReader f s).pens = s.pens := rfl

@[simp] theorem updReader_matrix (f : Reader → Reader) (s : State) : (updReader f s).matrix = s.matrix := rfl

@[simp] theorem updReader_select (f : Reader → Reader) (s : State) : (updReader f s).select = s.select := rfl

@[simp] theorem updReader_canvas (f : Reader → Reader) (s : State) : (updReader f s).canvas = s.canvas := rfl

@[simp] theorem updReader_portA (f : Reader → Reader) (s : State) : (updReader f s).portA = s.portA := rfl

@[simp] theorem updReader_portB (f : Reader → Reader) (s : State) : (updReader f s).portB = s.portB := rfl

@[simp] theorem updReader_engine (f : Reader → Reader) (s : State) : (updReader f s).engine = s.engine := rfl

@[simp] theorem updReader_bright (f : Reader → Reader) (s : State) : (updReader f s).bright = s.bright := rfl

@[simp] theorem updReader_emit (f : Reader → Reader) (s : State) : (updReader f s).emit = s.emit := rfl

@[simp] theorem updReader_lamp (f : Reader → Reader) (s : State) : (updReader f s).lamp = s.lamp := rfl

@[simp] theorem updReader_yard (f : Reader → Reader) (s : State) : (updReader f s).yard = s.yard := rfl

@[simp] theorem updReader_integrity (f : Reader → Reader) (s : State) : (updReader f s).integrity = s.integrity := rfl

@[simp] theorem updReader_beacon (f : Reader → Reader) (s : State) : (updReader f s).beacon = s.beacon := rfl

@[simp] theorem updReader_free (f : Reader → Reader) (s : State) : (updReader f s).free = s.free := rfl

@[simp] theorem updReader_pending (f : Reader → Reader) (s : State) : (updReader f s).pending = s.pending := rfl

/-! `updClocks`. -/

@[simp] theorem updClocks_fuses (f : Clocks → Clocks) (s : State) : (updClocks f s).fuses = s.fuses := rfl

@[simp] theorem updClocks_supply (f : Clocks → Clocks) (s : State) : (updClocks f s).supply = s.supply := rfl

@[simp] theorem updClocks_pins (f : Clocks → Clocks) (s : State) : (updClocks f s).pins = s.pins := rfl

@[simp] theorem updClocks_aon (f : Clocks → Clocks) (s : State) : (updClocks f s).aon = s.aon := rfl

@[simp] theorem updClocks_pack (f : Clocks → Clocks) (s : State) : (updClocks f s).pack = s.pack := rfl

@[simp] theorem updClocks_safety (f : Clocks → Clocks) (s : State) : (updClocks f s).safety = s.safety := rfl

@[simp] theorem updClocks_jtag (f : Clocks → Clocks) (s : State) : (updClocks f s).jtag = s.jtag := rfl

@[simp] theorem updClocks_core (f : Clocks → Clocks) (s : State) : (updClocks f s).core = s.core := rfl

@[simp] theorem updClocks_cart (f : Clocks → Clocks) (s : State) : (updClocks f s).cart = s.cart := rfl

@[simp] theorem updClocks_keeper (f : Clocks → Clocks) (s : State) : (updClocks f s).keeper = s.keeper := rfl

@[simp] theorem updClocks_clocks (f : Clocks → Clocks) (s : State) : (updClocks f s).clocks = f s.clocks := rfl

@[simp] theorem updClocks_mem (f : Clocks → Clocks) (s : State) : (updClocks f s).mem = s.mem := rfl

@[simp] theorem updClocks_binding (f : Clocks → Clocks) (s : State) : (updClocks f s).binding = s.binding := rfl

@[simp] theorem updClocks_gather (f : Clocks → Clocks) (s : State) : (updClocks f s).gather = s.gather := rfl

@[simp] theorem updClocks_codec (f : Clocks → Clocks) (s : State) : (updClocks f s).codec = s.codec := rfl

@[simp] theorem updClocks_pens (f : Clocks → Clocks) (s : State) : (updClocks f s).pens = s.pens := rfl

@[simp] theorem updClocks_matrix (f : Clocks → Clocks) (s : State) : (updClocks f s).matrix = s.matrix := rfl

@[simp] theorem updClocks_select (f : Clocks → Clocks) (s : State) : (updClocks f s).select = s.select := rfl

@[simp] theorem updClocks_canvas (f : Clocks → Clocks) (s : State) : (updClocks f s).canvas = s.canvas := rfl

@[simp] theorem updClocks_portA (f : Clocks → Clocks) (s : State) : (updClocks f s).portA = s.portA := rfl

@[simp] theorem updClocks_portB (f : Clocks → Clocks) (s : State) : (updClocks f s).portB = s.portB := rfl

@[simp] theorem updClocks_engine (f : Clocks → Clocks) (s : State) : (updClocks f s).engine = s.engine := rfl

@[simp] theorem updClocks_bright (f : Clocks → Clocks) (s : State) : (updClocks f s).bright = s.bright := rfl

@[simp] theorem updClocks_emit (f : Clocks → Clocks) (s : State) : (updClocks f s).emit = s.emit := rfl

@[simp] theorem updClocks_lamp (f : Clocks → Clocks) (s : State) : (updClocks f s).lamp = s.lamp := rfl

@[simp] theorem updClocks_yard (f : Clocks → Clocks) (s : State) : (updClocks f s).yard = s.yard := rfl

@[simp] theorem updClocks_integrity (f : Clocks → Clocks) (s : State) : (updClocks f s).integrity = s.integrity := rfl

@[simp] theorem updClocks_beacon (f : Clocks → Clocks) (s : State) : (updClocks f s).beacon = s.beacon := rfl

@[simp] theorem updClocks_free (f : Clocks → Clocks) (s : State) : (updClocks f s).free = s.free := rfl

@[simp] theorem updClocks_pending (f : Clocks → Clocks) (s : State) : (updClocks f s).pending = s.pending := rfl

/-! `updIntegrity`. -/

@[simp] theorem updIntegrity_fuses (f : Integrity → Integrity) (s : State) : (updIntegrity f s).fuses = s.fuses := rfl

@[simp] theorem updIntegrity_supply (f : Integrity → Integrity) (s : State) : (updIntegrity f s).supply = s.supply := rfl

@[simp] theorem updIntegrity_pins (f : Integrity → Integrity) (s : State) : (updIntegrity f s).pins = s.pins := rfl

@[simp] theorem updIntegrity_aon (f : Integrity → Integrity) (s : State) : (updIntegrity f s).aon = s.aon := rfl

@[simp] theorem updIntegrity_pack (f : Integrity → Integrity) (s : State) : (updIntegrity f s).pack = s.pack := rfl

@[simp] theorem updIntegrity_safety (f : Integrity → Integrity) (s : State) : (updIntegrity f s).safety = s.safety := rfl

@[simp] theorem updIntegrity_jtag (f : Integrity → Integrity) (s : State) : (updIntegrity f s).jtag = s.jtag := rfl

@[simp] theorem updIntegrity_core (f : Integrity → Integrity) (s : State) : (updIntegrity f s).core = s.core := rfl

@[simp] theorem updIntegrity_cart (f : Integrity → Integrity) (s : State) : (updIntegrity f s).cart = s.cart := rfl

@[simp] theorem updIntegrity_keeper (f : Integrity → Integrity) (s : State) : (updIntegrity f s).keeper = s.keeper := rfl

@[simp] theorem updIntegrity_clocks (f : Integrity → Integrity) (s : State) : (updIntegrity f s).clocks = s.clocks := rfl

@[simp] theorem updIntegrity_mem (f : Integrity → Integrity) (s : State) : (updIntegrity f s).mem = s.mem := rfl

@[simp] theorem updIntegrity_binding (f : Integrity → Integrity) (s : State) : (updIntegrity f s).binding = s.binding := rfl

@[simp] theorem updIntegrity_gather (f : Integrity → Integrity) (s : State) : (updIntegrity f s).gather = s.gather := rfl

@[simp] theorem updIntegrity_codec (f : Integrity → Integrity) (s : State) : (updIntegrity f s).codec = s.codec := rfl

@[simp] theorem updIntegrity_pens (f : Integrity → Integrity) (s : State) : (updIntegrity f s).pens = s.pens := rfl

@[simp] theorem updIntegrity_matrix (f : Integrity → Integrity) (s : State) : (updIntegrity f s).matrix = s.matrix := rfl

@[simp] theorem updIntegrity_select (f : Integrity → Integrity) (s : State) : (updIntegrity f s).select = s.select := rfl

@[simp] theorem updIntegrity_canvas (f : Integrity → Integrity) (s : State) : (updIntegrity f s).canvas = s.canvas := rfl

@[simp] theorem updIntegrity_portA (f : Integrity → Integrity) (s : State) : (updIntegrity f s).portA = s.portA := rfl

@[simp] theorem updIntegrity_portB (f : Integrity → Integrity) (s : State) : (updIntegrity f s).portB = s.portB := rfl

@[simp] theorem updIntegrity_engine (f : Integrity → Integrity) (s : State) : (updIntegrity f s).engine = s.engine := rfl

@[simp] theorem updIntegrity_bright (f : Integrity → Integrity) (s : State) : (updIntegrity f s).bright = s.bright := rfl

@[simp] theorem updIntegrity_emit (f : Integrity → Integrity) (s : State) : (updIntegrity f s).emit = s.emit := rfl

@[simp] theorem updIntegrity_lamp (f : Integrity → Integrity) (s : State) : (updIntegrity f s).lamp = s.lamp := rfl

@[simp] theorem updIntegrity_yard (f : Integrity → Integrity) (s : State) : (updIntegrity f s).yard = s.yard := rfl

@[simp] theorem updIntegrity_integrity (f : Integrity → Integrity) (s : State) : (updIntegrity f s).integrity = f s.integrity := rfl

@[simp] theorem updIntegrity_beacon (f : Integrity → Integrity) (s : State) : (updIntegrity f s).beacon = s.beacon := rfl

@[simp] theorem updIntegrity_free (f : Integrity → Integrity) (s : State) : (updIntegrity f s).free = s.free := rfl

@[simp] theorem updIntegrity_pending (f : Integrity → Integrity) (s : State) : (updIntegrity f s).pending = s.pending := rfl

/-! `updLamps`. -/

@[simp] theorem updLamps_fuses (f : LampField → LampField) (s : State) : (updLamps f s).fuses = s.fuses := rfl

@[simp] theorem updLamps_supply (f : LampField → LampField) (s : State) : (updLamps f s).supply = s.supply := rfl

@[simp] theorem updLamps_pins (f : LampField → LampField) (s : State) : (updLamps f s).pins = s.pins := rfl

@[simp] theorem updLamps_aon (f : LampField → LampField) (s : State) : (updLamps f s).aon = s.aon := rfl

@[simp] theorem updLamps_pack (f : LampField → LampField) (s : State) : (updLamps f s).pack = s.pack := rfl

@[simp] theorem updLamps_safety (f : LampField → LampField) (s : State) : (updLamps f s).safety = s.safety := rfl

@[simp] theorem updLamps_jtag (f : LampField → LampField) (s : State) : (updLamps f s).jtag = s.jtag := rfl

@[simp] theorem updLamps_core (f : LampField → LampField) (s : State) : (updLamps f s).core = s.core := rfl

@[simp] theorem updLamps_cart (f : LampField → LampField) (s : State) : (updLamps f s).cart = s.cart := rfl

@[simp] theorem updLamps_keeper (f : LampField → LampField) (s : State) : (updLamps f s).keeper = s.keeper := rfl

@[simp] theorem updLamps_clocks (f : LampField → LampField) (s : State) : (updLamps f s).clocks = s.clocks := rfl

@[simp] theorem updLamps_mem (f : LampField → LampField) (s : State) : (updLamps f s).mem = s.mem := rfl

@[simp] theorem updLamps_binding (f : LampField → LampField) (s : State) : (updLamps f s).binding = s.binding := rfl

@[simp] theorem updLamps_gather (f : LampField → LampField) (s : State) : (updLamps f s).gather = s.gather := rfl

@[simp] theorem updLamps_codec (f : LampField → LampField) (s : State) : (updLamps f s).codec = s.codec := rfl

@[simp] theorem updLamps_pens (f : LampField → LampField) (s : State) : (updLamps f s).pens = s.pens := rfl

@[simp] theorem updLamps_matrix (f : LampField → LampField) (s : State) : (updLamps f s).matrix = s.matrix := rfl

@[simp] theorem updLamps_select (f : LampField → LampField) (s : State) : (updLamps f s).select = s.select := rfl

@[simp] theorem updLamps_canvas (f : LampField → LampField) (s : State) : (updLamps f s).canvas = s.canvas := rfl

@[simp] theorem updLamps_portA (f : LampField → LampField) (s : State) : (updLamps f s).portA = s.portA := rfl

@[simp] theorem updLamps_portB (f : LampField → LampField) (s : State) : (updLamps f s).portB = s.portB := rfl

@[simp] theorem updLamps_engine (f : LampField → LampField) (s : State) : (updLamps f s).engine = s.engine := rfl

@[simp] theorem updLamps_bright (f : LampField → LampField) (s : State) : (updLamps f s).bright = s.bright := rfl

@[simp] theorem updLamps_emit (f : LampField → LampField) (s : State) : (updLamps f s).emit = s.emit := rfl

@[simp] theorem updLamps_lamp (f : LampField → LampField) (s : State) : (updLamps f s).lamp = f s.lamp := rfl

@[simp] theorem updLamps_yard (f : LampField → LampField) (s : State) : (updLamps f s).yard = s.yard := rfl

@[simp] theorem updLamps_integrity (f : LampField → LampField) (s : State) : (updLamps f s).integrity = s.integrity := rfl

@[simp] theorem updLamps_beacon (f : LampField → LampField) (s : State) : (updLamps f s).beacon = s.beacon := rfl

@[simp] theorem updLamps_free (f : LampField → LampField) (s : State) : (updLamps f s).free = s.free := rfl

@[simp] theorem updLamps_pending (f : LampField → LampField) (s : State) : (updLamps f s).pending = s.pending := rfl

/-! `updLaser`. -/

@[simp] theorem updLaser_fuses (c : Nat) (f : Laser → Laser) (s : State) : (updLaser c f s).fuses = s.fuses := rfl

@[simp] theorem updLaser_supply (c : Nat) (f : Laser → Laser) (s : State) : (updLaser c f s).supply = s.supply := rfl

@[simp] theorem updLaser_pins (c : Nat) (f : Laser → Laser) (s : State) : (updLaser c f s).pins = s.pins := rfl

@[simp] theorem updLaser_aon (c : Nat) (f : Laser → Laser) (s : State) : (updLaser c f s).aon = s.aon := rfl

@[simp] theorem updLaser_pack (c : Nat) (f : Laser → Laser) (s : State) : (updLaser c f s).pack = s.pack := rfl

@[simp] theorem updLaser_safety (c : Nat) (f : Laser → Laser) (s : State) : (updLaser c f s).safety = s.safety := rfl

@[simp] theorem updLaser_jtag (c : Nat) (f : Laser → Laser) (s : State) : (updLaser c f s).jtag = s.jtag := rfl

@[simp] theorem updLaser_core (c : Nat) (f : Laser → Laser) (s : State) : (updLaser c f s).core = s.core := rfl

@[simp] theorem updLaser_cart (c : Nat) (f : Laser → Laser) (s : State) : (updLaser c f s).cart = s.cart := rfl

@[simp] theorem updLaser_keeper (c : Nat) (f : Laser → Laser) (s : State) : (updLaser c f s).keeper = s.keeper := rfl

@[simp] theorem updLaser_clocks (c : Nat) (f : Laser → Laser) (s : State) : (updLaser c f s).clocks = s.clocks := rfl

@[simp] theorem updLaser_mem (c : Nat) (f : Laser → Laser) (s : State) : (updLaser c f s).mem = s.mem := rfl

@[simp] theorem updLaser_binding (c : Nat) (f : Laser → Laser) (s : State) : (updLaser c f s).binding = s.binding := rfl

@[simp] theorem updLaser_gather (c : Nat) (f : Laser → Laser) (s : State) : (updLaser c f s).gather = s.gather := rfl

@[simp] theorem updLaser_codec (c : Nat) (f : Laser → Laser) (s : State) : (updLaser c f s).codec = s.codec := rfl

@[simp] theorem updLaser_pens (c : Nat) (f : Laser → Laser) (s : State) : (updLaser c f s).pens = s.pens := rfl

@[simp] theorem updLaser_matrix (c : Nat) (f : Laser → Laser) (s : State) : (updLaser c f s).matrix = s.matrix := rfl

@[simp] theorem updLaser_select (c : Nat) (f : Laser → Laser) (s : State) : (updLaser c f s).select = s.select := rfl

@[simp] theorem updLaser_canvas (c : Nat) (f : Laser → Laser) (s : State) : (updLaser c f s).canvas = s.canvas := rfl

@[simp] theorem updLaser_portA (c : Nat) (f : Laser → Laser) (s : State) : (updLaser c f s).portA = s.portA := rfl

@[simp] theorem updLaser_portB (c : Nat) (f : Laser → Laser) (s : State) : (updLaser c f s).portB = s.portB := rfl

@[simp] theorem updLaser_engine (c : Nat) (f : Laser → Laser) (s : State) : (updLaser c f s).engine = s.engine := rfl

@[simp] theorem updLaser_bright (c : Nat) (f : Laser → Laser) (s : State) : (updLaser c f s).bright = s.bright := rfl

@[simp] theorem updLaser_emit (c : Nat) (f : Laser → Laser) (s : State) : (updLaser c f s).emit = { s.emit with lasers := modAt s.emit.lasers c f } := rfl

@[simp] theorem updLaser_lamp (c : Nat) (f : Laser → Laser) (s : State) : (updLaser c f s).lamp = s.lamp := rfl

@[simp] theorem updLaser_yard (c : Nat) (f : Laser → Laser) (s : State) : (updLaser c f s).yard = s.yard := rfl

@[simp] theorem updLaser_integrity (c : Nat) (f : Laser → Laser) (s : State) : (updLaser c f s).integrity = s.integrity := rfl

@[simp] theorem updLaser_beacon (c : Nat) (f : Laser → Laser) (s : State) : (updLaser c f s).beacon = s.beacon := rfl

@[simp] theorem updLaser_free (c : Nat) (f : Laser → Laser) (s : State) : (updLaser c f s).free = s.free := rfl

@[simp] theorem updLaser_pending (c : Nat) (f : Laser → Laser) (s : State) : (updLaser c f s).pending = s.pending := rfl

/-! `setStep`. -/

@[simp] theorem setStep_fuses (q : QualStep) (s : State) : (setStep q s).fuses = s.fuses := rfl

@[simp] theorem setStep_supply (q : QualStep) (s : State) : (setStep q s).supply = s.supply := rfl

@[simp] theorem setStep_pins (q : QualStep) (s : State) : (setStep q s).pins = s.pins := rfl

@[simp] theorem setStep_aon (q : QualStep) (s : State) : (setStep q s).aon = s.aon := rfl

@[simp] theorem setStep_pack (q : QualStep) (s : State) : (setStep q s).pack = s.pack := rfl

@[simp] theorem setStep_safety (q : QualStep) (s : State) : (setStep q s).safety = s.safety := rfl

@[simp] theorem setStep_jtag (q : QualStep) (s : State) : (setStep q s).jtag = s.jtag := rfl

@[simp] theorem setStep_core (q : QualStep) (s : State) : (setStep q s).core = s.core := rfl

@[simp] theorem setStep_cart (q : QualStep) (s : State) : (setStep q s).cart = { s.cart with step := q, reached := stepNumber q } := rfl

@[simp] theorem setStep_keeper (q : QualStep) (s : State) : (setStep q s).keeper = s.keeper := rfl

@[simp] theorem setStep_clocks (q : QualStep) (s : State) : (setStep q s).clocks = s.clocks := rfl

@[simp] theorem setStep_mem (q : QualStep) (s : State) : (setStep q s).mem = s.mem := rfl

@[simp] theorem setStep_binding (q : QualStep) (s : State) : (setStep q s).binding = s.binding := rfl

@[simp] theorem setStep_gather (q : QualStep) (s : State) : (setStep q s).gather = s.gather := rfl

@[simp] theorem setStep_codec (q : QualStep) (s : State) : (setStep q s).codec = s.codec := rfl

@[simp] theorem setStep_pens (q : QualStep) (s : State) : (setStep q s).pens = s.pens := rfl

@[simp] theorem setStep_matrix (q : QualStep) (s : State) : (setStep q s).matrix = s.matrix := rfl

@[simp] theorem setStep_select (q : QualStep) (s : State) : (setStep q s).select = s.select := rfl

@[simp] theorem setStep_canvas (q : QualStep) (s : State) : (setStep q s).canvas = s.canvas := rfl

@[simp] theorem setStep_portA (q : QualStep) (s : State) : (setStep q s).portA = s.portA := rfl

@[simp] theorem setStep_portB (q : QualStep) (s : State) : (setStep q s).portB = s.portB := rfl

@[simp] theorem setStep_engine (q : QualStep) (s : State) : (setStep q s).engine = s.engine := rfl

@[simp] theorem setStep_bright (q : QualStep) (s : State) : (setStep q s).bright = s.bright := rfl

@[simp] theorem setStep_emit (q : QualStep) (s : State) : (setStep q s).emit = s.emit := rfl

@[simp] theorem setStep_lamp (q : QualStep) (s : State) : (setStep q s).lamp = s.lamp := rfl

@[simp] theorem setStep_yard (q : QualStep) (s : State) : (setStep q s).yard = s.yard := rfl

@[simp] theorem setStep_integrity (q : QualStep) (s : State) : (setStep q s).integrity = s.integrity := rfl

@[simp] theorem setStep_beacon (q : QualStep) (s : State) : (setStep q s).beacon = s.beacon := rfl

@[simp] theorem setStep_free (q : QualStep) (s : State) : (setStep q s).free = s.free := rfl

@[simp] theorem setStep_pending (q : QualStep) (s : State) : (setStep q s).pending = s.pending := rfl

/-! `setRunning`. -/

@[simp] theorem setRunning_fuses (j : Job) (s : State) : (setRunning j s).fuses = s.fuses := rfl

@[simp] theorem setRunning_supply (j : Job) (s : State) : (setRunning j s).supply = s.supply := rfl

@[simp] theorem setRunning_pins (j : Job) (s : State) : (setRunning j s).pins = s.pins := rfl

@[simp] theorem setRunning_aon (j : Job) (s : State) : (setRunning j s).aon = s.aon := rfl

@[simp] theorem setRunning_pack (j : Job) (s : State) : (setRunning j s).pack = s.pack := rfl

@[simp] theorem setRunning_safety (j : Job) (s : State) : (setRunning j s).safety = s.safety := rfl

@[simp] theorem setRunning_jtag (j : Job) (s : State) : (setRunning j s).jtag = s.jtag := rfl

@[simp] theorem setRunning_core (j : Job) (s : State) : (setRunning j s).core = s.core := rfl

@[simp] theorem setRunning_cart (j : Job) (s : State) : (setRunning j s).cart = s.cart := rfl

@[simp] theorem setRunning_keeper (j : Job) (s : State) : (setRunning j s).keeper = s.keeper := rfl

@[simp] theorem setRunning_clocks (j : Job) (s : State) : (setRunning j s).clocks = s.clocks := rfl

@[simp] theorem setRunning_mem (j : Job) (s : State) : (setRunning j s).mem = s.mem := rfl

@[simp] theorem setRunning_binding (j : Job) (s : State) : (setRunning j s).binding = s.binding := rfl

@[simp] theorem setRunning_gather (j : Job) (s : State) : (setRunning j s).gather = s.gather := rfl

@[simp] theorem setRunning_codec (j : Job) (s : State) : (setRunning j s).codec = { s.codec with running := some j } := rfl

@[simp] theorem setRunning_pens (j : Job) (s : State) : (setRunning j s).pens = s.pens := rfl

@[simp] theorem setRunning_matrix (j : Job) (s : State) : (setRunning j s).matrix = s.matrix := rfl

@[simp] theorem setRunning_select (j : Job) (s : State) : (setRunning j s).select = s.select := rfl

@[simp] theorem setRunning_canvas (j : Job) (s : State) : (setRunning j s).canvas = s.canvas := rfl

@[simp] theorem setRunning_portA (j : Job) (s : State) : (setRunning j s).portA = s.portA := rfl

@[simp] theorem setRunning_portB (j : Job) (s : State) : (setRunning j s).portB = s.portB := rfl

@[simp] theorem setRunning_engine (j : Job) (s : State) : (setRunning j s).engine = s.engine := rfl

@[simp] theorem setRunning_bright (j : Job) (s : State) : (setRunning j s).bright = s.bright := rfl

@[simp] theorem setRunning_emit (j : Job) (s : State) : (setRunning j s).emit = s.emit := rfl

@[simp] theorem setRunning_lamp (j : Job) (s : State) : (setRunning j s).lamp = s.lamp := rfl

@[simp] theorem setRunning_yard (j : Job) (s : State) : (setRunning j s).yard = s.yard := rfl

@[simp] theorem setRunning_integrity (j : Job) (s : State) : (setRunning j s).integrity = s.integrity := rfl

@[simp] theorem setRunning_beacon (j : Job) (s : State) : (setRunning j s).beacon = s.beacon := rfl

@[simp] theorem setRunning_free (j : Job) (s : State) : (setRunning j s).free = s.free := rfl

@[simp] theorem setRunning_pending (j : Job) (s : State) : (setRunning j s).pending = s.pending := rfl

/-! `setRecovery`. -/

@[simp] theorem setRecovery_fuses (r q : Option Nat) (s : State) : (setRecovery r q s).fuses = s.fuses := rfl

@[simp] theorem setRecovery_supply (r q : Option Nat) (s : State) : (setRecovery r q s).supply = s.supply := rfl

@[simp] theorem setRecovery_pins (r q : Option Nat) (s : State) : (setRecovery r q s).pins = s.pins := rfl

@[simp] theorem setRecovery_aon (r q : Option Nat) (s : State) : (setRecovery r q s).aon = s.aon := rfl

@[simp] theorem setRecovery_pack (r q : Option Nat) (s : State) : (setRecovery r q s).pack = s.pack := rfl

@[simp] theorem setRecovery_safety (r q : Option Nat) (s : State) : (setRecovery r q s).safety = s.safety := rfl

@[simp] theorem setRecovery_jtag (r q : Option Nat) (s : State) : (setRecovery r q s).jtag = s.jtag := rfl

@[simp] theorem setRecovery_core (r q : Option Nat) (s : State) : (setRecovery r q s).core = s.core := rfl

@[simp] theorem setRecovery_cart (r q : Option Nat) (s : State) : (setRecovery r q s).cart = s.cart := rfl

@[simp] theorem setRecovery_keeper (r q : Option Nat) (s : State) : (setRecovery r q s).keeper = { s.keeper with recovery := r, readRecovery := q } := rfl

@[simp] theorem setRecovery_clocks (r q : Option Nat) (s : State) : (setRecovery r q s).clocks = s.clocks := rfl

@[simp] theorem setRecovery_mem (r q : Option Nat) (s : State) : (setRecovery r q s).mem = s.mem := rfl

@[simp] theorem setRecovery_binding (r q : Option Nat) (s : State) : (setRecovery r q s).binding = s.binding := rfl

@[simp] theorem setRecovery_gather (r q : Option Nat) (s : State) : (setRecovery r q s).gather = s.gather := rfl

@[simp] theorem setRecovery_codec (r q : Option Nat) (s : State) : (setRecovery r q s).codec = s.codec := rfl

@[simp] theorem setRecovery_pens (r q : Option Nat) (s : State) : (setRecovery r q s).pens = s.pens := rfl

@[simp] theorem setRecovery_matrix (r q : Option Nat) (s : State) : (setRecovery r q s).matrix = s.matrix := rfl

@[simp] theorem setRecovery_select (r q : Option Nat) (s : State) : (setRecovery r q s).select = s.select := rfl

@[simp] theorem setRecovery_canvas (r q : Option Nat) (s : State) : (setRecovery r q s).canvas = s.canvas := rfl

@[simp] theorem setRecovery_portA (r q : Option Nat) (s : State) : (setRecovery r q s).portA = s.portA := rfl

@[simp] theorem setRecovery_portB (r q : Option Nat) (s : State) : (setRecovery r q s).portB = s.portB := rfl

@[simp] theorem setRecovery_engine (r q : Option Nat) (s : State) : (setRecovery r q s).engine = s.engine := rfl

@[simp] theorem setRecovery_bright (r q : Option Nat) (s : State) : (setRecovery r q s).bright = s.bright := rfl

@[simp] theorem setRecovery_emit (r q : Option Nat) (s : State) : (setRecovery r q s).emit = s.emit := rfl

@[simp] theorem setRecovery_lamp (r q : Option Nat) (s : State) : (setRecovery r q s).lamp = s.lamp := rfl

@[simp] theorem setRecovery_yard (r q : Option Nat) (s : State) : (setRecovery r q s).yard = s.yard := rfl

@[simp] theorem setRecovery_integrity (r q : Option Nat) (s : State) : (setRecovery r q s).integrity = s.integrity := rfl

@[simp] theorem setRecovery_beacon (r q : Option Nat) (s : State) : (setRecovery r q s).beacon = s.beacon := rfl

@[simp] theorem setRecovery_free (r q : Option Nat) (s : State) : (setRecovery r q s).free = s.free := rfl

@[simp] theorem setRecovery_pending (r q : Option Nat) (s : State) : (setRecovery r q s).pending = s.pending := rfl

/-! `endLock`. -/

@[simp] theorem endLock_fuses (k : Nat) (s : State) : (endLock k s).fuses = s.fuses := rfl

@[simp] theorem endLock_supply (k : Nat) (s : State) : (endLock k s).supply = s.supply := rfl

@[simp] theorem endLock_pins (k : Nat) (s : State) : (endLock k s).pins = s.pins := rfl

@[simp] theorem endLock_aon (k : Nat) (s : State) : (endLock k s).aon = s.aon := rfl

@[simp] theorem endLock_pack (k : Nat) (s : State) : (endLock k s).pack = s.pack := rfl

@[simp] theorem endLock_safety (k : Nat) (s : State) : (endLock k s).safety = s.safety := rfl

@[simp] theorem endLock_jtag (k : Nat) (s : State) : (endLock k s).jtag = s.jtag := rfl

@[simp] theorem endLock_core (k : Nat) (s : State) : (endLock k s).core = s.core := rfl

@[simp] theorem endLock_cart (k : Nat) (s : State) : (endLock k s).cart = s.cart := rfl

@[simp] theorem endLock_keeper (k : Nat) (s : State) : (endLock k s).keeper = s.keeper := rfl

@[simp] theorem endLock_clocks (k : Nat) (s : State) : (endLock k s).clocks = s.clocks := rfl

@[simp] theorem endLock_mem (k : Nat) (s : State) : (endLock k s).mem = s.mem := rfl

@[simp] theorem endLock_binding (k : Nat) (s : State) : (endLock k s).binding = s.binding := rfl

@[simp] theorem endLock_gather (k : Nat) (s : State) : (endLock k s).gather = s.gather := rfl

@[simp] theorem endLock_codec (k : Nat) (s : State) : (endLock k s).codec = s.codec := rfl

@[simp] theorem endLock_pens (k : Nat) (s : State) : (endLock k s).pens = s.pens := rfl

@[simp] theorem endLock_select (k : Nat) (s : State) : (endLock k s).select = s.select := rfl

@[simp] theorem endLock_canvas (k : Nat) (s : State) : (endLock k s).canvas = s.canvas := rfl

@[simp] theorem endLock_portA (k : Nat) (s : State) : (endLock k s).portA = s.portA := rfl

@[simp] theorem endLock_portB (k : Nat) (s : State) : (endLock k s).portB = s.portB := rfl

@[simp] theorem endLock_engine (k : Nat) (s : State) : (endLock k s).engine = s.engine := rfl

@[simp] theorem endLock_bright (k : Nat) (s : State) : (endLock k s).bright = s.bright := rfl

@[simp] theorem endLock_emit (k : Nat) (s : State) : (endLock k s).emit = s.emit := rfl

@[simp] theorem endLock_lamp (k : Nat) (s : State) : (endLock k s).lamp = s.lamp := rfl

@[simp] theorem endLock_yard (k : Nat) (s : State) : (endLock k s).yard = s.yard := rfl

@[simp] theorem endLock_integrity (k : Nat) (s : State) : (endLock k s).integrity = s.integrity := rfl

@[simp] theorem endLock_beacon (k : Nat) (s : State) : (endLock k s).beacon = s.beacon := rfl

@[simp] theorem endLock_free (k : Nat) (s : State) : (endLock k s).free = s.free := rfl

@[simp] theorem endLock_pending (k : Nat) (s : State) : (endLock k s).pending = s.pending := rfl

/-! `countStrobe`. -/

@[simp] theorem countStrobe_fuses (s : State) : (countStrobe s).fuses = s.fuses := rfl

@[simp] theorem countStrobe_supply (s : State) : (countStrobe s).supply = s.supply := rfl

@[simp] theorem countStrobe_pins (s : State) : (countStrobe s).pins = s.pins := rfl

@[simp] theorem countStrobe_aon (s : State) : (countStrobe s).aon = s.aon := rfl

@[simp] theorem countStrobe_pack (s : State) : (countStrobe s).pack = s.pack := rfl

@[simp] theorem countStrobe_safety (s : State) : (countStrobe s).safety = s.safety := rfl

@[simp] theorem countStrobe_jtag (s : State) : (countStrobe s).jtag = s.jtag := rfl

@[simp] theorem countStrobe_core (s : State) : (countStrobe s).core = s.core := rfl

@[simp] theorem countStrobe_cart (s : State) : (countStrobe s).cart = s.cart := rfl

@[simp] theorem countStrobe_keeper (s : State) : (countStrobe s).keeper = s.keeper := rfl

@[simp] theorem countStrobe_clocks (s : State) : (countStrobe s).clocks = s.clocks := rfl

@[simp] theorem countStrobe_mem (s : State) : (countStrobe s).mem = s.mem := rfl

@[simp] theorem countStrobe_binding (s : State) : (countStrobe s).binding = s.binding := rfl

@[simp] theorem countStrobe_gather (s : State) : (countStrobe s).gather = s.gather := rfl

@[simp] theorem countStrobe_codec (s : State) : (countStrobe s).codec = s.codec := rfl

@[simp] theorem countStrobe_pens (s : State) : (countStrobe s).pens = s.pens := rfl

@[simp] theorem countStrobe_matrix (s : State) : (countStrobe s).matrix = s.matrix := rfl

@[simp] theorem countStrobe_select (s : State) : (countStrobe s).select = s.select := rfl

@[simp] theorem countStrobe_canvas (s : State) : (countStrobe s).canvas = s.canvas := rfl

@[simp] theorem countStrobe_portA (s : State) : (countStrobe s).portA = s.portA := rfl

@[simp] theorem countStrobe_portB (s : State) : (countStrobe s).portB = s.portB := rfl

@[simp] theorem countStrobe_engine (s : State) : (countStrobe s).engine = s.engine := rfl

@[simp] theorem countStrobe_bright (s : State) : (countStrobe s).bright = s.bright := rfl

@[simp] theorem countStrobe_emit (s : State) : (countStrobe s).emit = s.emit := rfl

@[simp] theorem countStrobe_lamp (s : State) : (countStrobe s).lamp = s.lamp := rfl

@[simp] theorem countStrobe_yard (s : State) : (countStrobe s).yard = s.yard := rfl

@[simp] theorem countStrobe_integrity (s : State) : (countStrobe s).integrity = s.integrity := rfl

@[simp] theorem countStrobe_free (s : State) : (countStrobe s).free = s.free := rfl

@[simp] theorem countStrobe_pending (s : State) : (countStrobe s).pending = s.pending := rfl

end Sys2Proof.Laws
end

