-- ==== Sys2Proof/Laws/Parts.lean ====
section
/-! SUPPORT. The parts that an operation leaves alone, by name. -/

namespace Sys2Proof.Laws

open Sys2Proof Machine

theorem Eff.fuses_eq {l : List Part} {s t : State} (h : Eff l s t) (hl : l.contains .fuses = false) : t.fuses = s.fuses :=
  changesOnly_part h.frame .fuses hl

theorem Eff.supply_eq {l : List Part} {s t : State} (h : Eff l s t) (hl : l.contains .supply = false) : t.supply = s.supply :=
  changesOnly_part h.frame .supply hl

theorem Eff.pins_eq {l : List Part} {s t : State} (h : Eff l s t) (hl : l.contains .pins = false) : t.pins = s.pins :=
  changesOnly_part h.frame .pins hl

theorem Eff.aon_eq {l : List Part} {s t : State} (h : Eff l s t) (hl : l.contains .aon = false) : t.aon = s.aon :=
  changesOnly_part h.frame .aon hl

theorem Eff.pack_eq {l : List Part} {s t : State} (h : Eff l s t) (hl : l.contains .pack = false) : t.pack = s.pack :=
  changesOnly_part h.frame .pack hl

theorem Eff.safety_eq {l : List Part} {s t : State} (h : Eff l s t) (hl : l.contains .safety = false) : t.safety = s.safety :=
  changesOnly_part h.frame .safety hl

theorem Eff.jtag_eq {l : List Part} {s t : State} (h : Eff l s t) (hl : l.contains .jtag = false) : t.jtag = s.jtag :=
  changesOnly_part h.frame .jtag hl

theorem Eff.core_eq {l : List Part} {s t : State} (h : Eff l s t) (hl : l.contains .core = false) : t.core = s.core :=
  changesOnly_part h.frame .core hl

theorem Eff.cart_eq {l : List Part} {s t : State} (h : Eff l s t) (hl : l.contains .cart = false) : t.cart = s.cart :=
  changesOnly_part h.frame .cart hl

theorem Eff.keeper_eq {l : List Part} {s t : State} (h : Eff l s t) (hl : l.contains .keeper = false) : t.keeper = s.keeper :=
  changesOnly_part h.frame .keeper hl

theorem Eff.clocks_eq {l : List Part} {s t : State} (h : Eff l s t) (hl : l.contains .clocks = false) : t.clocks = s.clocks :=
  changesOnly_part h.frame .clocks hl

theorem Eff.mem_eq {l : List Part} {s t : State} (h : Eff l s t) (hl : l.contains .mem = false) : t.mem = s.mem :=
  changesOnly_part h.frame .mem hl

theorem Eff.binding_eq {l : List Part} {s t : State} (h : Eff l s t) (hl : l.contains .binding = false) : t.binding = s.binding :=
  changesOnly_part h.frame .binding hl

theorem Eff.gather_eq {l : List Part} {s t : State} (h : Eff l s t) (hl : l.contains .gather = false) : t.gather = s.gather :=
  changesOnly_part h.frame .gather hl

theorem Eff.codec_eq {l : List Part} {s t : State} (h : Eff l s t) (hl : l.contains .codec = false) : t.codec = s.codec :=
  changesOnly_part h.frame .codec hl

theorem Eff.pens_eq {l : List Part} {s t : State} (h : Eff l s t) (hl : l.contains .pens = false) : t.pens = s.pens :=
  changesOnly_part h.frame .pens hl

theorem Eff.matrix_eq {l : List Part} {s t : State} (h : Eff l s t) (hl : l.contains .matrix = false) : t.matrix = s.matrix :=
  changesOnly_part h.frame .matrix hl

theorem Eff.select_eq {l : List Part} {s t : State} (h : Eff l s t) (hl : l.contains .select = false) : t.select = s.select :=
  changesOnly_part h.frame .select hl

theorem Eff.canvas_eq {l : List Part} {s t : State} (h : Eff l s t) (hl : l.contains .canvas = false) : t.canvas = s.canvas :=
  changesOnly_part h.frame .canvas hl

theorem Eff.portA_eq {l : List Part} {s t : State} (h : Eff l s t) (hl : l.contains .portA = false) : t.portA = s.portA :=
  changesOnly_part h.frame .portA hl

theorem Eff.portB_eq {l : List Part} {s t : State} (h : Eff l s t) (hl : l.contains .portB = false) : t.portB = s.portB :=
  changesOnly_part h.frame .portB hl

theorem Eff.engine_eq {l : List Part} {s t : State} (h : Eff l s t) (hl : l.contains .engine = false) : t.engine = s.engine :=
  changesOnly_part h.frame .engine hl

theorem Eff.bright_eq {l : List Part} {s t : State} (h : Eff l s t) (hl : l.contains .bright = false) : t.bright = s.bright :=
  changesOnly_part h.frame .bright hl

theorem Eff.emit_eq {l : List Part} {s t : State} (h : Eff l s t) (hl : l.contains .emit = false) : t.emit = s.emit :=
  changesOnly_part h.frame .emit hl

theorem Eff.lamp_eq {l : List Part} {s t : State} (h : Eff l s t) (hl : l.contains .lamp = false) : t.lamp = s.lamp :=
  changesOnly_part h.frame .lamp hl

theorem Eff.yard_eq {l : List Part} {s t : State} (h : Eff l s t) (hl : l.contains .yard = false) : t.yard = s.yard :=
  changesOnly_part h.frame .yard hl

theorem Eff.integrity_eq {l : List Part} {s t : State} (h : Eff l s t) (hl : l.contains .integrity = false) : t.integrity = s.integrity :=
  changesOnly_part h.frame .integrity hl

theorem Eff.beacon_eq {l : List Part} {s t : State} (h : Eff l s t) (hl : l.contains .beacon = false) : t.beacon = s.beacon :=
  changesOnly_part h.frame .beacon hl

theorem Eff.free_eq {l : List Part} {s t : State} (h : Eff l s t) (hl : l.contains .free = false) : t.free = s.free :=
  changesOnly_part h.frame .free hl

theorem Eff.pending_eq {l : List Part} {s t : State} (h : Eff l s t) (hl : l.contains .pending = false) : t.pending = s.pending :=
  changesOnly_part h.frame .pending hl

end Sys2Proof.Laws
end

