-- ==== Sys2Proof/Laws/Outcomes.lean ====
section
/-! SUPPORT. What the operations that the commands share come to: every command's and step's effect, events reported, light put
out, ports coasting, domains. -/

namespace Sys2Proof.Laws

open Sys2Proof Machine

/-- A property of both branches holds of the choice. -/
theorem ite_pred {P : State → Prop} {c : Prop} [Decidable c] {t u : State} (h : P t) (k : P u) : P (if c then t else u) := by
  split
  · exact h
  · exact k

/-- What every command may do: the parts it changes, and the three invariants it keeps. -/
theorem exec_eff (c : Instr) (s : State) : ∃ t, exec c s = .next t ∧ Eff (touches c) s t := by
  cases c
  case vinValid => exact execVinValid_eff s
  case aonUp => exact execAonUp_eff s
  case vinInvalid => exact execVinInvalid_eff s
  case vddioHValid level33 => exact execVddioHValid_eff level33 s
  case vddioHInvalid => exact execVddioHInvalid_eff s
  case vddioMValid level33 => exact execVddioMValid_eff level33 s
  case vddioMInvalid => exact execVddioMInvalid_eff s
  case memSupplyTimeout => exact execMemSupplyTimeout_eff s
  case vmirLow => exact execVmirLow_eff s
  case vmirRestored => exact execVmirRestored_eff s
  case rstNAssert lowNs => exact execRstNAssert_eff lowNs s
  case coreRelease pins => exact execCoreRelease_eff pins s
  case pllLocked crystalHz refinHz => exact execPllLocked_eff crystalHz refinHz s
  case keeperRestart => exact execKeeperRestart_eff s
  case codePass r => exact execCodePass_eff r s
  case codeChanged ball => exact execCodeChanged_eff ball s
  case codeSafeChange => exact execCodeSafeChange_eff s
  case packPresent => exact execPackPresent_eff s
  case packRemoved => exact execPackRemoved_eff s
  case packRetryExpired => exact execPackRetryExpired_eff s
  case packTFault => exact execPackTFault_eff s
  case scheme3Frame idleUs segs => exact execScheme3Frame_eff idleUs segs s
  case packS3WaitExpired => exact execPackS3WaitExpired_eff s
  case packSilent => exact execPackSilent_eff s
  case cartRemoved byDet => exact execCartRemoved_eff byDet s
  case cartPresenceNoted => exact execCartPresenceNoted_eff s
  case cartRetryExpired => exact execCartRetryExpired_eff s
  case pdCrossCheck p r => exact execPdCrossCheck_eff p r s
  case keeperHeartbeatSample beats cvsToggling => exact execKeeperHeartbeatSample_eff beats cvsToggling s
  case domainRestart d => exact execDomainRestart_eff d s
  case pllLockLost d => exact execPllLockLost_eff d s
  case driftWindowEnd refs ring aon => exact execDriftWindowEnd_eff refs ring aon s
  case refLost => exact execRefLost_eff s
  case refReturn => exact execRefReturn_eff s
  case vrefCheck other bandgap safeRef => exact execVrefCheck_eff other bandgap safeRef s
  case flashResetEnd => exact execFlashResetEnd_eff s
  case bindingReadStart => exact execBindingReadStart_eff s
  case memReadDone r => exact execMemReadDone_eff r s
  case dqsTimeout => exact execDqsTimeout_eff s
  case holdRequest e => exact execHoldRequest_eff e s
  case holdRelease => exact execHoldRelease_eff s
  case statusPoll wip => exact execStatusPoll_eff wip s
  case memBusy => exact execMemBusy_eff s
  case holdLong => exact execHoldLong_eff s
  case lampOnlyServiceStart => exact execLampOnlyServiceStart_eff s
  case gatheringOpen lowNs => exact execGatheringOpen_eff lowNs s
  case gatheringCancel highNs => exact execGatheringCancel_eff highNs s
  case gatheringTimeout => exact execGatheringTimeout_eff s
  case stitchRequest highNs => exact execStitchRequest_eff highNs s
  case stitchValidated => exact execStitchValidated_eff s
  case stitchDecodeDone => exact execStitchDecodeDone_eff s
  case decodeLimitExpired => exact execDecodeLimitExpired_eff s
  case sItemConverged e => exact execSItemConverged_eff e s
  case bridgeLimitExpired => exact execBridgeLimitExpired_eff s
  case restoreRetry => exact execRestoreRetry_eff s
  case abort e => exact execAbort_eff e s
  case abortComplete => exact execAbortComplete_eff s
  case abortRelease => exact execAbortRelease_eff s
  case leafJobStart header => exact execLeafJobStart_eff header s
  case leafJobEnd data trailer readOk => exact execLeafJobEnd_eff data trailer readOk s
  case calibrationLoadDone block trailer readOk => exact execCalibrationLoadDone_eff block trailer readOk s
  case canvasJobEnd => exact execCanvasJobEnd_eff s
  case penFreed pen => exact execPenFreed_eff pen s
  case arbiterDecision target levels reqs => exact execArbiterDecision_eff target levels reqs s
  case lockUnlock target => exact execLockUnlock_eff target s
  case lockError target breach master lane => exact execLockError_eff target breach master lane s
  case patternSelect psel highNs => exact execPatternSelect_eff psel highNs s
  case latchPoint p => exact execLatchPoint_eff p s
  case frameBoundary p => exact execFrameBoundary_eff p s
  case renderLine p lag moves missing => exact execRenderLine_eff p lag moves missing s
  case composeStaleLine p => exact execComposeStaleLine_eff p s
  case wheelLate p => exact execWheelLate_eff p s
  case ringCleared p => exact execRingCleared_eff p s
  case timelineValid p => exact execTimelineValid_eff p s
  case dllLockLost channel => exact execDllLockLost_eff channel s
  case canvasFrame periods => exact execCanvasFrame_eff periods s
  case canvasFrameStalled periods => exact execCanvasFrameStalled_eff periods s
  case liveStale p => exact execLiveStale_eff p s
  case mirrorStart p => exact execMirrorStart_eff p s
  case mirrorCheckDone p commonMv => exact execMirrorCheckDone_eff p commonMv s
  case kickEnd p => exact execKickEnd_eff p s
  case ringDone p milliHz amp => exact execRingDone_eff p milliHz amp s
  case portLocked e => exact execPortLocked_eff e s
  case mirrorStartTimeout p => exact execMirrorStartTimeout_eff p s
  case mirrorFault p f => exact execMirrorFault_eff p f s
  case portRestart p => exact execPortRestart_eff p s
  case scheduleFrame inputs => exact execScheduleFrame_eff inputs s
  case manualChange low => exact execManualChange_eff low s
  case encoderEdge a b => exact execEncoderEdge_eff a b s
  case encZIndex => exact execEncZIndex_eff s
  case brightEdge rising ticks => exact execBrightEdge_eff rising ticks s
  case brightAnalogueTimeout => exact execBrightAnalogueTimeout_eff s
  case pdWindowEnd samples runs => exact execPdWindowEnd_eff samples runs s
  case pdMeasurementAged channel => exact execPdMeasurementAged_eff channel s
  case rowFrameStart codesReady => exact execRowFrameStart_eff codesReady s
  case probeSlotEnd row vlampMv sinkMv track => exact execProbeSlotEnd_eff row vlampMv sinkMv track s
  case sinkHot sink => exact execSinkHot_eff sink s
  case yardTick trig => exact execYardTick_eff trig s
  case killAssert => exact execKillAssert_eff s
  case killRelease heldMs => exact execKillRelease_eff heldMs s
  case safetyTrip cause e => exact execSafetyTrip_eff cause e s
  case scrubTick r => exact execScrubTick_eff r s
  case scrubWithdrawn => exact execScrubWithdrawn_eff s
  case beaconRecordTrigger frame => exact execBeaconRecordTrigger_eff frame s
  case beaconRecordSent => exact execBeaconRecordSent_eff s
  case faultPulseEnd => exact execFaultPulseEnd_eff s
  case jtagBypass tdi => exact execJtagBypass_eff tdi s
  case jtagIdcode => exact execJtagIdcode_eff s
  case jtagSamplePreload cells => exact execJtagSamplePreload_eff cells s
  case jtagExtest => exact execJtagExtest_eff s
  case stallFetch p e => exact execStallFetch_eff p e s
  case vddioHThresholdCrossed above => exact execVddioHThresholdCrossed_eff above s

/-- What every step may do. -/
theorem step_eff (s : State) : ∃ t l, step s = .next t ∧ Eff l { s with pending := s.pending.tail } t := by
  cases h : s.pending with
  | nil => exact ⟨s, [.pending], by simp [step, h], by rw [← h]; cases s; simp_all [List.tail]; exact Eff.refl _ _⟩
  | cons c r =>
    obtain ⟨t, h1, h2⟩ := exec_eff c { s with pending := r }
    exact ⟨t, _, by simp [step, h, h1], by simpa using h2⟩

/-- A report is found in the queue, or the queue is full. -/
theorem reportX_reported (c a j : Nat) (x : Option Nat) (s : State) : Reported c j (reportX c a j x s) := by
  unfold reportX
  dsimp only
  split
  · rename_i h
    obtain ⟨e, he, hc⟩ := List.any_eq_true.mp h
    exact Or.inl ⟨e, he, by simpa using hc⟩
  · by_cases hr : queuePlaces s.beacon.queue + entryPlaces { code := c, aux := a, subject := j, ext := x, number := s.beacon.nextEvent } ≤ 32
    · exact Or.inl ⟨{ code := c, aux := a, subject := j, ext := x, number := s.beacon.nextEvent }, by simp [hr], rfl, rfl⟩
    · right
      have : entryPlaces { code := c, aux := a, subject := j, ext := x, number := s.beacon.nextEvent } ≤ 2 := by
        unfold entryPlaces; split <;> omega
      simp only [hr]
      show 31 ≤ queuePlaces (if False then _ else s.beacon.queue)
      simp; omega

/-- A report is found in the queue, or the queue is full. -/
theorem report_reported (c a j : Nat) (s : State) : Reported c j (report c a j s) := reportX_reported c a j none s

/-- An event reported stays reported while the beacon stays. -/
theorem reported_of_eq {c j : Nat} {s t : State} (h : Reported c j s) (e : t.beacon = s.beacon) : Reported c j t := by
  unfold Reported; rw [e]; exact h

/-- A later report drops no event. -/
theorem reported_reportX {c j : Nat} {s : State} (h : Reported c j s) (c' a' j' : Nat) (x : Option Nat) : Reported c j (Machine.reportX c' a' j' x s) := by
  unfold Machine.reportX
  dsimp only
  split
  · exact h
  · rcases h with ⟨e, he, hc⟩ | h
    · left; refine ⟨e, ?_, hc⟩; dsimp only; split
      · exact List.mem_append_left _ he
      · exact he
    · right; dsimp only; split
      · rw [queuePlaces_append]; omega
      · exact h

/-- A later report drops no event. -/
theorem reported_report {c j : Nat} {s : State} (h : Reported c j s) (c' a' j' : Nat) : Reported c j (Machine.report c' a' j' s) :=
  reported_reportX h c' a' j' none

/-- A command that leaves the beacon alone keeps every event reported. -/
theorem reported_of_eff {c j : Nat} {s t : State} {l : List Part} (h : Reported c j s) (e : Eff l s t)
    (hl : l.contains .beacon = false) : Reported c j t := reported_of_eq h (e.beacon_eq hl)

/-- A report lights nothing. -/
theorem dark_reportX {s : State} (h : Dark s) (a b j : Nat) (x : Option Nat) : Dark (reportX a b j x s) := by
  unfold Dark at *; simpa using h

/-- What leaves the ports and the channels alone lights nothing. -/
theorem dark_of_eff {s t : State} {l : List Part} (h : Dark s) (e : Eff l s t) (ha : l.contains .portA = false) (hb : l.contains .portB = false) (he : l.contains .emit = false) : Dark t := by
  unfold Dark at *; rw [e.portA_eq ha, e.portB_eq hb, e.emit_eq he]; exact h

/-- Darkening leaves the trip latch alone. -/
theorem closeGates_darkAll_safety (s : State) : (closeGates (darkAllChannels s)).safety = s.safety := by
  rw [(closeGates_eff _).safety_eq rfl, (darkAllChannels_eff _).safety_eq rfl]

/-- 16 R389: a trip darkens every channel. -/
theorem trip_dark (c : TripCause) (n : Nat) (s : State) : Dark (trip c n s) := by
  have h0 : ∀ x : State, Dark (closeGates (darkAllChannels x)) := fun x => closeGates_dark x
  exact ite_pred (dark_reportX (ite_pred (dark_reportX (h0 _) _ _ _ _) (h0 _)) _ _ _ _) (ite_pred (dark_reportX (h0 _) _ _ _ _) (h0 _))

/-- 16 R389: a new cause is latched after the others. -/
theorem trip_causes (c : TripCause) (n : Nat) (s : State) (h : c ∉ s.safety.causes) : (trip c n s).safety.causes = s.safety.causes ++ [c] := by
  have h0 : ∀ a b, (closeGates (darkAllChannels { s with safety := { s.safety with
      causes := if (!s.safety.causes.contains c) then s.safety.causes ++ [c] else s.safety.causes, relock := a, tripInKill := b } })).safety.causes = s.safety.causes ++ [c] := by
    intro a b; rw [closeGates_darkAll_safety]
    have hn : (!s.safety.causes.contains c) = true := by simpa using h
    simp only [hn, if_true]
  have hr : ∀ a b j x (t : State), t.safety.causes = s.safety.causes ++ [c] → (reportX a b j x t).safety.causes = s.safety.causes ++ [c] :=
    fun a b j x t h => by rw [reportX_safety]; exact h
  exact ite_pred (P := fun t => t.safety.causes = s.safety.causes ++ [c]) (hr _ _ _ _ _ (ite_pred (P := fun t => t.safety.causes = s.safety.causes ++ [c]) (hr _ _ _ _ _ (h0 _ _)) (h0 _ _)))
    (ite_pred (P := fun t => t.safety.causes = s.safety.causes ++ [c]) (hr _ _ _ _ _ (h0 _ _)) (h0 _ _))

/-- 12 R279: what a coasting port is like. -/
def Coasted (t : State) (p : Port) : Prop :=
  ((portOf t p).phase = .off ∨ (portOf t p).phase = .coast) ∧ (portOf t p).raster = false ∧ (portOf t p).wheel.gate = false ∧
    (portOf t p).driveW = 0 ∧ (portOf t p).driveP = 0 ∧ (portOf t p).driveSlow = 0

/-- 12 R279: a coasting port's coils are shorted, but for the frames after a coil over-current and a part without `VIN`. -/
theorem Coasted.shorted {t : State} {p : Port} (h : Coasted t p) (hv : t.supply.vin = true) (hz : (portOf t p).coilZ = 0) :
    coilsShorted t p = true := by
  unfold coilsShorted
  rcases h.1 with k | k <;> simp [k, hv, hz]

/-- What follows the change of a port that stops leaves that change as it is. -/
theorem stopped_port (p : Port) (s : State) (f : PortState → PortState) :
    portOf (dropLivePens p (stopReading p (darkChannels p (updPort s p f)))) p = f (portOf s p) := by
  cases p <;> rfl

/-- 12 R279: a port told to coast is coasting. -/
theorem coastPort_coasted (p : Port) (s : State) : Coasted (coastPort p s) p := by
  unfold Coasted coastPort
  rw [stopped_port]
  have k : ∀ x : MirrorPhase, (if x == .off then MirrorPhase.off else .coast) = .off ∨
      (if x == .off then MirrorPhase.off else .coast) = .coast := fun x => by cases x <;> decide
  exact ⟨k _, rfl, rfl, rfl, rfl, rfl⟩

/-- The frames that an over-current's balls stay open go on. -/
theorem coastPort_coilZ (p : Port) (s : State) : (portOf (coastPort p s) p).coilZ = (portOf s p).coilZ := by
  unfold coastPort
  rw [stopped_port]
  cases p <;> (split <;> rfl)

/-- 12 R279: the other port is left alone. -/
theorem coastPort_other {p q : Port} (h : q ≠ p) (s : State) : portOf (coastPort p s) q = portOf s q := by
  have e : ∀ (s0 : State) f, portOf (dropLivePens p (stopReading p (darkChannels p (updPort s0 p f)))) q = portOf s0 q := by
    intro s0 f; cases p <;> cases q <;> first | rfl | exact absurd rfl h
  unfold coastPort
  rw [e]
  cases q <;> (split <;> rfl)

/-- A port coasts while it stays as it is. -/
theorem Coasted.of_eq {s t : State} {p : Port} (h : Coasted s p) (e : portOf t p = portOf s p) : Coasted t p := by
  unfold Coasted at *; rw [e]; exact h

/-- 12 R279: both ports coast. -/
theorem coastBoth_coasted (s : State) (p : Port) : Coasted (coastBoth s) p := by
  cases p
  · exact (coastPort_coasted .a s).of_eq (coastPort_other (by decide) _)
  · exact coastPort_coasted .b _

/-- What leaves the ports alone keeps a port coasting. -/
theorem Coasted.of_eff {s t : State} {l : List Part} {p : Port} (h : Coasted s p) (e : Eff l s t)
    (ha : l.contains .portA = false) (hb : l.contains .portB = false) : Coasted t p := by
  refine h.of_eq ?_
  cases p
  · exact e.portA_eq ha
  · exact e.portB_eq hb

/-- A coasting port darkens the channels it fires, and no other. -/
theorem coastPort_lasers (p : Port) (s : State) : (coastPort p s).emit.lasers = (darkChannels p s).emit.lasers := by
  unfold coastPort
  have e : ∀ (s0 : State) f, (dropLivePens p (stopReading p (darkChannels p (updPort s0 p f)))).emit.lasers = (darkChannels p s0).emit.lasers := by
    intro s0 f; cases p <;> rfl
  rw [e]; split <;> rfl

/-- With every channel off, both ports coasting leave the part dark. -/
theorem coastBoth_dark (s : State) (h : ∀ l ∈ s.emit.lasers, l.level = 0 ∧ l.code = 0) : Dark (coastBoth s) := by
  refine ⟨(coastBoth_coasted s .a).2.2.1, (coastBoth_coasted s .b).2.2.1, ?_⟩
  show ∀ l ∈ (coastPort .b (coastPort .a s)).emit.lasers, _
  rw [coastPort_lasers]
  refine darkChannels_keeps .b _ ?_
  rw [coastPort_lasers]
  exact darkChannels_keeps .a _ h

/-- A domain's state is what the update makes it. -/
theorem domainOf_upd (s : State) (d : Domain) (f : DomainState → DomainState) (h : s.keeper.domains.length = 9) : domainOf (updDomain s d f) d = f (domainOf s d) := by
  have : domainNum d < s.keeper.domains.length := by rw [h]; cases d <;> decide
  unfold domainOf updDomain modAt
  simp [this]

/-- An update of one domain leaves every other alone. -/
theorem domainOf_upd_other (s : State) {d e : Domain} (f : DomainState → DomainState) (h : e ≠ d) : domainOf (updDomain s d f) e = domainOf s e := by
  have hn : domainNum d ≠ domainNum e := by intro k; apply h; cases d <;> cases e <;> first | rfl | (exact absurd k (by decide))
  unfold domainOf updDomain modAt
  dsimp only
  split
  · simp [List.getD, List.getElem?_set_ne hn]
  · rfl

/-- An update keeps the number of domains. -/
theorem updDomain_length (s : State) (d : Domain) (f : DomainState → DomainState) : (updDomain s d f).keeper.domains.length = s.keeper.domains.length := by
  unfold updDomain modAt; dsimp only; split <;> simp

end Sys2Proof.Laws
end

