-- ==== Sys2Proof/Laws/PerInstr.lean ====
section
/-! SUPPORT. What holds of every command as a command: none of them is a way to write the fuses, and none has the queue of commands
among the parts it may change. -/

namespace Sys2Proof.Laws.KeepsFuses

/-- The parts a command may change hold neither the fuses nor the queue. -/
def Statement (i : Instr) : Prop := (touches i).contains .fuses = false ∧ (touches i).contains .pending = false

theorem vinValid : Statement .vinValid := ⟨rfl, rfl⟩
theorem aonUp : Statement .aonUp := ⟨rfl, rfl⟩
theorem vinInvalid : Statement .vinInvalid := ⟨rfl, rfl⟩
theorem vddioHValid : ∀ x, Statement (.vddioHValid x) := fun _ => ⟨rfl, rfl⟩
theorem vddioHInvalid : Statement .vddioHInvalid := ⟨rfl, rfl⟩
theorem vddioMValid : ∀ x, Statement (.vddioMValid x) := fun _ => ⟨rfl, rfl⟩
theorem vddioMInvalid : Statement .vddioMInvalid := ⟨rfl, rfl⟩
theorem memSupplyTimeout : Statement .memSupplyTimeout := ⟨rfl, rfl⟩
theorem vmirLow : Statement .vmirLow := ⟨rfl, rfl⟩
theorem vmirRestored : Statement .vmirRestored := ⟨rfl, rfl⟩
theorem rstNAssert : ∀ x, Statement (.rstNAssert x) := fun _ => ⟨rfl, rfl⟩
theorem coreRelease : ∀ x, Statement (.coreRelease x) := fun _ => ⟨rfl, rfl⟩
theorem pllLocked : ∀ x y, Statement (.pllLocked x y) := fun _ _ => ⟨rfl, rfl⟩
theorem keeperRestart : Statement .keeperRestart := ⟨rfl, rfl⟩
theorem codePass : ∀ x, Statement (.codePass x) := fun _ => ⟨rfl, rfl⟩
theorem codeChanged : ∀ x, Statement (.codeChanged x) := fun _ => ⟨rfl, rfl⟩
theorem codeSafeChange : Statement .codeSafeChange := ⟨rfl, rfl⟩
theorem packPresent : Statement .packPresent := ⟨rfl, rfl⟩
theorem packRemoved : Statement .packRemoved := ⟨rfl, rfl⟩
theorem packRetryExpired : Statement .packRetryExpired := ⟨rfl, rfl⟩
theorem packTFault : Statement .packTFault := ⟨rfl, rfl⟩
theorem scheme3Frame : ∀ x y, Statement (.scheme3Frame x y) := fun _ _ => ⟨rfl, rfl⟩
theorem packS3WaitExpired : Statement .packS3WaitExpired := ⟨rfl, rfl⟩
theorem packSilent : Statement .packSilent := ⟨rfl, rfl⟩
theorem cartRemoved : ∀ x, Statement (.cartRemoved x) := fun _ => ⟨rfl, rfl⟩
theorem cartPresenceNoted : Statement .cartPresenceNoted := ⟨rfl, rfl⟩
theorem cartRetryExpired : Statement .cartRetryExpired := ⟨rfl, rfl⟩
theorem pdCrossCheck : ∀ x y, Statement (.pdCrossCheck x y) := fun _ _ => ⟨rfl, rfl⟩
theorem keeperHeartbeatSample : ∀ x y, Statement (.keeperHeartbeatSample x y) := fun _ _ => ⟨rfl, rfl⟩
theorem domainRestart : ∀ x, Statement (.domainRestart x) := fun _ => ⟨rfl, rfl⟩
theorem pllLockLost : ∀ x, Statement (.pllLockLost x) := fun _ => ⟨rfl, rfl⟩
theorem driftWindowEnd : ∀ x y z, Statement (.driftWindowEnd x y z) := fun _ _ _ => ⟨rfl, rfl⟩
theorem refLost : Statement .refLost := ⟨rfl, rfl⟩
theorem refReturn : Statement .refReturn := ⟨rfl, rfl⟩
theorem vrefCheck : ∀ x y z, Statement (.vrefCheck x y z) := fun _ _ _ => ⟨rfl, rfl⟩
theorem flashResetEnd : Statement .flashResetEnd := ⟨rfl, rfl⟩
theorem bindingReadStart : Statement .bindingReadStart := ⟨rfl, rfl⟩
theorem memReadDone : ∀ x, Statement (.memReadDone x) := fun _ => ⟨rfl, rfl⟩
theorem dqsTimeout : Statement .dqsTimeout := ⟨rfl, rfl⟩
theorem holdRequest : ∀ x, Statement (.holdRequest x) := fun _ => ⟨rfl, rfl⟩
theorem holdRelease : Statement .holdRelease := ⟨rfl, rfl⟩
theorem statusPoll : ∀ x, Statement (.statusPoll x) := fun _ => ⟨rfl, rfl⟩
theorem memBusy : Statement .memBusy := ⟨rfl, rfl⟩
theorem holdLong : Statement .holdLong := ⟨rfl, rfl⟩
theorem lampOnlyServiceStart : Statement .lampOnlyServiceStart := ⟨rfl, rfl⟩
theorem gatheringOpen : ∀ x, Statement (.gatheringOpen x) := fun _ => ⟨rfl, rfl⟩
theorem gatheringCancel : ∀ x, Statement (.gatheringCancel x) := fun _ => ⟨rfl, rfl⟩
theorem gatheringTimeout : Statement .gatheringTimeout := ⟨rfl, rfl⟩
theorem stitchRequest : ∀ x, Statement (.stitchRequest x) := fun _ => ⟨rfl, rfl⟩
theorem stitchValidated : Statement .stitchValidated := ⟨rfl, rfl⟩
theorem stitchDecodeDone : Statement .stitchDecodeDone := ⟨rfl, rfl⟩
theorem decodeLimitExpired : Statement .decodeLimitExpired := ⟨rfl, rfl⟩
theorem sItemConverged : ∀ x, Statement (.sItemConverged x) := fun _ => ⟨rfl, rfl⟩
theorem bridgeLimitExpired : Statement .bridgeLimitExpired := ⟨rfl, rfl⟩
theorem restoreRetry : Statement .restoreRetry := ⟨rfl, rfl⟩
theorem abort : ∀ x, Statement (.abort x) := fun _ => ⟨rfl, rfl⟩
theorem abortComplete : Statement .abortComplete := ⟨rfl, rfl⟩
theorem abortRelease : Statement .abortRelease := ⟨rfl, rfl⟩
theorem leafJobStart : ∀ x, Statement (.leafJobStart x) := fun _ => ⟨rfl, rfl⟩
theorem leafJobEnd : ∀ x y z, Statement (.leafJobEnd x y z) := fun _ _ _ => ⟨rfl, rfl⟩
theorem calibrationLoadDone : ∀ x y z, Statement (.calibrationLoadDone x y z) := fun _ _ _ => ⟨rfl, rfl⟩
theorem canvasJobEnd : Statement .canvasJobEnd := ⟨rfl, rfl⟩
theorem penFreed : ∀ x, Statement (.penFreed x) := fun _ => ⟨rfl, rfl⟩
theorem arbiterDecision : ∀ x y z, Statement (.arbiterDecision x y z) := fun _ _ _ => ⟨rfl, rfl⟩
theorem lockUnlock : ∀ x, Statement (.lockUnlock x) := fun _ => ⟨rfl, rfl⟩
theorem lockError : ∀ x y z w, Statement (.lockError x y z w) := fun _ _ _ _ => ⟨rfl, rfl⟩
theorem patternSelect : ∀ x y, Statement (.patternSelect x y) := fun _ _ => ⟨rfl, rfl⟩
theorem latchPoint : ∀ x, Statement (.latchPoint x) := fun _ => ⟨rfl, rfl⟩
theorem frameBoundary : ∀ x, Statement (.frameBoundary x) := fun _ => ⟨rfl, rfl⟩
theorem renderLine : ∀ x y z w, Statement (.renderLine x y z w) := fun _ _ _ _ => ⟨rfl, rfl⟩
theorem composeStaleLine : ∀ x, Statement (.composeStaleLine x) := fun _ => ⟨rfl, rfl⟩
theorem wheelLate : ∀ x, Statement (.wheelLate x) := fun _ => ⟨rfl, rfl⟩
theorem ringCleared : ∀ x, Statement (.ringCleared x) := fun _ => ⟨rfl, rfl⟩
theorem timelineValid : ∀ x, Statement (.timelineValid x) := fun _ => ⟨rfl, rfl⟩
theorem dllLockLost : ∀ x, Statement (.dllLockLost x) := fun _ => ⟨rfl, rfl⟩
theorem canvasFrame : ∀ x, Statement (.canvasFrame x) := fun _ => ⟨rfl, rfl⟩
theorem canvasFrameStalled : ∀ x, Statement (.canvasFrameStalled x) := fun _ => ⟨rfl, rfl⟩
theorem liveStale : ∀ x, Statement (.liveStale x) := fun _ => ⟨rfl, rfl⟩
theorem mirrorStart : ∀ x, Statement (.mirrorStart x) := fun _ => ⟨rfl, rfl⟩
theorem mirrorCheckDone : ∀ x y, Statement (.mirrorCheckDone x y) := fun _ _ => ⟨rfl, rfl⟩
theorem kickEnd : ∀ x, Statement (.kickEnd x) := fun _ => ⟨rfl, rfl⟩
theorem ringDone : ∀ x y z, Statement (.ringDone x y z) := fun _ _ _ => ⟨rfl, rfl⟩
theorem portLocked : ∀ x, Statement (.portLocked x) := fun _ => ⟨rfl, rfl⟩
theorem mirrorStartTimeout : ∀ x, Statement (.mirrorStartTimeout x) := fun _ => ⟨rfl, rfl⟩
theorem mirrorFault : ∀ x y, Statement (.mirrorFault x y) := fun _ _ => ⟨rfl, rfl⟩
theorem portRestart : ∀ x, Statement (.portRestart x) := fun _ => ⟨rfl, rfl⟩
theorem scheduleFrame : ∀ x, Statement (.scheduleFrame x) := fun _ => ⟨rfl, rfl⟩
theorem manualChange : ∀ x, Statement (.manualChange x) := fun _ => ⟨rfl, rfl⟩
theorem encoderEdge : ∀ x y, Statement (.encoderEdge x y) := fun _ _ => ⟨rfl, rfl⟩
theorem encZIndex : Statement .encZIndex := ⟨rfl, rfl⟩
theorem brightEdge : ∀ x y, Statement (.brightEdge x y) := fun _ _ => ⟨rfl, rfl⟩
theorem brightAnalogueTimeout : Statement .brightAnalogueTimeout := ⟨rfl, rfl⟩
theorem pdWindowEnd : ∀ x y, Statement (.pdWindowEnd x y) := fun _ _ => ⟨rfl, rfl⟩
theorem pdMeasurementAged : ∀ x, Statement (.pdMeasurementAged x) := fun _ => ⟨rfl, rfl⟩
theorem rowFrameStart : ∀ x, Statement (.rowFrameStart x) := fun _ => ⟨rfl, rfl⟩
theorem probeSlotEnd : ∀ x y z w, Statement (.probeSlotEnd x y z w) := fun _ _ _ _ => ⟨rfl, rfl⟩
theorem sinkHot : ∀ x, Statement (.sinkHot x) := fun _ => ⟨rfl, rfl⟩
theorem yardTick : ∀ x, Statement (.yardTick x) := fun _ => ⟨rfl, rfl⟩
theorem killAssert : Statement .killAssert := ⟨rfl, rfl⟩
theorem killRelease : ∀ x, Statement (.killRelease x) := fun _ => ⟨rfl, rfl⟩
theorem safetyTrip : ∀ x y, Statement (.safetyTrip x y) := fun _ _ => ⟨rfl, rfl⟩
theorem scrubTick : ∀ x, Statement (.scrubTick x) := fun _ => ⟨rfl, rfl⟩
theorem scrubWithdrawn : Statement .scrubWithdrawn := ⟨rfl, rfl⟩
theorem beaconRecordTrigger : ∀ x, Statement (.beaconRecordTrigger x) := fun _ => ⟨rfl, rfl⟩
theorem beaconRecordSent : Statement .beaconRecordSent := ⟨rfl, rfl⟩
theorem faultPulseEnd : Statement .faultPulseEnd := ⟨rfl, rfl⟩
theorem jtagBypass : ∀ x, Statement (.jtagBypass x) := fun _ => ⟨rfl, rfl⟩
theorem jtagIdcode : Statement .jtagIdcode := ⟨rfl, rfl⟩
theorem jtagSamplePreload : ∀ x, Statement (.jtagSamplePreload x) := fun _ => ⟨rfl, rfl⟩
theorem jtagExtest : Statement .jtagExtest := ⟨rfl, rfl⟩
theorem stallFetch : ∀ x y, Statement (.stallFetch x y) := fun _ _ => ⟨rfl, rfl⟩
theorem vddioHThresholdCrossed : ∀ x, Statement (.vddioHThresholdCrossed x) := fun _ => ⟨rfl, rfl⟩

end Sys2Proof.Laws.KeepsFuses
end

