-- ==== Sys2Proof/WellFormed.lean ====
section
/-! DEFINITION. The operands that the part's inputs can deliver: a command outside these bounds stands for no event of the
part. The bounds are the widths and counts that the manual gives the inputs. -/

namespace Sys2Proof

/-- The four conversions of a slot, each of ten bits (R42). -/
def wfSlot (r : List Nat) : Bool := r.length == 4 && r.all (· < 1024)

def wfPass (r : PassReadings) : Bool :=
  wfSlot r.toolH && wfSlot r.toolL && wfSlot r.lamp && wfSlot r.clk && wfSlot r.beacon && wfSlot r.safe &&
    wfSlot r.cart && wfSlot r.packId && wfSlot r.packT && r.vpackMv ≤ 48000

def wfSItem : SItem → Bool
  | .setPoint slot => slot < 48
  | _ => true

/-- One of the four laser channels. -/
def wfChannel (c : Nat) : Bool := c < 4

/-- A tag trailer is empty or 16 bytes long (R137). -/
def wfTrailer (t : List Byte) : Bool := t.length == 0 || t.length == 16

/-- A transaction (R217, R218): its beats are the payload of a write, with 16 strobes each. -/
def wfReq (r : MatrixReq) : Bool :=
  r.master < 8 && r.addr < 2 ^ 32 && r.id < 16 && r.strobes.all (· < 2 ^ 16) && r.payload.all (· < 2 ^ 128) && r.payload.length ≤ r.beats

/-- The four sense inputs of a port, in mV. -/
def wfCommon (l : List Nat) : Bool := l.length == 4

/-- A mirror fault's readings come from 12-bit converters (Table 12-1). -/
def wfFault : MirrorFault → Bool
  | .fastStall _ amps => amps.all (· < 4096)
  | .overExcursion amps _ => amps.all (· < 4096)
  | _ => true

/-- The buffers of Table 9-4 hold 512, 512, 128 and 32 beats. -/
def wfLevels (l : MatrixLevels) : Bool := l.scanA ≤ 512 && l.scanB ≤ 512 && l.lampFill ≤ 128 && l.canvasFill ≤ 32

def wfPdSample (p : PdSample) : Bool := p.lit.all wfChannel && p.level < 4096 && p.rawA < 4096 && p.rawB < 4096

/-- A command whose operands lie within the part's inputs. -/
def wf : Instr → Bool
  | .codePass r => wfPass r
  | .pdCrossCheck _ r => r.probeA.length == 4 && r.probeB.length == 4
  | .keeperHeartbeatSample beats _ => beats.length == 9
  | .sItemConverged e => wfSItem e.item
  | .leafJobStart header => header.length ≤ 16
  | .leafJobEnd _ trailer _ => wfTrailer trailer
  | .calibrationLoadDone block trailer _ => block.length == 192 && wfTrailer trailer
  | .arbiterDecision target levels reqs => target < 8 && wfLevels levels && reqs.all wfReq
  | .lockUnlock target => target < 6
  | .lockError target _ master _ => target < 8 && master < 8
  | .renderLine _ lag _ _ => lag ≤ 7
  | .dllLockLost (some c) => wfChannel c
  | .mirrorCheckDone _ commonMv => wfCommon commonMv
  | .mirrorFault _ f => wfFault f
  | .portLocked e => e.segs.all fun r => r.amp < 4096
  | .scheduleFrame i => i.comparisons.all fun e => wfChannel e.1
  | .stallFetch _ e => e.flips.all fun f => wfChannel f.1 && f.2 < 2 ^ 20
  | .pdWindowEnd samples runs => samples.all wfPdSample && runs.all fun r => wfChannel r.channel
  | .pdMeasurementAged channel => wfChannel channel
  | .canvasFrame periods | .canvasFrameStalled periods => periods.all fun e => e.rise < 16 && e.fall < 16
  | .probeSlotEnd row _ sinkMv track => row < 64 && sinkMv.length == 32 && track.all fun t => t.1 < 32
  | .sinkHot sink => sink < 32
  | _ => true

end Sys2Proof
end

