-- ==== Sys2Proof/Tests/Slice0.lean ====
section
/-! SUPPORT. Small tests: operands that the check refuses, values that the manual works out, and, for each statement with
hypotheses, states and operands that meet them. -/

namespace Sys2Proof.Tests

open Sys2Proof Machine

set_option Elab.async false

/-- The next state of a command. -/
def next (o : Out) : State := match o with | .next t => t | _ => {}

/-- Bytes, least significant first. -/
def le2 (n : Nat) : List Byte := leBytes 2 n
def le4 (n : Nat) : List Byte := leBytes 4 n
def zerosOf (n : Nat) : List Byte := List.replicate n 0#8

/-- A powered part with its core held in reset: the moment before a release. -/
def held : State :=
  { State.reset with
    supply := { vin := true, aonUp := true, ringH := true, ringHAbove := true, ringM := true, vmir := true }
    pins := { State.reset.pins with killLow := false }
    aon := { State.reset.aon with passes := 2 } }

/-- The core runs, its PLLs are not locked and the bus is its own. -/
def woken : State :=
  { held with core := { held.core with inReset := false }, mem := { held.mem with ackLow := false } }

/-- The PLLs are locked, the flash is reset, the folios of the built-in endpaper are in force. -/
def ready1 : State :=
  { woken with
    core := { woken.core with plls := true, folios := true }
    mem := { woken.mem with flashReset := .done } }

/-- Lamp-only service. -/
def served : State := { ready1 with core := { ready1.core with service := true } }

/-- `PATTERN` with the entries 0 and 1 in use, entry 1 with a guide leaf 0 for port A. -/
def patternBytes : List Byte :=
  zerosOf 512 ++ (le2 65535 ++ le2 65535 ++ le2 65535 ++ le2 65535 ++ [1#8] ++ zerosOf 91) ++
    (le2 0 ++ le2 65535 ++ le2 65535 ++ le2 65535 ++ [1#8] ++ zerosOf 91)

/-- `EMIT` with every channel on port A. -/
def emitBytes : List Byte := [1#8, 1#8, 1#8, 1#8] ++ zerosOf 16 ++ [5#8, 20#8] ++ le2 512 ++ le2 16 ++ [15#8, 40#8]

/-- A leaf table with one guide leaf. -/
def oneLeaf : List LeafEntry := [{ offset := 4096, length := 64, crc := 7, kind := 0 }]

/-- A signature for one port. -/
def sig : Settings :=
  { origin := .signature, tool := 0x12, gen := 3, folios := [(16, emitBytes), (24, patternBytes)], leaves := oneLeaf }

/-- A section of Table 12-5 for a scanner at 27 kHz. -/
def mirrorCal : List Byte :=
  le4 27000000 ++ le2 0 ++ [25#8, 0#8] ++ le2 250 ++ le2 250 ++ le2 1500 ++ le2 1500 ++ le2 2000 ++ le2 2000 ++ zerosOf 12
def laserCal : List Byte := le2 100 ++ le2 3000 ++ le2 500 ++ le2 500 ++ le2 100 ++ zerosOf 6

/-- A calibration block for a cartridge. -/
def calBytes : List Byte :=
  mirrorCal ++ mirrorCal ++ laserCal ++ laserCal ++ laserCal ++ laserCal ++ (le2 1000 ++ le2 3435) ++ (le2 1000 ++ le2 3435) ++
    zerosOf 56

/-- A head with a signature in service. -/
def head : State := { served with binding := { served.binding with live := sig } }

/-- The cartridge has qualified, and port A runs. -/
def guiding : State :=
  { head with
    cart := { head.cart with present := true, qualified := true, code := 3 }
    emit := { head.emit with
      cal := calBytes
      lasers := List.replicate 4 { assigned := some .a, armed := true } }
    portA := { head.portA with phase := .locked, raster := true, qualified := true, fields := sig.folios } }

def glyph : List Byte :=
  [0x4C, 0x46, 0x01, 0x01, 0x09, 0x00, 0x01, 0x00, 0x01, 0x00, 0x01, 0x00, 0x0A, 0x00, 0x00, 0x00, 0x20, 0x00, 0x16, 0x28,
    0x50, 0xA2, 0x8A, 0x29, 0x4A, 0x4A, 0x83, 0x92, 0x06, 0xE3]
def glyphImage : Image := { format := 1, width := 9, height := 1, samples := [0x31, 0x32, 0x33, 0x34, 0x35, 0x36, 0x37, 0x38, 0x39] }
def shownPen : Pen := { kind := .guide, state := .shown, blocks := [127], leafLength := 64, crc := 7, leafKind := 0, shownAt := 1 }
def standbyPen : Pen := { shownPen with state := .standby }
def hits0 : ReleasePins :=
  { psel1 := 0, psel2 := 0, psel3 := 0, detLow := true, holdLow := false, abortLow := false, killLow := false, manualLow := false }
/-- Four equal conversions. -/
def four (n : Nat) : List Nat := List.replicate 4 n
def pass0 : PassReadings :=
  { toolH := four 137, toolL := four 68, lamp := four 68, clk := four 68, beacon := four 68, safe := four 68, cart := four 204
    packId := four 68, packT := four 1023, vpackMv := 12000, packEdge := false }
def stepTakes1 : State := { State.reset with pending := [.vinValid, .aonUp] }
def vinState : State := { State.reset with supply := { vin := true } }
def aonState : State := { State.reset with supply := { vin := true, aonUp := true, ringHAbove := true } }
def everyQueue1 : State := { woken with pending := [.memBusy] }
def everyDistinct1 : State := { guiding with pending := [.penFreed 0] }
def everyOff1 : State := { guiding with pending := [.manualChange true] }
def everyOff2 : State := { guiding with pins := { guiding.pins with manualLow := true } }
def tripped : State := { guiding with safety := { guiding.safety with causes := [.pdBlind] } }
def tripLatch1 : State := { tripped with pins := { tripped.pins with manualLow := true } }
def readingA : State := { guiding with mem := { guiding.mem with reading := some (.spine .a), waiting := [.spine .b] } }
def readingB : State :=
  { readingA with
    core := { readingA.core with straps := 2#6 }
    mem := { readingA.mem with reading := some (.spine .b), waiting := [.spine .a] } }
def sagging : State := { guiding with supply := { guiding.supply with ringHAbove := false } }
def powered : State := { held with supply := { held.supply with ringH := false } }
def memorySupply1 : State := { State.reset with supply := { ringM := true } }
def unpoweredMir : State := { State.reset with supply := { vmir := true } }
def refin : State := { woken with core := { woken.core with held := [none, none, none, some 4, none, none, none] } }
def flashLow : State := { woken with mem := { woken.mem with flashReset := .low } }
def beforeRead : State :=
  { woken with
    core := { woken.core with plls := true }
    mem := { woken.mem with flashReset := .waiting } }
def theFlash1 : State := { woken with supply := { woken.supply with ringM := false } }
def theFlash2 : State := { theFlash1 with mem := { theFlash1.mem with bootHold := true } }
def lampHead : State := { ready1 with core := { ready1.core with held := [none, none, some 1, none, none, none, none] } }
def lampOnly1 : State := { ready1 with binding := head.binding }
def codePass2 : State := { guiding with binding := { guiding.binding with live := { sig with origin := .flashEndpaper } } }
def codePass1 : State := { guiding with core := { guiding.core with straps := 4#6 } }
def differing : State :=
  { guiding with
    aon := { guiding.aon with balls := List.replicate 7 { differ := 8 } }
    safety := { guiding.safety with safeDiffer := 3 } }
def packSeen : State := { served with pack := { served.pack with aboveRun := 2 } }
def packPresence1 : State := { packSeen with pack := { packSeen.pack with retry := true } }
def packHere : State :=
  { served with
    pack := { served.pack with present := true, scheme := 1, band := 2, identRead := true, belowRun := 2 } }
def packPresence2 : State := { packHere with pack := { packHere.pack with belowRun := 0, bandRun := 4 } }
def packRetrying : State := { packHere with pack := { packHere.pack with belowRun := 0, retry := true } }
def packPresence3 : State := { packRetrying with pins := { packRetrying.pins with abortLow := true } }
def packPresence4 : State := { packRetrying with pack := { packRetrying.pack with present := false } }
def packHot : State := { packHere with pack := { packHere.pack with scheme := 2, tBadRun := 2 } }
def pack3 : State := { packHere with pack := { packHere.pack with scheme := 3, lastFrame := some 0 } }
def packWaits : State := { packHere with pack := { packHere.pack with detecting := true, candidate := true } }
def frame0 : List (Bool × Nat) := (false, 1500) :: (List.replicate 16 [(true, 500), (false, 500)]).flatten
def packIdentity1 : State := { pack3 with core := held.core }
def packIdentity2 : State := { packWaits with pack := { packWaits.pack with scheme := 0, lastFrame := some 0 } }
def removing : State := { guiding with aon := { guiding.aon with cartOob := 2 } }
def cartridgeComes1 : State := { removing with cart := { removing.cart with history := [0,0,0,0] } }
def arriving : State := { head with aon := { head.aon with cartAgree := some 3 } }
def retrying : State := { head with cart := { head.cart with present := true, retry := true } }
def cartridgeComes2 : State := { retrying with pins := { retrying.pins with abortLow := true } }
def cartridgeComes3 : State := { retrying with cart := { retrying.cart with chatter := true } }
def crossing : State := { guiding with portA := { guiding.portA with qualified := false } }
def passing : CrossCheck := { darkA := 0, darkB := 20, probeA := [0, 0, 0, 0], probeB := [0, 0, 0, 0] }
def failing : CrossCheck := { darkA := 21, darkB := 21, probeA := [0, 0, 0, 0], probeB := [0, 0, 0, 0] }
def crossCheck1 : State := { crossing with portA := { crossing.portA with restarting := true } }
def onlyFirst : CrossCheck := { passing with darkB := 21 }
def crossCheck2 : State := { crossing with cart := { crossing.cart with pd := .onlyB } }
def beats1 : List Nat := [1, 1, 1, 1, 1, 1, 1, 1, 1]
def twiceReset (d : Domain) : State := updDomain guiding d fun k => { k with resets := [0, 0] }
def heldDomain : State := updDomain guiding .mirA fun k => { k with held := true }
def sysHeld : State := updDomain guiding .sys fun k => { k with held := true }
def referencesAre1 : State := { guiding with clocks := { guiding.clocks with selected := .ring, windows := 3 } }
/-- A signature with `REFIN` at 24 MHz, like the crystal. -/
def refSig : Settings := { sig with folios := (2, le2 150 ++ le2 20 ++ le2 24000 ++ [3#8, 32#8, 3#8]) :: sig.folios }
def twoRefs : State :=
  { guiding with
    binding := { guiding.binding with live := refSig }
    clocks := { guiding.clocks with refinFitted := true, refinToggles := true, ringOk := true, windows := 8 } }
def referencesAre2 : State := { twoRefs with clocks := { twoRefs.clocks with selected := .refin } }
def referencesAre3 : State := { twoRefs with clocks := { twoRefs.clocks with refinFailed := true } }
def holding : State := { guiding with clocks := { guiding.clocks with holdover := true, lost := some .crystal } }
def referencesAre4 : State := { referencesAre1 with binding := { referencesAre1.binding with live := refSig } }
def noMajority1 : State := { twoRefs with clocks := { twoRefs.clocks with learned := 32 } }
def vref3 : State := { guiding with clocks := { guiding.clocks with vselRun := 3 } }
def voltageReferences1 : State := { vref3 with clocks := { vref3.clocks with vrefB := true } }
def safe3 : State := { guiding with safety := { guiding.safety with refRun := 3 } }
def hostHolds : State :=
  { guiding with
    pins := { guiding.pins with holdLow := true }
    mem := { guiding.mem with ackLow := true } }
def holdsHand1 : State := { hostHolds with mem := { hostHolds.mem with bootHold := true } }
def holdsHand2 : State :=
  { hostHolds with
    mem := { hostHolds.mem with flashReset := .none, bootHold := true, bootLow := true } }
def polling : State := { guiding with mem := { guiding.mem with statusDue := true, waiting := [.spine .a] } }
def pollingReads : State :=
  { polling with mem := { polling.mem with reading := some (.spine .b), unread := [(0x1040, 4032)], flashReset := .done } }
def pollingIdle : State := { polling with mem := { polling.mem with waiting := [] } }
def readingSpine : State :=
  { guiding with
    mem := { guiding.mem with reading := some (.spine .a), waiting := [.spine .b] }
    binding := { guiding.binding with reader := { phase := .spines } } }
def readsReach1 : State :=
  { readingSpine with
    mem := { readingSpine.mem with reading := some (.header .a), waiting := [.header .b] } }
def readsReach2 : State := { readingSpine with mem := { readingSpine.mem with mode := .d8 } }
def readsReach4 : State := { readingSpine with supply := { readingSpine.supply with ringM := false } }
def readsReach3 : State := { guiding with mem := { guiding.mem with mode := .d8 } }
def abortLow : State := { guiding with pins := { guiding.pins with abortLow := true } }
def memOut : State := updDomain guiding .mem fun k => { k with quarantined := true }
def opened : State := { guiding with gather := { guiding.gather with state := .opened } }
def validating (found : Option Settings) : State :=
  { guiding with
    gather := { guiding.gather with state := .validate, entry := some 0 }
    binding := { guiding.binding with reader := { phase := .done, stitch := true, found, firstReason := 3 } } }
def nextSig : Settings := { sig with gen := 4 }
def bootSig : Settings := { sig with folios := (4, [16#8, 8#8, 8#8, 1#8]) :: sig.folios }
def valLeaf : State :=
  { validating (some nextSig) with
    binding := { (validating (some nextSig)).binding with reader := { (validating (some nextSig)).binding.reader with leafFailed := some 0 } } }
def valHeader : State :=
  { validating (some nextSig) with
    binding := { (validating (some nextSig)).binding with reader := { (validating (some nextSig)).binding.reader with leafHeaders := [(0, [])] } } }
def valCal : State :=
  { validating (some nextSig) with
    binding := { (validating (some nextSig)).binding with reader := { (validating (some nextSig)).binding.reader with calReason := 5 } } }
def safeHead (t : State) : State := { t with core := { t.core with held := [none, none, none, none, none, some 1, none] } }
def lowLaser : List Byte := le2 100 ++ le2 3000 ++ le2 1 ++ le2 1 ++ le2 100 ++ zerosOf 6
def lowGain : List Byte := calBytes.take 64 ++ lowLaser ++ lowLaser ++ lowLaser ++ lowLaser ++ calBytes.drop 128
def unfitSig : Settings := { sig with gen := 3 }
def valUnfit : State := safeHead { validating (some unfitSig) with emit := { guiding.emit with cal := lowGain } }
def full (t : State) (n : Nat) : State := { t with pens := { t.pens with reserve := List.range n } }
def calSig : Settings := { nextSig with cals := [{ code := 3, offset := 8192, length := 192, crc := 9 }] }
def crowded (n : Nat) (l : List (Nat × Pen)) : State :=
  { full (validating (some calSig)) n with
    pens := { list := l, next := 9, reserve := List.range n } }
def noDarkState : State :=
  { crowded 127 [(0, shownPen)] with
    binding := { (crowded 127 [(0, shownPen)]).binding with live := { sig with folios := (3, zerosOf 8 ++ [1#8]) :: sig.folios } } }
def calSig2 : Settings := { calSig with folios := (3, zerosOf 8 ++ [1#8]) :: sig.folios }
def decoding (st : GatherState) (ch : List SItem) : State :=
  { guiding with gather := { guiding.gather with state := st, shadow := some nextSig, entry := some 0, changed := ch } }
def ramping : State :=
  { decoding .ramp [.amp .a, .setPoint 0] with
    gather := { (decoding .ramp [.amp .a, .setPoint 0]).gather with ramping := [.amp .a, .setPoint 0], bridge := true } }
def restoringBack : State :=
  { ramping with
    gather := { ramping.gather with state := .restore, ramping := [.amp .a], backReason := 0x46 } }
def rampsConverge1 : State := { ramping with gather := { ramping.gather with changed := [] } }
def restFailed : State := { guiding with gather := { guiding.gather with restoreFailed := true } }
def restAbort : State := { restFailed with pins := { restFailed.pins with abortLow := true } }
def restJob : State := { restFailed with codec := { restFailed.codec with queue := [{ requester := .restore }] } }
def restShown : State := { restFailed with portA := { restFailed.portA with shown := some 1 } }
def rampsConverge2 : State := { restShown with pens := { restShown.pens with list := [(0, shownPen)], next := 1 } }
def busyHead : State :=
  { guiding with
    codec := { guiding.codec with running := some { requester := .pattern, entry := 1 }, queue := [{}], preload := [{}] }
    select := { guiding.select with pending := some 1 } }
def abortStops1 : State := { busyHead with canvas := { busyHead.canvas with
    frame := some { bytes := [0x43#8], enabled := true, pens := [4] }
    job := some { payload := [], seq := 5, pens := [3], shape := cvsShape (live busyHead), swapSeen := false } } }
def abortStops2 : State := { guiding with gather := { guiding.gather with aborting := true } }
def abortStops3 : State := { abortLow with cart := { abortLow.cart with retryDue := true } }
def abortStops4 : State := { abortLow with cart := { abortLow.cart with expiredDue := true } }
def glyphCrc : Nat := crc32c glyph
def glyphSig : Settings := { sig with leaves := [{ offset := 4096, length := 30, crc := glyphCrc, kind := 1 }] }
def glyphJob : Job := { src := glyphSig, leaf := 0, leafLength := 30, crc := glyphCrc, kind := 1, requester := .pattern, entry := 1 }
def asking : State :=
  { guiding with
    binding := { guiding.binding with live := glyphSig }
    codec := { guiding.codec with queue := [glyphJob] } }
def glyphPen : Pen := { kind := .signal, state := .shown, blocks := [0], leafLength := 30, crc := glyphCrc, leafKind := 1 }
def leafJobsStart1 : State := { asking with pens := { list := [(0, glyphPen)], next := 1, reserve := [] } }
def retiringPen : Pen := { glyphPen with state := .retiring }
def retired : State := { guiding with pens := { list := [(0, retiringPen)], next := 1, reserve := [] } }
def startedJob : Job := { glyphJob with pen := some 0, started := true }
def decoding1 : State :=
  { asking with
    codec := { asking.codec with queue := [], running := some startedJob }
    pens := { list := [(0, { glyphPen with state := .filling })], next := 1, reserve := [] }
    select := { asking.select with pending := some 1 } }
def broken : List Byte := glyph.take 26 ++ [0#8, 0#8, 0#8, 0#8]
def brokenJob : Job := { startedJob with crc := crc32c broken }
def leafJobsPublish1 : State := { decoding1 with codec := { decoding1.codec with running := some brokenJob } }
def calJob1 (b : List Byte) : Job :=
  { src := sig, leaf := 3, leafLength := 192, crc := crc32c b, kind := 3, requester := .calibration, pen := some 0, started := true }
def calLoading (b : List Byte) : State :=
  { guiding with
    cart := { guiding.cart with qualified := false, step := .calibration }
    emit := { guiding.emit with cal := [] }
    codec := { guiding.codec with running := some (calJob1 b) }
    pens := { list := [(0, { kind := .calibration, state := .filling, blocks := [0], leafLength := 3, leafKind := 3 })], next := 1, reserve := [] } }
def calm : MatrixLevels := { scanA := 512, scanB := 512, lampFill := 64, canvasFill := 0 }
def req (m a n : Nat) (w l : Bool) : MatrixReq :=
  { master := m, addr := a, beats := n, write := w, lock := l, scrub := false, lane := .a, payload := List.replicate n 5
    strobes := [], id := m, reader := false, bad := none }
def noReqs : List MatrixReq := []
def contest : List MatrixReq := [req 0 0 8 false false, req 6 0x40 4 true true, req 7 0x80 1 false false]
def lock0 : LockState := { master := 6, lane := .a, id := 9, beats := 4, journal := [(0x40, 5), (0x50, 6), (0x40, 7)] }
def locked : State :=
  { guiding with
    matrix := { guiding.matrix with arbiters := { ptr := 6, lock := some lock0 } :: List.replicate 7 {}, cells := [(0x50, 1), (0x60, 2)] } }
def bursting : State :=
  { guiding with
    matrix := { guiding.matrix with
      arbiters := { burst := some { request := req 6 0x40 2 true false, data := [] } } :: List.replicate 7 {}
      cells := [(0x50, 1), (0x60, 2)] } }
def shows0 : State := { guiding with portA := { guiding.portA with shown := some 0 } }
def halted1 : State := { shows0 with core := { shows0.core with halted := true } }
def seenStitch : State := { decoding .decode [] with portA := shows0.portA }
def selectionsBecome1 : State := { shows0 with pins := { shows0.pins with abortLow := true } }
def selectionsBecome2 : State :=
  { shows0 with
    codec := { shows0.codec with running := some { leaf := 0, leafLength := 64, crc := 7 } } }
def pending1 : State :=
  { shows0 with
    select := { shows0.select with pending := some 1 }
    pens := { list := [(0, standbyPen), (1, { kind := .live, state := .standby, port := .a })], next := 2, reserve := [] } }
def twoPorts : State :=
  { pending1 with
    core := { pending1.core with straps := 1#6 }
    portB := { pending1.portA with shown := some 0 } }
def latchPoint1 : State := { twoPorts with portA := { twoPorts.portA with shown := some 1 } }
def latchPoint2 : State := { pending1 with pens := { list := [], next := 2, reserve := [] } }
def taken1 : State :=
  { pending1 with
    portA := { pending1.portA with taken := some 1, guideTaken := some 0, pastLatch := true, nextFb := 770, wheel := { timeline := true } } }
def frameBoundary1 : State :=
  { taken1 with
    cart := { taken1.cart with qualified := false }
    portA := { taken1.portA with taken := none, wheel := { timeline := true, gate := true } } }
def frameBoundary2 : State := { twoPorts with portB := taken1.portA }
def relighting : State := { guiding with gather := { guiding.gather with relight := true } }
def atLine (n : Nat) (position : BitVec 32) : State :=
  { guiding with portA := { guiding.portA with vact := 720, wheel := { nextLine := n, position } } }
def holds1 : State :=
  { guiding with
    portA := { guiding.portA with wheel := { nextLine := 9, held := [{ target := 70000, channel := 0, level := 5, frac := 0, prev := 0, counted := true }] } } }
def lateHead (dark : Byte) : State :=
  { guiding with portA := { guiding.portA with
      fields := (11, [16#8, 0#8, dark, 15#8, 0#8, 0#8, 0#8, 0#8]) :: sig.folios
      wheel := { gate := true, frameDrops := 17 } } }
def lateLight1 : State := { guiding with portA := { guiding.portA with wheel := { staleRun := 14 } } }
def lateLight2 : State := { guiding with portA := { guiding.portA with wheel := { staleRun := 15, gate := true } } }
def canvasBytes : List Byte := [1#8, 1#8] ++ le2 2 ++ le2 1 ++ zerosOf 4 ++ le2 20000 ++ [3#8]
def cvsSig : Settings := { sig with folios := (10, canvasBytes) :: (20, [2#8, 1#8, 10#8, 0#8, 0#8, 16#8]) :: sig.folios }
def canvasHead : State :=
  { guiding with
    binding := { guiding.binding with live := cvsSig }
    portA := { guiding.portA with fields := cvsSig.folios, liveSeen := true }
    pens := { list := [], next := 0, reserve := [0, 1] } }
def fetched : State :=
  { guiding with
    portA := { guiding.portA with wheel := { position := 63, ring := [{ slot := 72, channel := 0, level := 9, frac := 0, lap := 0 }, { slot := 73, channel := 0, level := 9, frac := 0, lap := 0 }] } } }
def stallFetch1 : State :=
  { fetched with
    portA := { fetched.portA with wheel := { fetched.portA.wheel with position := 0xFFFFFFFF, queue := [(0, []), (7, [])] } } }
def stallFetch2 : State := { guiding with portA := { guiding.portA with wheel := { clearing := true } } }
def anchored : State :=
  { guiding with portA := { guiding.portA with wheel := { anchors := [(8192, 5000), (64, 1040), (0, 1000)] } } }
def stallFetch3 : State :=
  { guiding with
    portA := { guiding.portA with raster := false, fLock := 27000000, wheel := { clearing := true } } }
def trimmed (n : Nat) : State := { guiding with emit := { guiding.emit with trims := [16, 16, n, 16] } }
def frameHeader (kind ports len : Nat) : List Byte :=
  let h := [0x43#8, 0x46#8, 1#8] ++ leBytes 1 kind ++ leBytes 1 ports ++ [1#8] ++ le2 5 ++ le4 len
  h ++ le4 (crc32c h)
def rawBytes (crcAdd : Nat) : List Byte := frameHeader 0 1 6 ++ [10#8, 20#8] ++ le4 (crc32c [10#8, 20#8] + crcAdd)
def codedBytes : List Byte :=
  frameHeader 1 1 30 ++ ([0x4C, 0x46, 0x01, 0x01, 0x02, 0x00, 0x01, 0x00] : List Byte) ++ zerosOf 22

/-- A clock period with a byte, and one between frames. -/
def period (b : Byte) : CvsPeriod := { fs := true, rise := b.toNat / 16, fall := b.toNat % 16, full := false }
def pause : CvsPeriod := { fs := false, rise := 0, fall := 0, full := false }

/-- A frame being received at a canvas head, with its live pen. -/
def rx (bytes : List Byte) (swapSeen : Bool) : CanvasRx :=
  { bytes, enabled := true, swapSeen, shape := cvsShape (live canvasHead), pens := [0] }
def receiving (r : CanvasRx) : State :=
  { canvasHead with
    canvas := { canvasHead.canvas with fsLow := false, frame := some r }
    pens := { list := [(0, { kind := .live, state := .filling, blocks := [0], seq := 5 })], next := 1, reserve := [1] } }
def beforeHeader (b : List Byte) : State :=
  { canvasHead with
    canvas := { canvasHead.canvas with fsLow := false, frame := some { bytes := b.take 15, enabled := true } } }
def cvsWaits : State := { canvasHead with canvas := { canvasHead.canvas with fsLow := true } }
def cvsSig9 : Settings :=
  { sig with
    folios := (10, [1#8, 1#8] ++ le2 9 ++ le2 1 ++ zerosOf 4 ++ le2 20000 ++ [3#8]) :: sig.folios }
def laneJob (b : List Byte) : CanvasJob :=
  { payload := b, seq := 5, pens := [0], shape := cvsShape cvsSig9.folios, swapSeen := false }
def laneHead (b : List Byte) : State :=
  { canvasHead with
    binding := { canvasHead.binding with live := cvsSig9 }
    canvas := { canvasHead.canvas with job := some (laneJob b) }
    pens := { list := [(0, { kind := .live, state := .filling, blocks := [0], seq := 5 })], next := 1, reserve := [1] } }
def starts : State := { guiding with cart := { guiding.cart with qualified := false, step := .mirror }, portA := {} }
def noScanner : List Byte := zerosOf 32 ++ calBytes.drop 32
def mirrorStarts1 : State := { starts with emit := { starts.emit with cal := noScanner } }
def again : State := { guiding with portA := { phase := .coast, restartDue := true } }
def inPhase (ph : MirrorPhase) : State :=
  { starts with
    portA := { phase := ph, fEst := 27000000, kicks := 1, wheel := { clearing := false } } }
def mirrorStarts2 : State := { inPhase .ring with portA := { (inPhase .ring).portA with kicks := 8 } }
def captured : State := { inPhase .capture with portA := { (inPhase .capture).portA with fRing := 27000000 } }
def mirrorStarts3 : State := { captured with portA := { captured.portA with wheel := { clearing := true } } }
def lockRun : LockSegment := { periods := 300, amp := 2000, crossing := 32768, slow := 1250 }
def servedPort : State := { guiding with portA := { guiding.portA with served := true, faults := [0] } }
def mirrorFaults2 : State := { captured with portA := { captured.portA with restarting := true, faults := [0, 0, 0] } }
def againNone : State := { again with emit := { again.emit with cal := noScanner } }
def mirrorFaults1 : State := { guiding with portA := { guiding.portA with served := true, faults := [0, 0, 0] } }
def inputs0 : FrameInputs :=
  { readings := [(1, 5)], outOfRange := [2], rt0 := 10000, rt1 := 10000, upsets := [], tableErr := none, m6Err := none, capsArrived := true }
def alone : State :=
  { guiding with
    engine := { guiding.engine with standby := .absent, frame := 4294967295 }
    yard := { guiding.yard with grants := [1, 2, 3] } }
def trimming : State := { alone with emit := { alone.emit with trims := [16, 31, 0, 16], trimRuns := [(true, 15), (false, 15), (true, 15)] } }
def laneHeld : State := updDomain guiding .loopA fun k => { k with held := true }
def engineInputs1 : State := { guiding with engine := { guiding.engine with encoder := 2147483647 } }
def engineInputs2 : State := { guiding with engine := { guiding.engine with encoder := -2147483648 } }
def encHead : State :=
  { guiding with
    binding := { guiding.binding with live := { sig with folios := (14, [0#8, 0#8, 0#8, 1#8]) :: sig.folios } } }
def pulsing : State :=
  { guiding with
    bright := { started := true, high := some 1000, periods := [(2000, 1000), (2000, 1000), (2000, 1000)] } }
def driven : State :=
  { guiding with
    engine := { guiding.engine with applied := [(1, 65536), (2, 65536), (3, 65536), (4, 65536)] } }
def darkSample : PdSample := { lit := [], level := 0, heldNs := 20, rawA := 7, rawB := 8, monitor := false }
def lit0 : PdSample := { lit := [0], level := 1024, heldNs := 20, rawA := 0, rawB := 0, monitor := true }
def run0 : SinkRun := { channel := 0, ns := 2000, above := true }
def blind3 : State :=
  { driven with
    emit := { guiding.emit with blindA := 3, blindB := 3, darkA := List.replicate 256 0, darkB := [0] } }
def sinkCodes1 : State := { guiding with emit := { guiding.emit with cal := noScanner.take 66 ++ zerosOf 126 } }
def lampField : State :=
  { served with
    lamp := { served.lamp with running := true, dark := false, rows := 4, cols := 8, lamps := List.replicate 32 { vf := 2700, code := 3 } } }
def lampField1 : State :=
  { lampField with
    core := { lampField.core with held := [none, none, some 1, none, none, none, none] }
    lamp := { lampField.lamp with lamps := { vf := 2700, code := 3, latched := true } :: List.replicate 31 { vf := 2700, code := 3 } } }
def repeated : State :=
  { lampField1 with gather := { lampField1.gather with state := .swapWait, shadow := some { lampField1.binding.live with gen := 4 } } }
def lampSysHeld : State := updDomain lampField1 .sys fun k => { k with held := true }
def lampRows1 : State := { lampField1 with pins := { lampField1.pins with killLow := true } }
def yardHead : State :=
  { guiding with
    pack := { guiding.pack with limit := 400 }
    yard := { guiding.yard with grants := [100, 100, 100] } }
def grantsStay1 : State :=
  { yardHead with
    engine := { yardHead.engine with demands := [500, 500, 500] }
    lamp := lampField1.lamp }
def ticking : State := { yardHead with yard := { yardHead.yard with budget := 300 }, pending := [.yardTick true] }
def ticked : State := match step ticking with | .next t => t | _ => {}
def killed : State :=
  { guiding with
    pins := { guiding.pins with killLow := true }
    safety := { guiding.safety with causes := [.pdBlind] }
    binding := { guiding.binding with live := { sig with folios := (21, le2 282 ++ le2 256 ++ [1#8, 25#8, 1#8, 50#8]) :: sig.folios } } }
def killAnd1 : State := { guiding with emit := { guiding.emit with blindA := 4, blindB := 4 } }
def scrubWaits : ScrubResult := { granted := false, corrected := [], uncorrectable := [] }
def scrubFound : ScrubResult := { granted := true, corrected := List.replicate 17 0x40, uncorrectable := [0x80] }
def scrubbingWalks1 : State := { guiding with integrity := { guiding.integrity with walk := 8575 } }
def scrubbingWalks2 : State := { guiding with integrity := { guiding.integrity with corrected := [0x40] } }
def scrubbingWalks3 : State := { guiding with integrity := { guiding.integrity with burstWaits := true } }
def events5 : List EventEntry :=
  [{ code := 1, aux := 0, subject := 0 }, { code := 2, aux := 0, subject := 0, ext := some 5 }, { code := 3, aux := 0, subject := 0, ext := some 5 }, { code := 4, aux := 0, subject := 0 }]
def beaconHead : State := { guiding with beacon := { guiding.beacon with seq := 65535, queue := events5 } }
def timerHead : State := { served with beacon := { served.beacon with timerDue := true } }
def sendingHead : State := { beaconHead with beacon := { beaconHead.beacon with sending := some [1#8] } }
def beaconRecords1 : State := { sendingHead with beacon := { sendingHead.beacon with deferred := some true } }
def beaconRecords2 : State := { guiding with beacon := { guiding.beacon with pulse := true } }

/-! The engine's bench case (13, Table 13-4). -/

/-- A folio's bytes with some replaced. -/
def putAt (l : List Byte) (off : Nat) (bs : List Byte) : List Byte := l.take off ++ bs ++ l.drop (off + bs.length)

/-- A slot record of the case's laser power loop on channel c, at a rate and a phase. -/
def powerLoop (c rate phase : Nat) : List Byte :=
  [1#8, BitVec.ofNat 8 rate] ++ le2 phase ++ [BitVec.ofNat 8 (c + 1), BitVec.ofNat 8 (c + 1), 255#8, 10#8] ++ le4 0 ++ le2 0 ++
    [0#8, 249#8] ++ le2 1 ++ le2 1 ++ le2 0 ++ le2 0 ++ le2 0 ++ [252#8, 250#8, 0#8, 0#8, 0#8, 0#8] ++ le4 0 ++ le2 0 ++
    le2 32768 ++ le2 0 ++ le2 0 ++ le2 65535 ++ [0#8, 0#8] ++ le2 3600 ++ le2 1000 ++ le2 0 ++ le2 0 ++ zerosOf 8

def loopBytes : List Byte :=
  putAt (putAt (putAt (zerosOf 3088) (16 + 64 * 8) (powerLoop 0 0 0)) (16 + 64 * 9) (powerLoop 1 2 1)) (16 + 64 * 40) (powerLoop 0 10 512)

def halterBytes : List Byte :=
  [8#8, 40#8, 255#8, 255#8, 255#8, 255#8, 1#8, 0#8] ++ le2 1024 ++ le2 6400 ++ zerosOf 4 ++
    (List.replicate 7 ([255#8, 255#8, 255#8, 255#8, 255#8, 255#8, 0#8, 0#8] ++ le2 4096 ++ le2 16 ++ zerosOf 4)).flatten

def loopFolios : Store :=
  [(14, loopBytes), (15, halterBytes), (16, emitBytes.take 4 ++ le4 1000000 ++ le4 1000000 ++ le4 0 ++ le4 0 ++ emitBytes.drop 20)]

def loopSlot (integ : Int) : Slot :=
  { integ, r0 := 1000000 * spUnit, r1 := 1000000 * spUnit, r2 := 1000000 * spUnit, frozen := false, softStart := false, grace := 0 }

/-- The engine before a frame: slot 8's integrator, its reading, and the Guide grant. -/
def loopHead (frame : Nat) (integ x : Int) (grant : Nat) : State :=
  let slots := setAt (setAt (setAt (List.replicate 48 {}) 8 (loopSlot integ)) 9 (loopSlot 2560000)) 40
    { loopSlot 0 with proposal := 24000 }
  { guiding with
    core := { guiding.core with held := [none, none, none, none, none, some 9, none] }
    binding := { guiding.binding with live := { sig with folios := loopFolios } }
    portA := { guiding.portA with wheel := { guiding.portA.wheel with gate := true, timeline := true } }
    emit := { guiding.emit with lasers :=
      [{ assigned := some .a, powerA := some x }, { assigned := some .a, powerA := some 1150003 }, {}, {}] }
    engine := { guiding.engine with
      frame, slotsA := slots, slotsB := slots, fields := loopFolios, grants := [grant, 0, 0] } }

def loopInputs : FrameInputs :=
  { readings := [], outOfRange := [], rt0 := 0, rt1 := 0, upsets := [], tableErr := none, m6Err := none, capsArrived := false }
def loopFrame (s : State) : State := next (exec (.scheduleFrame loopInputs) s)

/-! Operands outside the part's inputs are refused by the check (WellFormed.lean): one term for each of its bounds. -/

theorem test_wf_conversion : wf (.codePass { pass0 with toolH := four 1024 }) = false := by decide +kernel
theorem test_wf_slot : wf (.codePass { pass0 with packT := [1023] }) = false := by decide +kernel
theorem test_wf_pack_voltage : wf (.codePass { pass0 with vpackMv := 48001 }) = false := by decide +kernel
theorem test_wf_cross_check : wf (.pdCrossCheck .a { passing with probeB := [] }) = false := by decide +kernel
theorem test_wf_heartbeats : wf (.keeperHeartbeatSample [1] true) = false := by decide +kernel
theorem test_wf_set_point : wf (.sItemConverged ⟨.setPoint 48, []⟩) = false := by decide +kernel
theorem test_wf_leaf_header : wf (.leafJobStart (zerosOf 17)) = false := by decide +kernel
theorem test_wf_trailer : wf (.leafJobEnd [] (zerosOf 15) true) = false := by decide +kernel
theorem test_wf_calibration_block : wf (.calibrationLoadDone (zerosOf 191) [] true) = false := by decide +kernel
theorem test_wf_target : wf (.arbiterDecision 8 calm []) = false := by decide +kernel
theorem test_wf_master : wf (.arbiterDecision 0 calm [req 8 0 1 false false]) = false := by decide +kernel
theorem test_wf_address : wf (.arbiterDecision 0 calm [req 0 0x100000000 1 false false]) = false := by decide +kernel
theorem test_wf_identifier : wf (.arbiterDecision 0 calm [{ req 0 0 1 false false with id := 16 }]) = false := by decide +kernel
theorem test_wf_beat : wf (.arbiterDecision 0 calm [{ req 0 0 1 true false with payload := [2 ^ 128] }]) = false := by
  decide +kernel
theorem test_wf_strobes : wf (.arbiterDecision 0 calm [{ req 0 0 1 true false with strobes := [65536] }]) = false := by
  decide +kernel
theorem test_wf_payload : wf (.arbiterDecision 0 calm [{ req 0 0 1 true false with payload := [0, 0] }]) = false := by
  decide +kernel
theorem test_wf_buffer : wf (.arbiterDecision 0 { calm with scanA := 513 } []) = false := by decide +kernel
theorem test_wf_lag : wf (.renderLine .a 8 [] []) = false := by decide +kernel
theorem test_wf_sense_inputs : wf (.mirrorCheckDone .a [800]) = false := by decide +kernel
theorem test_wf_amplitude : wf (.mirrorFault .a (.fastStall false [4096])) = false := by decide +kernel
theorem test_wf_segment : wf (.portLocked ⟨.a, 27000000, [{ periods := 1, amp := 4096, crossing := 0, slow := 0 }]⟩) = false := by
  decide +kernel
theorem test_wf_comparison : wf (.scheduleFrame { inputs0 with comparisons := [(4, true)] }) = false := by decide +kernel
theorem test_wf_flip : wf (.stallFetch .a ⟨0, [(0, 2 ^ 20)]⟩) = false := by decide +kernel
theorem test_wf_nibble : wf (.canvasFrame [{ pause with rise := 16 }]) = false := by decide +kernel
theorem test_wf_lock_target : wf (.lockUnlock 6) = false := by decide +kernel
theorem test_wf_lock_breach : wf (.lockError 8 .badTarget 7 .a) = false := by decide +kernel
theorem test_wf_lock_master : wf (.lockError 6 .badTarget 8 .a) = false := by decide +kernel
theorem test_wf_channel : wf (.dllLockLost (some 4)) = false := by decide +kernel
theorem test_wf_sample : wf (.pdWindowEnd [{ darkSample with rawA := 4096 }] []) = false := by decide +kernel
theorem test_wf_run : wf (.pdWindowEnd [] [{ run0 with channel := 4 }]) = false := by decide +kernel
theorem test_wf_aged_channel : wf (.pdMeasurementAged 4) = false := by decide +kernel
theorem test_wf_probe_row : wf (.probeSlotEnd 64 5000 (List.replicate 32 0) []) = false := by decide +kernel
theorem test_wf_probe_sinks : wf (.probeSlotEnd 0 5000 [] []) = false := by decide +kernel
theorem test_wf_probe_track : wf (.probeSlotEnd 0 5000 (List.replicate 32 0) [(32, true)]) = false := by decide +kernel
theorem test_wf_sink : wf (.sinkHot 32) = false := by decide +kernel
theorem test_wf_accepts : (wf (.codePass pass0) && wf (.pdWindowEnd [darkSample] [run0]) && wf (.sinkHot 31) &&
    wf (.arbiterDecision 7 calm contest) && wf (.calibrationLoadDone calBytes [] true)) = true := by decide +kernel

/-! The table gives no row bits, so no word spells a command (Decode.lean). -/

theorem test_no_word_is_a_command : decodeTableWord 32 0xFFFFFFFF = none ∧ State.reset.withFetchWord 32 0 = State.reset := by
  decide +kernel

/-! Values that the manual works out. -/

/-- 00 R5: the check value of CRC-32C. -/
theorem test_crc32c : crc32c ("123456789".toList.map fun c => BitVec.ofNat 8 c.toNat) = 0xE3069283 := by decide +kernel

/-- 03 R42, Table 3-1: the mean of the conversions nearest to nominal ratios, the ends of code 7's window of 0.4441 to 0.4841 in 4,096ths,
and the two gaps beside it. -/
theorem test_code_bands : codeOf (ratioOf [68, 68, 69, 68]) = some 1 ∧ codeOf 1820 = some 7 ∧ codeOf 1982 = some 7 ∧
    codeOf 1819 = none ∧ codeOf 1983 = none ∧ codeOf 136 = some 0 ∧ codeOf 137 = none ∧ codeOf 3959 = none ∧
    codeOf 3960 = some 15 := by decide +kernel

/-- 08 Bench case 1: the nine-sample glyph. -/
theorem test_glyph_decodes :
    (match decodeLeaf { formatOk := fun _ => true, widthOk := fun _ => true, heightOk := fun _ => true, maxSpace := none } glyph with
      | .ok img => img == glyphImage
      | .error _ => false) = true := by decide +kernel

/-- 13 Bench case 1, frame 1: `LD0` is given 19,562 and slot 8's integrator 2,344,000. -/
theorem test_power_loop_rounds_to_even :
    let t := loopFrame (loopHead 1 2304000 980000 260)
    appliedTo t 1 = 19562 ∧ (t.engine.slotsA.getD 8 {}).integ = 2344000 := by decide +kernel

/-- 13 Bench case 1, frame 3: the cap of 18,000 wins, slot 8 tracks it, and Guide's demand is 182 mA. -/
theorem test_cap_wins_and_slot_tracks :
    let t := loopFrame (loopHead 3 2336000 999990 180)
    appliedTo t 1 = 18000 ∧ (t.engine.slotsA.getD 8 {}).integ = 2303920 ∧ t.engine.demands.head? = some 182 ∧
      (t.engine.halters.getD 0 {}).winner = some 48 := by decide +kernel

/-- 15 Table 15-2, ticks 1 to 3: the targets, and what the lamp field shows of Work's fraction. -/
theorem test_yard_table :
    let st : Store := [(19, le2 1200 ++ le2 200 ++ le2 1024 ++ le2 2048 ++ le2 100 ++ [0x2D#8, 57#8])]
    let targets := fun b => targetsOf st [true, true, true] (classOrder (fnat st budgetIdleOrder)) [180, 800, 80] b
    targets 900 = [200, 620, 80] ∧ targets 450 = [200, 250, 0] ∧ targets 1200 = [200, 920, 80] ∧
      fractionOf 2 800 620 = 3174 ∧ workDepth 2048 10 1280 6 1280 0 = (2560, 1) := by decide +kernel

/-- 14 Bench case 1: the folios of the grinder, with a pair at lamps 106 and 107. -/
def grinder : Store :=
  [(17, [16#8, 32#8] ++ le2 480 ++ [10#8, 0#8, 48#8, 24#8] ++ le2 2457 ++ le2 3072 ++ le2 4096 ++ [0#8, 1#8] ++ le2 4000 ++
      [0#8, 3#8] ++ zerosOf 8 ++ le2 150 ++ le2 800 ++ le2 1024 ++ le2 4096 ++ le2 400),
    (18, le2 (65536 - 3000) ++ le2 (65536 - 4000) ++ le2 (65536 - 2000) ++ le2 (65536 - 2000) ++ le2 2600 ++ [5#8, 0#8] ++
      le2 6144 ++ zerosOf 242 ++ le2 2700 ++ zerosOf 254 ++ le2 6500 ++ zerosOf 254 ++ zerosOf 256 ++ zerosOf 424 ++
      (le2 28672 ++ [0#8, 20#8]) ++ (le2 32768 ++ [128#8, 24#8]))]

theorem test_hot_pair_codes :
    let f : LampField := { rows := 16, cols := 32, fields := grinder }
    aimedCode State.reset f 106 { vf := 2610 } = 621 ∧ aimedCode State.reset f 107 { vf := 2630 } = 936 := by decide +kernel

/-- 18 R413: the identification register. -/
theorem test_identity : (next (exec .jtagIdcode woken)).jtag.shift = 0x24032001#32 := by decide +kernel

/-! The statements' states: for each statement with hypotheses, states and operands that meet those of each of its clauses. -/

theorem decoded_ok {x : Except CodecError Image} {i : Image}
    (h : (match x with
      | .ok j => j == i
      | .error _ => false) = true) : x = .ok i := by
  cases x <;> simp_all

theorem decoded_error {x : Except CodecError Image} {e : CodecError}
    (h : (match x with
      | .ok _ => false
      | .error d => d == e) = true) : x = .error e := by
  cases x <;> simp_all

theorem witness_StepTakesTheFrontCommand : stepTakes1.pending = [.vinValid, .aonUp] ∧ State.reset.pending = [] := by
  decide +kernel

theorem witness_EveryCommandKeepsTheOtherParts : exec .vinValid State.reset = .next vinState := rfl

theorem witness_EveryStepKeepsTheEventQueue : QueueOk woken.beacon ∧ step everyQueue1 = .next woken :=
  ⟨by unfold QueueOk; decide +kernel, rfl⟩

theorem witness_EveryStepKeepsTheBlocksDistinct :
    (BlocksOk guiding.pens ∧ step everyDistinct1 = .next guiding) ∧ memoryWf locked.matrix = true :=
  ⟨⟨by unfold BlocksOk; decide +kernel, rfl⟩, by decide +kernel⟩

theorem witness_ResetMeetsTheInvariants :
    powered.supply.vin = true ∧ powered.supply.ringHAbove = true ∧ powered.supply.ringH = false := by decide +kernel

/-- A head whose light nothing forbids, and one in reset. -/
theorem witness_EveryStepKeepsForbiddenLightOff : DarkSafe everyOff1 ∧ step everyOff1 = .next everyOff2 :=
  ⟨by unfold DarkSafe Forbidden Dark; decide +kernel, rfl⟩

theorem witness_EveryStepKeepsForbiddenLightOff_forbidden : Forbidden held ∧ DarkSafe held :=
  ⟨.inl (by decide +kernel), by unfold DarkSafe Forbidden Dark; decide +kernel⟩

theorem witness_TripLatchHoldsUntilReleased :
    exec (.manualChange true) tripped = .next { tripped with pins := { tripped.pins with manualLow := true } } ∧
      (∀ n, Instr.manualChange true ≠ .killRelease n) ∧ Instr.manualChange true ≠ .vinInvalid ∧
      TripCause.pdBlind ∈ tripped.safety.causes :=
  ⟨rfl, by simp, by simp, by decide +kernel⟩

theorem witness_OnlyACoreReleaseEndsTheReset :
    held.core.inReset = true ∧ exec (.coreRelease hits0) held = .next (next (exec (.coreRelease hits0) held)) ∧
      (next (exec (.coreRelease hits0) held)).core.inReset = false :=
  ⟨by decide +kernel, rfl, by decide +kernel⟩

/-- Clauses inside the statements on the codes, the references and the lamps. -/
theorem witness_inner_clauses :
    (strap codePass1 2 = true ∧ strap guiding 2 = false) ∧ (refinDeclared refin = true ∧ refinDeclared woken = false) ∧
      geometry lampHead (live lampHead) = some (4, 8) ∧ geometry ready1 (live ready1) = none ∧
      entryUsed lampOnly1.binding.live 0 = true ∧ (sysRuns readingA = true ∧ readingA.mem.reading = some (.spine .a)) ∧
      fnat (live cartridgeComes1) hotplugChatterCount <
        (cartridgeComes1.keeper.ticks :: recent (fnat (live cartridgeComes1) hotplugChatterWindow) cartridgeComes1.keeper.ticks
          cartridgeComes1.cart.history).length := by decide +kernel

theorem witness_SuppliesAreFollowed :
    (State.reset.supply.vin = false) ∧
    (vinState.supply.vin = true ∧ vinState.supply.aonUp = false) ∧
    (aonState.supply.aonUp = true ∧ aonState.supply.ringHAbove = true ∧ aonState.supply.ringH = false) ∧
    (State.reset.supply.vmir = false) ∧
    (guiding.supply.vin = true) :=
  by decide +kernel

theorem witness_ResetPulseIsWholeOrNothing :
    (guiding.supply.vin = true ∧ 1000 ≤ 1000) ∧
    (guiding.supply.vin = true ∧ 249 < 250) ∧
    (guiding.supply.vin = true ∧ 250 ≤ 250 ∧ 250 < 1000) ∧
    (guiding.supply.vin = true ∧ 250 ≤ 999 ∧ 999 < 1000) :=
  by decide +kernel

theorem witness_CoreResetDiscardsTheCore :
    (guiding.supply.ringH = true ∧ guiding.supply.ringHAbove = true) ∧
    (sagging.supply.ringH = true ∧ sagging.supply.ringHAbove = false) ∧
    (running guiding = true) :=
  by decide +kernel

theorem witness_MemorySupplyIsFollowed :
    (aonState.supply.aonUp = true ∧ aonState.supply.ringM = false) ∧
    (readingA.supply.ringM = true ∧ sysRuns readingA = true ∧ copyPref readingA = .a ∧ readingA.mem.reading = some (.spine
      (copyPref readingA)) ∧ readingA.codec.running = none) ∧
    (readingB.supply.ringM = true ∧ sysRuns readingB = true ∧ copyPref readingB = .b ∧ readingB.mem.reading = some (.spine
      (copyPref readingB)) ∧ readingB.codec.running = none) ∧
    (memorySupply1.supply.ringM = true ∧ sysRuns memorySupply1 = false) :=
  by decide +kernel

theorem witness_MirrorSupplyLossCoastsThePorts :
    (unpoweredMir.supply.vmir = true ∧ running unpoweredMir = false) ∧
    (guiding.supply.vmir = true ∧ running guiding = true) :=
  by decide +kernel

theorem witness_CoreReleaseTakesTheCodes :
    held.supply.vin = true ∧ held.supply.aonUp = true ∧ held.supply.ringH = true ∧ held.core.inReset = true ∧ 2 ≤
      held.aon.passes :=
  by decide +kernel

theorem witness_PllLockSelectsTheReference :
    (running woken = true ∧ woken.core.plls = false) ∧
    (running refin = true ∧ refin.core.plls = false) :=
  by decide +kernel

theorem witness_TheFlashIsResetAndRead :
    (running flashLow = true ∧ flashLow.mem.flashReset = FlashReset.low) ∧
    (sysRuns beforeRead = true ∧ beforeRead.core.plls = true ∧ beforeRead.supply.ringM = true ∧ beforeRead.core.noBinding =
      false ∧ beforeRead.core.folios = false ∧ beforeRead.mem.ackLow = false ∧ beforeRead.mem.bootHold = false ∧
      (beforeRead.mem.flashReset = FlashReset.waiting ∨ beforeRead.mem.flashReset = FlashReset.done) ∧
      beforeRead.mem.statusDue = false ∧ beforeRead.binding.reader.phase = Phase.idle ∧ domainHeld beforeRead Domain.mem =
      false ∧ beforeRead.mem.reading = none ∧ beforeRead.mem.waiting = []) ∧
    (running theFlash1 = true ∧ theFlash1.supply.ringM = false ∧ theFlash1.core.folios = false ∧ theFlash1.mem.bootHold =
      false) ∧
    (running theFlash2 = true ∧ theFlash2.supply.ringM = false ∧ theFlash2.core.folios = false ∧ theFlash2.mem.bootHold =
      true) :=
  by decide +kernel

theorem witness_LampOnlyServiceBegins :
    (sysRuns ready1 = true ∧ ready1.core.plls = true ∧ ready1.core.folios = true ∧ ready1.core.service = false) ∧
    (sysRuns lampHead = true ∧ lampHead.core.plls = true ∧ lampHead.core.folios = true ∧ lampHead.core.service = false) ∧
    (sysRuns lampOnly1 = true ∧ lampOnly1.core.plls = true ∧ lampOnly1.core.folios = true ∧ lampOnly1.core.service = false) :=
  by decide +kernel

theorem witness_CodePassIsJudged :
    (guiding.supply.vin = true ∧ guiding.supply.aonUp = true ∧ cartUnread guiding = false) ∧
    (codePass1.supply.vin = true ∧ codePass1.supply.aonUp = true ∧ cartUnread codePass1 = true) ∧
    (codePass2.supply.vin = true ∧ codePass2.supply.aonUp = true ∧ cartUnread codePass2 = true) ∧
    (held.supply.vin = true ∧ held.supply.aonUp = true ∧ held.core.inReset = true) :=
  by decide +kernel

theorem witness_CodeChangesAreActedOn :
    (running differing = true ∧ ballIndex CodeBall.toolH < 5 ∧ 8 ≤ (List.getD differing.aon.balls (ballIndex CodeBall.toolH)
      {}).differ ∧ (List.getD differing.aon.balls (ballIndex CodeBall.toolH) {}).reported = false) ∧
    (running differing = true ∧ 3 ≤ differing.safety.safeDiffer ∧ TripCause.codeSafe ∉ differing.safety.causes) :=
  by decide +kernel

theorem witness_PackPresenceIsFollowed :
    (packSeen.supply.aonUp = true ∧ 2 ≤ packSeen.pack.aboveRun ∧ packSeen.pack.present = false) ∧
    (packPresence1.supply.aonUp = true ∧ 2 ≤ packPresence1.pack.aboveRun ∧ packPresence1.pack.present = false) ∧
    (packHere.supply.aonUp = true ∧ packHere.pack.present = true ∧ 2 ≤ packHere.pack.belowRun) ∧
    (packPresence2.supply.aonUp = true ∧ packPresence2.pack.present = true ∧ 4 ≤ packPresence2.pack.bandRun ∧
      packPresence2.pack.belowRun < 2 ∧ (packPresence2.pack.scheme = 1 ∨ packPresence2.pack.scheme = 2)) ∧
    (packPresence3.supply.aonUp = true ∧ packPresence3.pack.retry = true ∧ running packPresence3 = true ∧
      packPresence3.pins.abortLow = true) ∧
    (packPresence4.supply.aonUp = true ∧ packPresence4.pack.retry = true ∧ (running packPresence4 = false ∨
      packPresence4.pins.abortLow = false) ∧ (packPresence4.pack.present = false ∨ packPresence4.cart.packChatter = true)) ∧
    (packRetrying.supply.aonUp = true ∧ packRetrying.pack.retry = true ∧ (running packRetrying = false ∨
      packRetrying.pins.abortLow = false) ∧ packRetrying.pack.present = true ∧ packRetrying.cart.packChatter = false) := by
  refine ⟨?_, ?_, ?_, ?_, ?_, ?_, ?_⟩ <;> decide +kernel

theorem witness_PackIdentityIsFollowed :
    (packHot.supply.aonUp = true ∧ packHot.pack.scheme = 2 ∧ 2 ≤ packHot.pack.tBadRun ∧ packHot.pack.tFault = false) ∧
    (pack3.supply.aonUp = true ∧ pack3.pack.present = true ∧ pack3.pack.scheme = 3 ∧ pack3.pack.silent = false) ∧
    (packWaits.supply.aonUp = true ∧ packWaits.pack.detecting = true ∧ packWaits.pack.present = true) ∧
    (packIdentity1.supply.aonUp = true ∧ packIdentity1.pack.present = true ∧ (packIdentity1.pack.candidate = true ∨
      packIdentity1.pack.scheme = 3) ∧ scheme3Decode 5000 [] = none ∧ packIdentity1.core.inReset = true) ∧
    (pack3.supply.aonUp = true ∧ pack3.pack.present = true ∧ (pack3.pack.candidate = true ∨ pack3.pack.scheme = 3) ∧
      scheme3Decode 4999 frame0 = none ∧ pack3.core.inReset = false ∧ pack3.core.halted = false) ∧
    (packWaits.supply.aonUp = true ∧ packWaits.pack.present = true ∧ (packWaits.pack.candidate = true ∨ packWaits.pack.scheme
      = 3) ∧ scheme3Decode 5000 frame0 = some 0 ∧ packWaits.pack.lastFrame ≠ some 0) ∧
    (pack3.supply.aonUp = true ∧ pack3.pack.present = true ∧ (pack3.pack.candidate = true ∨ pack3.pack.scheme = 3) ∧
      scheme3Decode 5000 frame0 = some 0 ∧ pack3.pack.lastFrame = some 0) ∧
    (packIdentity2.supply.aonUp = true ∧ packIdentity2.pack.present = true ∧ (packIdentity2.pack.candidate = true ∨
      packIdentity2.pack.scheme = 3) ∧ scheme3Decode 5000 frame0 = some 0 ∧ packIdentity2.pack.lastFrame = some 0 ∧
      packIdentity2.pack.scheme ≠ 3) := by
  refine ⟨?_, ?_, ?_, ?_, ?_, ?_, ?_, ?_⟩ <;> decide +kernel

theorem witness_CartridgeComesAndGoes :
    (running removing = true ∧ removing.cart.present = true ∧ cartUnread removing = false ∧ (false = true ∨ 2 ≤
      removing.aon.cartOob)) ∧
    (running cartridgeComes1 = true ∧ cartridgeComes1.cart.present = true ∧ cartUnread cartridgeComes1 = false ∧ (true = true
      ∨ 2 ≤ cartridgeComes1.aon.cartOob)) ∧
    (running arriving = true ∧ cartUnread arriving = false ∧ arriving.cart.present = false ∧ Option.isSome
      arriving.aon.cartAgree = true) ∧
    (serving cartridgeComes2 = true ∧ cartridgeComes2.cart.retry = true ∧ cartridgeComes2.pins.abortLow = true) ∧
    (serving retrying = true ∧ retrying.cart.retry = true ∧ retrying.pins.abortLow = false ∧ retrying.cart.present = true ∧
      mayQualify retrying = true) ∧
    (serving cartridgeComes3 = true ∧ cartridgeComes3.cart.retry = true ∧ cartridgeComes3.pins.abortLow = false ∧
      (cartridgeComes3.cart.present = false ∨ mayQualify cartridgeComes3 = false)) :=
  by decide +kernel

theorem witness_CrossCheckDecides :
    (serving crossing = true ∧ crossDue crossing Port.a = true ∧ crossing.pins.killLow = false ∧ crossing.safety.causes = [] ∧
      (crossResult crossing Port.a passing).bind (meetServing crossing.cart.pd) = some Serving.both) ∧
    (serving crossing = true ∧ crossDue crossing Port.a = true ∧ crossing.pins.killLow = false ∧ crossing.safety.causes = [] ∧
      (crossResult crossing Port.a failing).bind (meetServing crossing.cart.pd) = none ∧ (portOf crossing Port.a).restarting =
      false) ∧
    (serving crossCheck1 = true ∧ crossDue crossCheck1 Port.a = true ∧ crossCheck1.pins.killLow = false ∧
      crossCheck1.safety.causes = [] ∧ (crossResult crossCheck1 Port.a failing).bind (meetServing crossCheck1.cart.pd) = none
      ∧ (portOf crossCheck1 Port.a).restarting = true) ∧
    (serving crossCheck2 = true ∧ crossDue crossCheck2 Port.a = true ∧ crossCheck2.pins.killLow = false ∧
      crossCheck2.safety.causes = [] ∧ (crossResult crossCheck2 Port.a onlyFirst).bind (meetServing crossCheck2.cart.pd) =
      none ∧ (portOf crossCheck2 Port.a).restarting = false) :=
  by decide +kernel

theorem witness_DomainsAreWatchedAndReset :
    (running guiding = true ∧ guiding.core.plls = true ∧ guiding.core.halted = false ∧ List.length guiding.keeper.domains = 9
      ∧ (∀ (d : Domain), nth beats1 (domainNum d) % 16 ≠ (domainOf guiding d).beat)) ∧
    (running guiding = true ∧ guiding.core.plls = true ∧ guiding.core.halted = false ∧ pllDomain Domain.mem = true ∧
      domainHeld guiding Domain.mem = false ∧ List.length guiding.keeper.domains = 9) ∧
    (running (twiceReset Domain.sys) = true ∧ (twiceReset Domain.sys).core.plls = true ∧ (twiceReset Domain.sys).core.halted =
      false ∧ pllDomain Domain.sys = true ∧ domainHeld (twiceReset Domain.sys) Domain.sys = false ∧ List.length (twiceReset
      Domain.sys).keeper.domains = 9) ∧
    (running (twiceReset Domain.loopA) = true ∧ (twiceReset Domain.loopA).core.plls = true ∧ (twiceReset
      Domain.loopA).core.halted = false ∧ pllDomain Domain.loopA = true ∧ domainHeld (twiceReset Domain.loopA) Domain.loopA =
      false ∧ List.length (twiceReset Domain.loopA).keeper.domains = 9) ∧
    (running guiding = true ∧ guiding.core.plls = true ∧ guiding.core.halted = false ∧ pllDomain Domain.lamp = true ∧
      domainHeld guiding Domain.lamp = false ∧ List.length guiding.keeper.domains = 9) ∧
    (running guiding = true ∧ guiding.core.plls = true ∧ guiding.core.halted = false ∧ pllDomain Domain.edge = true ∧
      domainHeld guiding Domain.edge = false ∧ List.length guiding.keeper.domains = 9) ∧
    (running heldDomain = true ∧ heldDomain.core.halted = false ∧ (domainOf heldDomain Domain.mirA).held = true ∧ (domainOf
      heldDomain Domain.mirA).quarantined = false ∧ List.length heldDomain.keeper.domains = 9) ∧
    (running sysHeld = true ∧ sysHeld.core.halted = false ∧ (domainOf sysHeld Domain.sys).held = true ∧ (domainOf sysHeld
      Domain.sys).quarantined = false ∧ List.length sysHeld.keeper.domains = 9) :=
  ⟨⟨by decide +kernel, by decide +kernel, by decide +kernel, by decide +kernel, fun d => by cases d <;> decide +kernel⟩,
    by decide +kernel⟩

theorem witness_ReferencesAreJudged :
    (running guiding = true ∧ guiding.core.plls = true ∧ guiding.core.folios = true ∧ guiding.clocks.ringOk = false) ∧
    (running referencesAre4 = true ∧ referencesAre4.core.plls = true ∧ referencesAre4.core.folios = true ∧
      referencesAre4.clocks.selected = .ring) ∧
    (running twoRefs = true ∧ twoRefs.core.plls = true ∧ twoRefs.core.folios = true ∧ watchRefin twoRefs = true ∧ 4 ≤
      twoRefs.clocks.windows ∧ (windowOf twoRefs 0 1048537 5242880).cr = some 37 ∧ 150 < 4 * 38 ∧ (windowOf twoRefs 0 1048536
      5242880).cr = some 38) ∧
    (running twoRefs = true ∧ twoRefs.core.plls = true ∧ twoRefs.core.folios = true ∧ twoRefs.clocks.ringOk = true ∧ bothRefs
      twoRefs = true ∧ (windowOf twoRefs 0 1048891 5244453).cr = some (-300) ∧ (windowOf twoRefs 0 1048891 5244453).cw = some
      (-300) ∧ (windowOf twoRefs 0 1048891 5244453).rw = some 0 ∧ fnat (live twoRefs) clockTolPpm = 150) ∧
    (running referencesAre2 = true ∧ referencesAre2.core.plls = true ∧ referencesAre2.core.folios = true ∧
      referencesAre2.clocks.ringOk = true ∧ bothRefs referencesAre2 = true ∧ (windowOf referencesAre2 1048734 0 5243672).cr =
      some 151 ∧ (windowOf referencesAre2 1048734 0 5243672).rw = some (-151) ∧ (windowOf referencesAre2 1048734 0 5243672).cw
      = some 0 ∧ fnat (live referencesAre2) clockTolPpm = 150) ∧
    (running guiding = true ∧ guiding.core.plls = true ∧ guiding.clocks.selected ≠ RefSource.ring ∧ guiding.clocks.holdover =
      false) ∧
    (running twoRefs = true ∧ twoRefs.core.plls = true ∧ twoRefs.clocks.selected ≠ RefSource.ring ∧ twoRefs.clocks.holdover =
      false) ∧
    (running referencesAre3 = true ∧ referencesAre3.core.plls = true ∧ referencesAre3.clocks.selected ≠ RefSource.ring ∧
      referencesAre3.clocks.holdover = false) ∧
    (running holding = true ∧ holding.clocks.holdover = true ∧ holding.clocks.lost = some RefSource.crystal) :=
  by decide +kernel

theorem witness_NoMajorityKeepsTheReference :
    (running twoRefs = true ∧ twoRefs.core.plls = true ∧ twoRefs.core.folios = true ∧ twoRefs.clocks.ringOk = true ∧ bothRefs
      twoRefs = true ∧ (windowOf twoRefs 0 1048261 5244453).cr = some 300 ∧ (windowOf twoRefs 0 1048261 5244453).cw = some
      (-300) ∧ (windowOf twoRefs 0 1048261 5244453).rw = some (-600) ∧ fnat (live twoRefs) clockTolPpm = 150) ∧
    (running noMajority1 = true ∧ noMajority1.core.plls = true ∧ noMajority1.core.folios = true ∧ noMajority1.clocks.ringOk =
      true ∧ bothRefs noMajority1 = true ∧ (windowOf noMajority1 0 1048735 5243276).cr = some (-152) ∧ (windowOf noMajority1 0
      1048735 5243276).cw = some (-76) ∧ (windowOf noMajority1 0 1048735 5243276).rw = some 76 ∧ fnat (live noMajority1)
      clockTolPpm = 150) :=
  by decide +kernel

theorem witness_VoltageReferencesAreChecked :
    (running vref3 = true ∧ vref3.core.plls = true ∧ 50 < Int.natAbs 51 ∧ Int.natAbs (51 - 51) ≤ 25 ∧ vref3.clocks.vrefAFailed
      = false ∧ vref3.clocks.vrefBFailed = false ∧ vref3.clocks.vselRun = 3) ∧
    (running voltageReferences1 = true ∧ voltageReferences1.core.plls = true ∧ 50 < Int.natAbs (-51) ∧ 50 < Int.natAbs (-76) ∧
      Int.natAbs (-51 - -76) ≤ 25 ∧ voltageReferences1.clocks.vrefAFailed = false ∧ voltageReferences1.clocks.vrefBFailed =
      false ∧ voltageReferences1.clocks.vselRun = 3) ∧
    (running vref3 = true ∧ vref3.core.plls = true ∧ Int.natAbs 50 ≤ 50 ∧ Int.natAbs 0 ≤ 50 ∧ Int.natAbs (50 - 0) ≤ 50 ∧
      Int.natAbs 200 ≤ 200) ∧
    (running safe3 = true ∧ safe3.core.plls = true ∧ 200 < Int.natAbs 201 ∧ 3 ≤ safe3.safety.refRun ∧ TripCause.safeRef ∉
      safe3.safety.causes) :=
  by decide +kernel

theorem witness_HoldsHandOverTheBus :
    (running guiding = true ∧ guiding.pins.holdLow = false ∧ 50 ≤ 50) ∧
    (running guiding = true ∧ guiding.pins.holdLow = false ∧ 49 < 50) ∧
    (running holdsHand1 = true ∧ holdsHand1.pins.holdLow = true ∧ holdsHand1.mem.bootHold = true ∧ holdsHand1.mem.bootLow =
      false) ∧
    (running hostHolds = true ∧ hostHolds.pins.holdLow = true ∧ (hostHolds.mem.bootHold = false ∨ hostHolds.mem.bootLow =
      true) ∧ hostHolds.mem.flashReset ≠ .none) ∧
    (running holdsHand2 = true ∧ holdsHand2.pins.holdLow = true ∧ (holdsHand2.mem.bootHold = false ∨ holdsHand2.mem.bootLow =
      true) ∧ holdsHand2.mem.flashReset = .none) ∧
    (running polling = true ∧ polling.mem.statusDue = true ∧ polling.mem.ackLow = false ∧ domainHeld polling Domain.mem =
      false ∧ none ≠ some false ∧ some true ≠ some false) ∧
    (running polling = true ∧ polling.mem.statusDue = true ∧ polling.mem.ackLow = false ∧ domainHeld polling Domain.mem =
      false ∧ polling.core.noBinding = false ∧ polling.mem.flashReset = .done ∧ polling.mem.reading = none ∧
      polling.mem.waiting = [.spine .a]) ∧
    (running pollingReads = true ∧ pollingReads.mem.statusDue = true ∧ pollingReads.mem.ackLow = false ∧ domainHeld
      pollingReads Domain.mem = false ∧ pollingReads.core.noBinding = false ∧ pollingReads.mem.flashReset = .done ∧
      Option.isSome pollingReads.mem.reading = true) ∧
    (running pollingIdle = true ∧ pollingIdle.mem.statusDue = true ∧ pollingIdle.mem.ackLow = false ∧ domainHeld pollingIdle
      Domain.mem = false ∧ readUnderWay pollingIdle = false ∧ pollingIdle.mem.waiting = []) ∧
    (running polling = true ∧ polling.mem.statusDue = true ∧ polling.mem.ackLow = false ∧ polling.mem.busyReported = false) ∧
    (running hostHolds = true ∧ hostHolds.mem.ackLow = true ∧ hostHolds.mem.longReported = false) :=
  by decide +kernel

theorem witness_ReadsReachTheReader :
    (sysRuns readingSpine = true ∧ busFree readingSpine = true ∧ readingSpine.supply.ringM = true ∧ copyPref readingSpine = .a
      ∧ readingSpine.mem.reading = some (MemItem.spine Copy.a)) ∧
    (sysRuns readingB = true ∧ busFree readingB = true ∧ readingB.supply.ringM = true ∧ copyPref readingB = .b ∧
      readingB.mem.reading = some (MemItem.spine Copy.b)) ∧
    (sysRuns readsReach1 = true ∧ busFree readsReach1 = true ∧ readsReach1.supply.ringM = true ∧ copyPref readsReach1 = .a ∧
      readsReach1.mem.reading = some (MemItem.header Copy.a)) ∧
    (sysRuns readsReach4 = true ∧ busFree readsReach4 = true ∧ readsReach4.supply.ringM = false ∧ copyPref readsReach4 = .a ∧
      readsReach4.mem.reading = some (MemItem.spine Copy.a)) ∧
    (sysRuns readsReach2 = true ∧ busFree readsReach2 = true ∧ readsReach2.mem.mode = MemMode.d8 ∧ copyPref readsReach2 = .a ∧
      readsReach2.mem.reading = some (MemItem.spine Copy.a)) ∧
    (sysRuns readsReach3 = true ∧ busFree readsReach3 = true ∧ readsReach3.mem.mode = MemMode.d8 ∧ readsReach3.mem.reading =
      none ∧ readsReach3.codec.running = none) ∧
    (readCommands .d8 1 [(0x103, 66)] =
      [{ opcode := 0xEE11, addr := some 0x102, len := 64 }, { opcode := 0xEE11, addr := some 0x142, len := 4 }]) :=
  by decide +kernel

theorem witness_GatheringsOpenAndClose :
    (sysRuns guiding = true ∧ guiding.gather.state = GatherState.closed ∧ 50 ≤ 50 ∧ stat guiding ≠ 0 ∧ stat guiding ≠ 7 ∧
      guiding.pins.abortLow = false ∧ (domainOf guiding Domain.mem).quarantined = false) ∧
    (sysRuns abortLow = true ∧ abortLow.gather.state = GatherState.closed ∧ 50 ≤ 50 ∧ stat abortLow ≠ 0 ∧ stat abortLow ≠ 7 ∧
      abortLow.pins.abortLow = true) ∧
    (sysRuns memOut = true ∧ memOut.gather.state = GatherState.closed ∧ 50 ≤ 50 ∧ stat memOut ≠ 0 ∧ stat memOut ≠ 7 ∧
      memOut.pins.abortLow = false ∧ (domainOf memOut Domain.mem).quarantined = true) ∧
    (sysRuns ready1 = true ∧ ready1.gather.state = GatherState.closed ∧ 50 ≤ 50 ∧ (stat ready1 = 0 ∨ stat ready1 = 7)) ∧
    (sysRuns opened = true ∧ opened.gather.state = GatherState.opened ∧ 50 ≤ 50) ∧
    (sysRuns opened = true ∧ opened.gather.state = GatherState.opened) :=
  by decide +kernel

theorem witness_ShortLevelsAreWholeOrNothing :
    (sysRuns guiding = true ∧ 49 < 50 ∧ guiding.gather.state = GatherState.closed) ∧
    (sysRuns opened = true ∧ 49 < 50 ∧ opened.gather.state = GatherState.opened) ∧
    (sysRuns opened = true ∧ 49 < 50) ∧
    (sysRuns guiding = true ∧ 39 < 40 ∧ guiding.pins.abortLow = false) :=
  by decide +kernel

theorem witness_StitchRequestsBeginAValidation :
    (sysRuns opened = true ∧ opened.gather.state = GatherState.opened ∧ 50 ≤ 50) ∧
    (sysRuns guiding = true ∧ guiding.gather.state ≠ GatherState.opened ∧ 50 ≤ 50) :=
  by decide +kernel

theorem witness_StitchesAreJudged :
    (sysRuns (validating none) = true ∧ (validating none).gather.state = GatherState.validate ∧ (validating
      none).binding.reader.stitch = true ∧ (validating none).binding.reader.phase = Phase.done ∧ (validating
      none).gather.bridgeDue = false ∧ (validating none).binding.reader.found = none) ∧
    (sysRuns (validating (some bootSig)) = true ∧ (validating (some bootSig)).gather.state = GatherState.validate ∧
      (validating (some bootSig)).binding.reader.stitch = true ∧ (validating (some bootSig)).binding.reader.phase = Phase.done
      ∧ (validating (some bootSig)).gather.bridgeDue = false ∧ (validating (some bootSig)).binding.reader.found = some bootSig
      ∧ bootChanged (live (validating (some bootSig))) bootSig.folios = true) ∧
    (sysRuns valLeaf = true ∧ valLeaf.gather.state = GatherState.validate ∧ valLeaf.binding.reader.stitch = true ∧
      valLeaf.binding.reader.phase = Phase.done ∧ valLeaf.gather.bridgeDue = false ∧ valLeaf.binding.reader.found = some
      nextSig ∧ bootChanged (live valLeaf) nextSig.folios = false ∧ Option.isSome valLeaf.binding.reader.leafFailed = true) ∧
    (sysRuns valHeader = true ∧ valHeader.gather.state = GatherState.validate ∧ valHeader.binding.reader.stitch = true ∧
      valHeader.binding.reader.phase = Phase.done ∧ valHeader.gather.bridgeDue = false ∧ valHeader.binding.reader.found = some
      nextSig ∧ bootChanged (live valHeader) nextSig.folios = false ∧ valHeader.binding.reader.leafFailed = none ∧ badHeader
      valHeader nextSig (Option.getD valHeader.gather.entry 0) = some (0, 6, 0)) ∧
    (sysRuns valCal = true ∧ valCal.gather.state = GatherState.validate ∧ valCal.binding.reader.stitch = true ∧
      valCal.binding.reader.phase = Phase.done ∧ valCal.gather.bridgeDue = false ∧ valCal.binding.reader.found = some nextSig
      ∧ bootChanged (live valCal) nextSig.folios = false ∧ valCal.binding.reader.leafFailed = none ∧ badHeader valCal nextSig
      (Option.getD valCal.gather.entry 0) = none ∧ valCal.binding.reader.calReason ≠ 0) ∧
    (sysRuns valUnfit = true ∧ valUnfit.gather.state = GatherState.validate ∧ valUnfit.binding.reader.stitch = true ∧
      valUnfit.binding.reader.phase = Phase.done ∧ valUnfit.gather.bridgeDue = false ∧ valUnfit.binding.reader.found = some
      unfitSig ∧ bootChanged (live valUnfit) unfitSig.folios = false ∧ valUnfit.binding.reader.leafFailed = none ∧ badHeader
      valUnfit unfitSig (Option.getD valUnfit.gather.entry 0) = none ∧ valUnfit.binding.reader.calReason = 0 ∧ calUnfit
      valUnfit unfitSig = true) ∧
    (sysRuns (validating (some nextSig)) = true ∧ (validating (some nextSig)).gather.state = GatherState.validate ∧
      (validating (some nextSig)).binding.reader.stitch = true ∧ (validating (some nextSig)).binding.reader.phase = Phase.done
      ∧ (validating (some nextSig)).gather.bridgeDue = false ∧ (validating (some nextSig)).binding.reader.found = some nextSig
      ∧ bootChanged (live (validating (some nextSig))) nextSig.folios = false ∧ (validating (some
      nextSig)).binding.reader.leafFailed = none ∧ badHeader (validating (some nextSig)) nextSig (Option.getD (validating
      (some nextSig)).gather.entry 0) = none ∧ (validating (some nextSig)).binding.reader.calReason = 0 ∧ calUnfit (validating
      (some nextSig)) nextSig = false ∧ stitchNeed (validating (some nextSig)) nextSig ≤ roomBlocks (validating (some
      nextSig)).pens) ∧
    (sysRuns (crowded 128 []) = true ∧ (crowded 128 []).gather.state = GatherState.validate ∧ (crowded 128
      []).binding.reader.stitch = true ∧ (crowded 128 []).binding.reader.phase = Phase.done ∧ (crowded 128
      []).gather.bridgeDue = false ∧ (crowded 128 []).binding.reader.found = some calSig ∧ bootChanged (live (crowded 128 []))
      calSig.folios = false ∧ (crowded 128 []).binding.reader.leafFailed = none ∧ badHeader (crowded 128 []) calSig
      (Option.getD (crowded 128 []).gather.entry 0) = none ∧ (crowded 128 []).binding.reader.calReason = 0 ∧ calUnfit (crowded
      128 []) calSig = false ∧ roomBlocks (crowded 128 []).pens < stitchNeed (crowded 128 []) calSig ∧ (fbit (live (crowded
      128 [])) gatherNoDark = true ∨ roomBlocks (crowded 128 []).pens + droppableBlocks (holdStitch calSig (crowded 128
      []).gather.entry (crowded 128 [])) < stitchNeed (crowded 128 []) calSig)) ∧
    (sysRuns (crowded 127 [(0, shownPen)]) = true ∧ (crowded 127 [(0, shownPen)]).gather.state = GatherState.validate ∧
      (crowded 127 [(0, shownPen)]).binding.reader.stitch = true ∧ (crowded 127 [(0, shownPen)]).binding.reader.phase =
      Phase.done ∧ (crowded 127 [(0, shownPen)]).gather.bridgeDue = false ∧ (crowded 127 [(0, shownPen)]).binding.reader.found
      = some calSig ∧ bootChanged (live (crowded 127 [(0, shownPen)])) calSig.folios = false ∧ (crowded 127 [(0,
      shownPen)]).binding.reader.leafFailed = none ∧ badHeader (crowded 127 [(0, shownPen)]) calSig (Option.getD (crowded 127
      [(0, shownPen)]).gather.entry 0) = none ∧ (crowded 127 [(0, shownPen)]).binding.reader.calReason = 0 ∧ calUnfit (crowded
      127 [(0, shownPen)]) calSig = false ∧ roomBlocks (crowded 127 [(0, shownPen)]).pens < stitchNeed (crowded 127 [(0,
      shownPen)]) calSig ∧ fbit (live (crowded 127 [(0, shownPen)])) gatherNoDark = false ∧ stitchNeed (crowded 127 [(0,
      shownPen)]) calSig ≤ roomBlocks (crowded 127 [(0, shownPen)]).pens + droppableBlocks (holdStitch calSig (crowded 127
      [(0, shownPen)]).gather.entry (crowded 127 [(0, shownPen)]))) ∧
    (sysRuns noDarkState = true ∧ noDarkState.gather.state = GatherState.validate ∧ noDarkState.binding.reader.stitch = true ∧
      noDarkState.binding.reader.phase = Phase.done ∧ noDarkState.gather.bridgeDue = false ∧ noDarkState.binding.reader.found
      = some calSig ∧ bootChanged (live noDarkState) calSig.folios = false ∧ noDarkState.binding.reader.leafFailed = none ∧
      badHeader noDarkState calSig (Option.getD noDarkState.gather.entry 0) = none ∧ noDarkState.binding.reader.calReason = 0
      ∧ calUnfit noDarkState calSig = false ∧ roomBlocks noDarkState.pens < stitchNeed noDarkState calSig ∧ (fbit (live
      noDarkState) gatherNoDark = true ∨ roomBlocks noDarkState.pens + droppableBlocks (holdStitch calSig
      noDarkState.gather.entry noDarkState) < stitchNeed noDarkState calSig)) := by
  refine ⟨?_, ?_, ?_, ?_, ?_, ?_, ?_, ?_, ?_, ?_⟩ <;> decide +kernel

theorem witness_DecodeStepEnds :
    (sysRuns (decoding GatherState.decode []) = true ∧ decodeComplete (decoding GatherState.decode []) = true ∧ (decoding
      GatherState.decode []).gather.state = GatherState.decode ∧ (decoding GatherState.decode []).gather.changed = []) ∧
    (sysRuns (decoding GatherState.decode [SItem.amp Port.a]) = true ∧ decodeComplete (decoding GatherState.decode [SItem.amp
      Port.a]) = true ∧ (decoding GatherState.decode [SItem.amp Port.a]).gather.state = GatherState.decode ∧ (decoding
      GatherState.decode [SItem.amp Port.a]).gather.changed ≠ []) ∧
    (sysRuns (decoding GatherState.darkDecode [SItem.amp Port.a, SItem.amp Port.b]) = true ∧ decodeComplete (decoding
      GatherState.darkDecode [SItem.amp Port.a, SItem.amp Port.b]) = true ∧ (decoding GatherState.darkDecode [SItem.amp
      Port.a, SItem.amp Port.b]).gather.state = GatherState.darkDecode ∧ (decoding GatherState.darkDecode [SItem.amp Port.a,
      SItem.amp Port.b]).gather.shadow = some nextSig) ∧
    (sysRuns (decoding GatherState.decode []) = true ∧ (decoding GatherState.decode []).gather.bridgeDue = false ∧ (decoding
      GatherState.decode []).gather.state = GatherState.decode) ∧
    (sysRuns (decoding GatherState.darkDecode []) = true ∧ (decoding GatherState.darkDecode []).gather.bridgeDue = false ∧
      (decoding GatherState.darkDecode []).gather.state = GatherState.darkDecode) :=
  by decide +kernel

theorem witness_RampsConvergeOrReturn :
    (running ramping = true ∧ SItem.amp Port.a ∈ ramping.gather.ramping ∧ itemConverges ramping (List.replicate 64 2000)
      (SItem.amp Port.a) = true ∧ ramping.gather.restoring = false ∧ ramping.gather.state = GatherState.ramp) ∧
    (running restoringBack = true ∧ SItem.amp Port.a ∈ restoringBack.gather.ramping ∧ itemConverges restoringBack
      (List.replicate 64 2000) (SItem.amp Port.a) = true ∧ restoringBack.gather.restoring = false ∧ restoringBack.gather.state
      = GatherState.restore ∧ restoringBack.gather.restoreDue = false ∧ restoringBack.gather.ramping = [SItem.amp Port.a]) ∧
    (sysRuns ramping = true ∧ ramping.gather.state = GatherState.ramp) ∧
    (sysRuns rampsConverge1 = true ∧ rampsConverge1.gather.state = GatherState.ramp) ∧
    (sysRuns restAbort = true ∧ restAbort.gather.restoreFailed = true ∧ restAbort.gather.state = GatherState.closed ∧
      restAbort.pins.abortLow = true) ∧
    (sysRuns restJob = true ∧ restJob.gather.restoreFailed = true ∧ restJob.gather.state = GatherState.closed ∧
      restJob.pins.abortLow = false ∧ restoreJobs restJob = true) ∧
    (sysRuns restFailed = true ∧ restFailed.gather.restoreFailed = true ∧ restFailed.gather.state = GatherState.closed ∧
      restFailed.pins.abortLow = false ∧ restoreJobs restFailed = false ∧ leavesHeld restFailed restFailed.binding.live
      (shownLeaves restFailed) = true) ∧
    (sysRuns restShown = true ∧ restShown.gather.restoreFailed = true ∧ restShown.gather.state = GatherState.closed ∧
      restShown.pins.abortLow = false ∧ restoreJobs restShown = false ∧ leavesHeld restShown restShown.binding.live
      (shownLeaves restShown) = false) ∧
    (sysRuns rampsConverge2 = true ∧ rampsConverge2.gather.restoreFailed = true ∧ rampsConverge2.gather.state =
      GatherState.closed ∧ rampsConverge2.pins.abortLow = false ∧ restoreJobs rampsConverge2 = false ∧ leavesHeld
      rampsConverge2 rampsConverge2.binding.live (shownLeaves rampsConverge2) = true) := by
  refine ⟨?_, ?_, ?_, ?_, ?_, ?_, ?_, ?_, ?_⟩ <;> decide +kernel

theorem witness_AbortStopsAndReleases :
    (sysRuns busyHead = true ∧ busyHead.pins.abortLow = false ∧ 40 ≤ 40 ∧ busyHead.gather.state = .closed) ∧
    (sysRuns opened = true ∧ opened.pins.abortLow = false ∧ 40 ≤ 40) ∧
    (sysRuns ramping = true ∧ ramping.pins.abortLow = false ∧ 40 ≤ 40) ∧
    (sysRuns restoringBack = true ∧ restoringBack.pins.abortLow = false ∧ restoringBack.gather.state = .restore ∧ 40 ≤ 40) ∧
    (sysRuns (decoding GatherState.swapWait []) = true ∧ (decoding GatherState.swapWait []).pins.abortLow = false ∧ 40 ≤ 40) ∧
    (sysRuns (decoding GatherState.darkDecode []) = true ∧ (decoding GatherState.darkDecode []).pins.abortLow = false ∧ 40 ≤
      40) ∧
    (sysRuns abortStops1 = true ∧ abortStops1.pins.abortLow = false ∧ 40 ≤ 40 ∧ abortStops1.canvas.frame.isSome = true) ∧
    (sysRuns abortStops2 = true ∧ abortStops2.gather.aborting = true) ∧
    (running abortLow = true ∧ abortLow.pins.abortLow = true ∧ abortLow.cart.retryDue = false ∧ abortLow.cart.expiredDue =
      false ∧ abortLow.pack.expiredDue = false ∧ abortLow.gather.restoreDue = false ∧ abortLow.gather.retryDue = false ∧
      abortLow.codec.preloadDue = false) ∧
    (running abortStops3 = true ∧ abortStops3.pins.abortLow = true ∧ abortStops3.cart.retryDue = true ∧
      abortStops3.cart.expiredDue = false ∧ abortStops3.cart.chatter = false) ∧
    (running abortStops4 = true ∧ abortStops4.pins.abortLow = true ∧ abortStops4.cart.retryDue = false ∧
      abortStops4.cart.expiredDue = true ∧ abortStops4.cart.present = true ∧ mayQualify abortStops4 = true) := by
  refine ⟨?_, ?_, ?_, ?_, ?_, ?_, ?_, ?_, ?_, ?_, ?_⟩ <;> decide +kernel

theorem witness_LeafJobsStart :
    (sysRuns leafJobsStart1 = true ∧ busFree leafJobsStart1 = true ∧ leafJobsStart1.codec.running = none ∧
      leafJobsStart1.codec.queue = [glyphJob] ∧ glyphJob.requester = Requester.pattern ∧ glyphJob.joined = [] ∧ glyphJob.kind
      < 3 ∧ glyphJob.fromTwin = false ∧ penWith leafJobsStart1 (jobKey glyphJob) = some 0) ∧
    (sysRuns asking = true ∧ busFree asking = true ∧ asking.codec.running = none ∧ asking.codec.queue = [glyphJob] ∧ penWith
      asking (jobKey glyphJob) = none ∧ leafHeaderError (limitsOf asking glyphJob) glyph glyphJob.leafLength = none ∧
      leafOutSpace glyph ≤ List.length (freeBlocks asking.pens) ∧ penOf asking asking.pens.next = none) ∧
    (sysRuns (full asking 128) = true ∧ busFree (full asking 128) = true ∧ (full asking 128).codec.running = none ∧ (full
      asking 128).codec.queue = [glyphJob] ∧ penWith (full asking 128) (jobKey glyphJob) = none ∧ leafHeaderError (limitsOf
      (full asking 128) glyphJob) glyph glyphJob.leafLength = none ∧ roomBlocks (full asking 128).pens < leafOutSpace glyph ∧
      reclaimable (full asking 128) = []) ∧
    (nextJob guiding = none) ∧
    (running retired = true ∧ penOf retired 0 = some retiringPen ∧ retiringPen.state = .retiring ∧ retiringPen.waitA = false ∧
      retiringPen.waitB = false ∧ retiringPen.waitLamp = false ∧ busyPen retired retiringPen = false) :=
  by decide +kernel

theorem witness_LeafJobsPublish :
    (sysRuns decoding1 = true ∧ busFree decoding1 = true ∧ decoding1.codec.running = some startedJob ∧ startedJob.started =
      true ∧ startedJob.kind < 3 ∧ startedJob.requester = Requester.pattern ∧ startedJob.joined = [] ∧ startedJob.pen = some 0
      ∧ itemReason decoding1.fuses startedJob.src 0 startedJob.leaf startedJob.crc glyph [] (true && decoding1.supply.ringM) =
      0) ∧ decodeLeaf (limitsOf decoding1 startedJob) glyph = Except.ok glyphImage ∧
    (sysRuns leafJobsPublish1 = true ∧ busFree leafJobsPublish1 = true ∧ leafJobsPublish1.codec.running = some brokenJob ∧
      brokenJob.started = true ∧ brokenJob.kind < 3 ∧ brokenJob.requester = Requester.pattern ∧ brokenJob.joined = [] ∧
      brokenJob.pen = some 0 ∧ itemReason leafJobsPublish1.fuses brokenJob.src 0 brokenJob.leaf brokenJob.crc broken [] (true
      && leafJobsPublish1.supply.ringM) = 0) ∧ decodeLeaf (limitsOf leafJobsPublish1 brokenJob) broken = Except.error (4, 26) ∧
    (itemReason decoding1.fuses startedJob.src 0 startedJob.leaf startedJob.crc glyph [] (false && decoding1.supply.ringM) ≠ 0
      ∧ itemReason decoding1.fuses startedJob.src 0 startedJob.leaf startedJob.crc (List.drop 1 glyph) [] true ≠ 0 ∧
      startedJob.fromTwin = false ∧ startedJob.repeats < fnat (live decoding1) memportRetry) ∧
    (sysRuns (calLoading calBytes) = true ∧ busFree (calLoading calBytes) = true ∧ (calLoading calBytes).codec.running = some
      (calJob1 calBytes) ∧ (calJob1 calBytes).started = true ∧ (calJob1 calBytes).kind = 3 ∧ (calJob1 calBytes).requester =
      Requester.calibration ∧ (calJob1 calBytes).joined = [] ∧ (calJob1 calBytes).pen = some 0 ∧ (calLoading
      calBytes).cart.step = QualStep.calibration ∧ (calLoading calBytes).cart.code = (calJob1 calBytes).leaf ∧ itemReason
      (calLoading calBytes).fuses (calJob1 calBytes).src 1 (calJob1 calBytes).leaf (calJob1 calBytes).crc calBytes [] (true &&
      (calLoading calBytes).supply.ringM) = 0 ∧ calRangeOk (calJob1 calBytes).src.folios calBytes = true ∧ calFits (calLoading
      calBytes) (calJob1 calBytes).src.folios calBytes = true) ∧
    (sysRuns (calLoading (zerosOf 192)) = true ∧ busFree (calLoading (zerosOf 192)) = true ∧ (calLoading (zerosOf
      192)).codec.running = some (calJob1 (zerosOf 192)) ∧ (calLoading (zerosOf 192)).cart.step = QualStep.calibration ∧
      (calLoading (zerosOf 192)).cart.code = (calJob1 (zerosOf 192)).leaf ∧ itemReason (calLoading (zerosOf 192)).fuses
      (calJob1 (zerosOf 192)).src 1 (calJob1 (zerosOf 192)).leaf (calJob1 (zerosOf 192)).crc (zerosOf 192) [] true = 0 ∧
      (calRangeOk (calJob1 (zerosOf 192)).src.folios (zerosOf 192) = false ∨ calFits (calLoading (zerosOf 192)) (calJob1
      (zerosOf 192)).src.folios (zerosOf 192) = false)) :=
  ⟨by decide +kernel, decoded_ok (by decide +kernel), by decide +kernel, decoded_error (by decide +kernel), by decide +kernel,
    by decide +kernel, by decide +kernel⟩

theorem witness_ArbiterGrantsTheUrgent :
    let here := fun (s : State) (k : Nat) (reqs : List MatrixReq) =>
      let u := sampleLevels calm (completeBurst k s)
      eligible u k (outstanding u reqs)
    let clean := fun (s : State) (k : Nat) (reqs : List MatrixReq) =>
      (here s k reqs).all fun r => (breachAt k (sampleLevels calm (completeBurst k s)) r).isNone
    let zeros := [req 0 536870912 8 false false, req 1 536870912 8 false false]
    let lost := [req 6 536870912 8 false false]
    let ninth := [req 6 0x40 5 true true]
    let away := [req 6 0x80000 1 true true]
    (sysRuns hostHolds = true ∧ 6 < 8 ∧ hostHolds.matrix.arbiters.length = 8 ∧ hostHolds.matrix.answers.length = 8 ∧
      hostHolds.mem.ackLow = true) ∧
    (sysRuns guiding = true ∧ 0 < 8 ∧ guiding.matrix.arbiters.length = 8 ∧ guiding.matrix.answers.length = 8 ∧ (∀ r ∈ noReqs,
      r.master < 8) ∧ (0 ≠ 6 ∨ guiding.mem.ackLow = false) ∧ here guiding 0 noReqs = []) ∧
    ((∀ r ∈ contest, r.master < 8) ∧ clean guiding 0 contest = true ∧ lockAt guiding 0 = none ∧ here guiding 0 contest ≠ []) ∧
    ((∀ r ∈ zeros, r.master < 8) ∧ clean guiding 7 zeros = true ∧ lockAt guiding 7 = none ∧ here guiding 7 zeros = zeros) ∧
    ((∀ r ∈ lost, r.master < 8) ∧ clean guiding 7 lost = true ∧ here guiding 7 lost = lost ∧ guiding.keeper.domains.length =
      9) ∧
    (sysRuns locked = true ∧ locked.matrix.arbiters.length = 8 ∧ locked.matrix.answers.length = 8 ∧ lockAt locked 0 = some
      lock0 ∧ clean locked 0 [req 0 0 8 false false] = true ∧ (∀ r ∈ here locked 0 [req 0 0 8 false false], ofLock lock0 r =
      false) ∧ here locked 0 [req 0 0 8 false false] ≠ []) ∧
    (clean locked 0 contest = true ∧ ∃ r ∈ here locked 0 contest, ofLock lock0 r = true) ∧
    ((here locked 0 ninth).map (breachAt 0 (sampleLevels calm locked)) = [some 0]) ∧
    ((here locked 1 away).map (breachAt 1 (sampleLevels calm locked)) = [some 0]) :=
  by decide +kernel

theorem witness_LockedWritesArriveWhole :
    (sysRuns bursting = true ∧ bursting.matrix.arbiters.length = 8 ∧ bursting.matrix.answers.length = 8 ∧ ((arbiterAt bursting
      0).burst.map fun b => (b.request.write && decide (b.request.master < 8), b.request.lock, b.dropped)) = some (true, false,
      false)) ∧
    (BlocksOk bursting.pens ∧ (bursting.pens.list.map (·.1)).Nodup) ∧
    (sysRuns locked = true ∧ locked.matrix.arbiters.length = 8 ∧ locked.matrix.answers.length = 8 ∧ lock0.master < 8 ∧ lockAt
      locked 0 = some lock0 ∧ (arbiterAt locked 0).burst.isNone = true) ∧
    (BlocksOk locked.pens ∧ (locked.pens.list.map (·.1)).Nodup) ∧
    (sysRuns guiding = true ∧ lockAt guiding 6 = none ∧ guiding.matrix.answers.length = 8 ∧ (6 = 6 ∨ 6 = 7) ∧ (7 = 6 ∨ 7 = 7)) :=
  ⟨by decide +kernel, by unfold BlocksOk; decide +kernel, by decide +kernel, by unfold BlocksOk; decide +kernel,
    by decide +kernel⟩

theorem witness_SelectionsBecomePending :
    (running halted1 = true ∧ domainHeld halted1 Domain.sys = false ∧ 50 ≤ 50 ∧ halted1.gather.restoreFailed = false ∧
      halted1.core.halted = true) ∧
    (running ready1 = true ∧ domainHeld ready1 Domain.sys = false ∧ 50 ≤ 50 ∧ ready1.gather.restoreFailed = false ∧
      ready1.core.service = false ∧ ready1.core.halted = false) ∧
    (running guiding = true ∧ domainHeld guiding Domain.sys = false ∧ 50 ≤ 50 ∧ guiding.gather.restoreFailed = false ∧
      guiding.core.service = true ∧ guiding.core.halted = false ∧ entryUsed guiding.binding.live ((2#6).toNat) = false) ∧
    (running shows0 = true ∧ domainHeld shows0 Domain.sys = false ∧ 50 ≤ 50 ∧ shows0.gather.restoreFailed = false ∧
      shows0.core.service = true ∧ shows0.core.halted = false ∧ entryUsed shows0.binding.live ((0#6).toNat) = true ∧
      shownEntry shows0 = some ((0#6).toNat) ∧ stitchSeen shows0 = false) ∧
    (running seenStitch = true ∧ domainHeld seenStitch Domain.sys = false ∧ 50 ≤ 50 ∧ seenStitch.gather.restoreFailed = false
      ∧ seenStitch.core.service = true ∧ seenStitch.core.halted = false ∧ entryUsed seenStitch.binding.live ((0#6).toNat) =
      true ∧ shownEntry seenStitch = some ((0#6).toNat) ∧ stitchSeen seenStitch = true) ∧
    (running selectionsBecome1 = true ∧ domainHeld selectionsBecome1 Domain.sys = false ∧ 50 ≤ 50 ∧
      selectionsBecome1.gather.restoreFailed = false ∧ selectionsBecome1.core.service = true ∧ selectionsBecome1.core.halted =
      false ∧ entryUsed selectionsBecome1.binding.live ((1#6).toNat) = true ∧ shownEntry selectionsBecome1 ≠ some
      ((1#6).toNat) ∧ missingLeaves selectionsBecome1 (entryLeaves selectionsBecome1 selectionsBecome1.binding.live
      ((1#6).toNat)) ≠ [] ∧ decodeRefused selectionsBecome1 = true) ∧
    (running shows0 = true ∧ domainHeld shows0 Domain.sys = false ∧ 50 ≤ 50 ∧ shows0.gather.restoreFailed = false ∧
      shows0.core.service = true ∧ shows0.core.halted = false ∧ entryUsed shows0.binding.live ((1#6).toNat) = true ∧
      shownEntry shows0 ≠ some ((1#6).toNat) ∧ (missingLeaves shows0 (entryLeaves shows0 shows0.binding.live ((1#6).toNat)) =
      [] ∨ decodeRefused shows0 = false)) ∧
    (running selectionsBecome2 = true ∧ domainHeld selectionsBecome2 Domain.sys = false ∧ 50 ≤ 50 ∧
      selectionsBecome2.gather.restoreFailed = false ∧ selectionsBecome2.core.service = true ∧ selectionsBecome2.core.halted =
      false ∧ entryUsed selectionsBecome2.binding.live ((1#6).toNat) = true ∧ shownEntry selectionsBecome2 ≠ some
      ((1#6).toNat) ∧ (missingLeaves selectionsBecome2 (entryLeaves selectionsBecome2 selectionsBecome2.binding.live
      ((1#6).toNat)) = [] ∨ decodeRefused selectionsBecome2 = false)) := by
  refine ⟨?_, ?_, ?_, ?_, ?_, ?_, ?_, ?_⟩ <;> decide +kernel

theorem witness_LatchPointTakesThePending :
    (sysRuns pending1 = true ∧ (portOf pending1 Port.a).raster = true ∧ List.Nodup (List.map (fun x => x.1)
      pending1.pens.list)) ∧
    (sysRuns twoPorts = true ∧ (portOf twoPorts Port.b).raster = true ∧ List.Nodup (List.map (fun x => x.1)
      twoPorts.pens.list)) ∧
    (sysRuns latchPoint1 = true ∧ (portOf latchPoint1 Port.b).raster = true ∧ List.Nodup (List.map (fun x => x.1)
      latchPoint1.pens.list)) ∧
    (sysRuns latchPoint2 = true ∧ (portOf latchPoint2 Port.a).raster = true ∧ List.Nodup (List.map (fun x => x.1)
      latchPoint2.pens.list)) :=
  by decide +kernel

theorem witness_FrameBoundaryShowsTheTaken :
    (running sysHeld = true ∧ sysHeld.core.halted = false ∧ (portOf sysHeld Port.a).raster = true ∧ domainHeld sysHeld
      Domain.sys = true) ∧
    (running relighting = true ∧ relighting.core.halted = false ∧ (portOf relighting Port.a).raster = true ∧ domainHeld
      relighting Domain.sys = false ∧ relighting.gather.state = GatherState.closed ∧ relighting.gather.bridgeDue = false ∧
      relighting.gather.restoring = false ∧ leadPort relighting = some Port.a ∧ relighting.gather.relight = true) ∧
    (running taken1 = true ∧ taken1.core.halted = false ∧ (portOf taken1 Port.a).raster = true ∧ taken1.gather.state =
      GatherState.closed ∧ taken1.gather.bridge = false ∧ taken1.gather.bridgeDue = false ∧ taken1.gather.restoring = false ∧
      taken1.gather.relight = false ∧ taken1.gather.reshowDue = false ∧ (portOf taken1 Port.a).checkPassed = false ∧
      domainHeld taken1 Domain.sys = false) ∧
    (running frameBoundary1 = true ∧ frameBoundary1.core.halted = false ∧ (portOf frameBoundary1 Port.a).raster = true ∧
      frameBoundary1.gather.state = GatherState.closed ∧ frameBoundary1.gather.bridge = false ∧
      frameBoundary1.gather.bridgeDue = false ∧ frameBoundary1.gather.restoring = false ∧ frameBoundary1.gather.relight =
      false ∧ frameBoundary1.gather.reshowDue = false ∧ (portOf frameBoundary1 Port.a).checkPassed = false ∧ domainHeld
      frameBoundary1 Domain.sys = false ∧ guideAllowed frameBoundary1 = false) ∧
    (running frameBoundary2 = true ∧ frameBoundary2.core.halted = false ∧ (portOf frameBoundary2 Port.b).raster = true ∧
      frameBoundary2.gather.state = GatherState.closed ∧ frameBoundary2.gather.bridge = false ∧
      frameBoundary2.gather.bridgeDue = false ∧ frameBoundary2.gather.restoring = false ∧ frameBoundary2.gather.relight =
      false ∧ frameBoundary2.gather.reshowDue = false ∧ (portOf frameBoundary2 Port.b).checkPassed = false ∧ domainHeld
      frameBoundary2 Domain.sys = false) :=
  by decide +kernel

theorem witness_RenderStageKeepsItsOrder :
    let w := fun (s : State) => (portOf s Port.a).wheel
    let begins := fun (s : State) (lag : Nat) =>
      (reached ((w s).position - BitVec.ofNat 32 lag) (lineStart (w s).nextLine - 12288#32),
        reached ((w s).position - BitVec.ofNat 32 lag) (lineStart (w s).nextLine - 4096#32))
    (sysRuns (atLine 8 20481#32) = true ∧ (portOf (atLine 8 20481#32) Port.a).raster = true ∧ (w (atLine 8 20481#32)).clearing =
      false ∧ (w (atLine 8 20481#32)).held = [] ∧ begins (atLine 8 20481#32) 2 = (false, false) ∧ begins (atLine 8 20481#32) 1
      = (true, false)) ∧
    (sysRuns (atLine 8 28672#32) = true ∧ (portOf (atLine 8 28672#32) Port.a).raster = true ∧ (w (atLine 8 28672#32)).clearing =
      false ∧ (w (atLine 8 28672#32)).held = [] ∧ begins (atLine 8 28672#32) 0 = (true, true)) ∧
    (sysRuns (atLine 0 4294955008#32) = true ∧ (w (atLine 0 4294955008#32)).held = [] ∧ begins (atLine 0 4294955008#32) 0 =
      (true, false)) ∧
    (sysRuns holds1 = true ∧ (portOf holds1 Port.a).raster = true ∧ (w holds1).clearing = false ∧ (w holds1).held ≠ []) :=
  by decide +kernel

theorem witness_LateLightIsStopped :
    (running (lateHead 0) = true ∧ (portOf (lateHead 0) Port.a).raster = true ∧ fnat (portOf (lateHead 0) Port.a).fields
      wheelLateLimit < (portOf (lateHead 0) Port.a).wheel.frameDrops ∧ (portOf (lateHead 0) Port.a).wheel.lateReported =
      false) ∧
    (running (lateHead 1) = true ∧ (portOf (lateHead 1) Port.a).raster = true ∧ fnat (portOf (lateHead 1) Port.a).fields
      wheelLateLimit < (portOf (lateHead 1) Port.a).wheel.frameDrops ∧ (portOf (lateHead 1) Port.a).wheel.lateReported =
      false) ∧
    (running lateLight1 = true ∧ (portOf lateLight1 Port.a).raster = true ∧ List.contains (portOf lateLight1
      Port.a).wheel.complete (BitVec.toNat (portOf lateLight1 Port.a).wheel.position / 4096) = false ∧ (portOf lateLight1
      Port.a).wheel.staleRun + 1 < fnat (portOf lateLight1 Port.a).fields integrityCompStale) ∧
    (running lateLight2 = true ∧ (portOf lateLight2 Port.a).raster = true ∧ List.length lateLight2.keeper.domains = 9 ∧
      List.contains (portOf lateLight2 Port.a).wheel.complete (BitVec.toNat (portOf lateLight2 Port.a).wheel.position / 4096)
      = false ∧ fnat (portOf lateLight2 Port.a).fields integrityCompStale ≤ (portOf lateLight2 Port.a).wheel.staleRun + 1 ∧
      domainHeld lateLight2 Domain.sys = false) ∧
    (sysRuns canvasHead = true ∧ (portOf canvasHead Port.a).raster = true ∧ fbit (live canvasHead) canvasEnable = true ∧ fnat
      (portOf canvasHead Port.a).fields integrityLiveStale ≠ 0 ∧ (portOf canvasHead Port.a).liveSeen = true ∧ (portOf
      canvasHead Port.a).liveStale = false) :=
  by decide +kernel

theorem witness_StallFetchAdvances :
    (running fetched = true ∧ (portOf fetched Port.a).raster = true ∧ (portOf fetched Port.a).phase = MirrorPhase.locked) ∧
    (running stallFetch1 = true ∧ (portOf stallFetch1 Port.a).raster = true ∧ (portOf stallFetch1 Port.a).phase =
      MirrorPhase.locked) ∧
    (running stallFetch2 = true ∧ (portOf stallFetch2 Port.a).wheel.clearing = true ∧ (portOf stallFetch2 Port.a).raster =
      true) ∧
    (running stallFetch3 = true ∧ (portOf stallFetch3 Port.a).wheel.clearing = true ∧ (portOf stallFetch3 Port.a).phase =
      .locked ∧ (portOf stallFetch3 Port.a).raster = false ∧ slowRateOk (portOf stallFetch3 Port.a).vertFields Port.a (lockedHz
      (portOf stallFetch3 Port.a)) = true) ∧
    (running anchored = true ∧ (portOf anchored Port.a).raster = true ∧ (portOf anchored Port.a).wheel.timeline = false ∧
      domainHeld anchored Domain.edge = false ∧ (stallPeriod (portOf anchored Port.a).wheel).isSome = true) ∧
    (running guiding = true ∧ (portOf guiding Port.a).raster = true ∧ (portOf guiding Port.a).wheel.timeline = false ∧
      domainHeld guiding Domain.edge = false ∧ stallPeriod (portOf guiding Port.a).wheel = none) ∧
    (running guiding = true ∧ guiding.core.plls = true) ∧
    (running (trimmed 0) = true ∧ (trimmed 0).core.plls = true ∧ 2 < (trimmed 0).emit.trims.length ∧ nth (trimmed
      0).emit.trims 2 = 0) ∧
    (running (trimmed 31) = true ∧ (trimmed 31).core.plls = true ∧ 2 < (trimmed 31).emit.trims.length ∧ 31 ≤ nth (trimmed
      31).emit.trims 2) ∧
    (running (trimmed 30) = true ∧ (trimmed 30).core.plls = true ∧ 2 < (trimmed 30).emit.trims.length ∧ 0 < nth (trimmed
      30).emit.trims 2 ∧ nth (trimmed 30).emit.trims 2 < 31) :=
  by decide +kernel

theorem witness_CanvasFramesAreChecked :
    let last := fun (b : List Byte) => period (b.getD 15 0#8)
    let full : CvsPeriod := { period 7#8 with full := true }
    let coded := rx codedBytes false
    let wrong := rx (rawBytes 1) false
    let swapped := rx (rawBytes 0) true
    let good := rx (rawBytes 0) false
    let sum := fun (r : CanvasRx) =>
      let payload := r.bytes.drop 16
      (cvsReason r, cvsCoded (r.bytes.take 16), r.swapSeen,
        crc32c (payload.take (payload.length - 4)) == rd payload (payload.length - 4) 4)
    (sysRuns canvasHead = true ∧ domainHeld canvasHead Domain.cvs = false ∧
      exec (.canvasFrame [pause]) canvasHead = .next cvsWaits ∧ sysRuns cvsWaits = true ∧ domainHeld cvsWaits Domain.cvs =
      false) ∧
    ((period 0x43#8).fs = true ∧ (period 0x43#8).full = false ∧ cvsWaits.canvas.frame = none ∧ cvsWaits.canvas.fsLow = true) ∧
    (sysRuns (receiving good) = true ∧ domainHeld (receiving good) Domain.cvs = false ∧ (receiving good).canvas.frame = some
      good ∧ full.fs = true ∧ full.full = true ∧ good.bytes.length ≠ 15) ∧
    ((rawBytes 0).take 15 ++ [BitVec.ofNat 8 (16 * (last (rawBytes 0)).rise + (last (rawBytes 0)).fall)] = (rawBytes 0).take 16
      ∧ sysRuns (beforeHeader (rawBytes 0)) = true ∧ (fnat (live canvasHead) canvasAccept).testBit (cvsKind ((rawBytes 0).take
      16) % 2) = true ∧ cvsHeaderOk ((rawBytes 0).take 16) = true ∧ cvsTargets (beforeHeader (rawBytes 0)) ((rawBytes 0).take
      16) = [.a] ∧ rawShapeOk (cvsShape (live canvasHead)) ((rawBytes 0).take 16) = true ∧ cvsRoom (beforeHeader (rawBytes 0))
      ((rawBytes 0).take 16) = true ∧ (∀ x ∈ (beforeHeader (rawBytes 0)).pens.list, x.1 < (beforeHeader (rawBytes
      0)).pens.next)) ∧
    ((fnat (live canvasHead) canvasAccept).testBit (cvsKind (codedBytes.take 16) % 2) = true ∧ cvsHeaderOk (codedBytes.take 16)
      = true ∧ cvsTargets (beforeHeader codedBytes) (codedBytes.take 16) = [.a] ∧ cvsCoded (codedBytes.take 16) = true ∧
      cvsRoom (beforeHeader codedBytes) (codedBytes.take 16) = true) ∧
    ((cvsReceive [] (receiving { good with overflow := true })).canvas.frame = some { good with overflow := true } ∧
      (cvsReceive [period 7#8] (receiving good)).canvas.frame = some { good with bytes := good.bytes ++ [7#8] } ∧
      cvsReason { good with overflow := true } = 0x86 ∧ cvsReason { good with bytes := good.bytes.take 20 } = 0x87) ∧
    (sum coded).1 = 0 ∧ (sum coded).2.1 = true ∧ sum wrong = (0, false, false, false) ∧ sum swapped = (0, false, true, true) ∧
    sum good = (0, false, false, true) ∧
    (sysRuns (laneHead glyph) = true ∧ (laneHead glyph).canvas.job = some (laneJob glyph) ∧ (laneJob glyph).swapSeen = false) ∧
    decodeLeaf (canvasLimits (laneJob glyph).shape) (laneJob glyph).payload = Except.ok glyphImage ∧
    decodeLeaf (canvasLimits (laneJob (glyph.take 15)).shape) (laneJob (glyph.take 15)).payload = Except.error (6, 0) := by
  refine ⟨⟨?_, ?_, rfl, ?_, ?_⟩, ?_, ?_, ?_, ?_, ?_, ?_, ?_, ?_, ?_, ?_, ?_, decoded_ok ?_, decoded_error ?_⟩ <;> decide +kernel

theorem witness_MirrorStartsGoPhaseByPhase :
    let mayBegin := fun (s : State) => sysRuns s = true ∧ mayStart s Port.a = true ∧ (((s.cart.step = .mirror ∨ s.cart.step =
      .photodiodes ∨ s.cart.qualified = true) ∧ (portOf s Port.a).served = false ∧ (portOf s Port.a).failedPhase = 0) ∨
      (s.cart.qualified = true ∧ (portOf s Port.a).restartDue = true))
    let inside := [300, 800, 1499, 1500]
    let outside := [300, 800, 1501, 900]
    (mayBegin starts ∧ calFNom starts.emit.cal Port.a ≠ 0) ∧
    (mayBegin mirrorStarts1 ∧ calFNom mirrorStarts1.emit.cal Port.a = 0) ∧
    (mayBegin again ∧ calFNom again.emit.cal Port.a ≠ 0) ∧
    (sysRuns (inPhase MirrorPhase.check) = true ∧ (portOf (inPhase MirrorPhase.check) Port.a).phase = MirrorPhase.check ∧
      (∀ v ∈ inside, 300 ≤ v ∧ v ≤ 1500) ∧ (inPhase MirrorPhase.check).supply.vmir = true ∧
      ∃ v ∈ outside, v < 300 ∨ 1500 < v) ∧
    (running (inPhase MirrorPhase.kick) = true ∧ (portOf (inPhase MirrorPhase.kick) Port.a).phase = MirrorPhase.kick) ∧
    (running (inPhase MirrorPhase.ring) = true ∧ (portOf (inPhase MirrorPhase.ring) Port.a).phase = MirrorPhase.ring ∧
      ringPasses (inPhase MirrorPhase.ring) Port.a 27000000 (ampOf (inPhase MirrorPhase.ring) Port.a 2000) = true) ∧
    (ringPasses (inPhase MirrorPhase.ring) Port.a 17999999 (ampOf (inPhase MirrorPhase.ring) Port.a 2000) = false ∧ (portOf
      (inPhase MirrorPhase.ring) Port.a).kicks < fnat (portOf (inPhase MirrorPhase.ring) Port.a).mirrorFields
      (mirrorSearchTries Port.a)) ∧
    (running mirrorStarts2 = true ∧ (portOf mirrorStarts2 Port.a).phase = MirrorPhase.ring ∧ ringPasses mirrorStarts2 Port.a
      27000000 (ampOf mirrorStarts2 Port.a 0) = false ∧ fnat (portOf mirrorStarts2 Port.a).mirrorFields (mirrorSearchTries
      Port.a) ≤ (portOf mirrorStarts2 Port.a).kicks) ∧
    (running mirrorStarts3 = true ∧ (portOf mirrorStarts3 Port.a).phase = MirrorPhase.capture ∧ hasLocked mirrorStarts3 Port.a
      27000000 [lockRun] = true ∧ (portOf mirrorStarts3 Port.a).wheel.clearing = true) ∧
    (running captured = true ∧ (portOf captured Port.a).phase = MirrorPhase.capture ∧ hasLocked captured Port.a 27000000
      [lockRun] = true ∧ (portOf captured Port.a).wheel.clearing = false ∧ slowRateOk (portOf captured Port.a).vertFields
      Port.a (lockedHz { portOf captured Port.a with fLock := 27000000 }) = true) ∧
    (hasLocked captured Port.a 27000000 [{ lockRun with periods := 282 }] = false) ∧
    (running captured = true ∧ starting (portOf captured Port.a) = true) := by
  refine ⟨?_, ?_, ?_, ?_, ?_, ?_, ?_, ?_, ?_, ?_, ?_, ?_⟩ <;> decide +kernel

theorem witness_MirrorFaultsStopThePort :
    (running servedPort = true ∧ portIsLocked (portOf servedPort Port.a) = true ∧ faultSeen servedPort Port.a (.fastStall true
      []) = true ∧ (portOf servedPort Port.a).served = true ∧ (servedPort.keeper.ticks :: recent (fnat (live servedPort)
      (mirrorFaultWindow .a)) servedPort.keeper.ticks (portOf servedPort .a).faults).length ≤ fnat (live servedPort)
      (mirrorFaultTries .a)) ∧
    (running mirrorFaults1 = true ∧ portIsLocked (portOf mirrorFaults1 Port.a) = true ∧ faultSeen mirrorFaults1 Port.a
      .coilOvercurrent = true ∧ (portOf mirrorFaults1 Port.a).served = true ∧ fnat (live mirrorFaults1) (mirrorFaultTries .a) <
      (mirrorFaults1.keeper.ticks :: recent (fnat (live mirrorFaults1) (mirrorFaultWindow .a)) mirrorFaults1.keeper.ticks
      (portOf mirrorFaults1 .a).faults).length) ∧
    (running mirrorFaults2 = true ∧ starting (portOf mirrorFaults2 Port.a) = true ∧ faultSeen mirrorFaults2 Port.a (.senseLost
      [299, 1501, 0, 299, 800]) = true ∧ (portOf mirrorFaults2 Port.a).restarting = true) ∧
    (running captured = true ∧ starting (portOf captured Port.a) = true ∧ faultSeen captured Port.a (.phaseSlip 33793 27000000)
      = true ∧ (portOf captured Port.a).served = false ∧ (portOf captured Port.a).restarting = false ∧ (portOf captured
      Port.a).coilZ = 0) ∧
    (sysRuns again = true ∧ (portOf again Port.a).restartDue = true ∧ again.cart.qualified = true ∧ mayStart again Port.a =
      true ∧ calFNom again.emit.cal Port.a ≠ 0) ∧
    (sysRuns againNone = true ∧ (portOf againNone Port.a).restartDue = true ∧ againNone.cart.qualified = true ∧ mayStart
      againNone Port.a = true ∧ calFNom againNone.emit.cal Port.a = 0) :=
  by decide +kernel

theorem witness_ScheduleFrameAdvances :
    (running alone = true ∧ alone.core.plls = true ∧ alone.core.halted = false ∧ inputs0.tableErr = none ∧ inputs0.m6Err =
      none ∧ alone.engine.standby = Standby.absent ∧ domainHeld alone (laneDomain alone.engine.serving) = false) ∧
    (running trimming = true ∧ trimming.core.plls = true ∧ trimming.core.halted = false ∧ trimming.engine.standby =
      Standby.absent ∧ domainHeld trimming (laneDomain trimming.engine.serving) = false) ∧
    (trimming.emit.trimRuns.getD 0 (false, 0) = (true, 15) ∧ trimming.emit.trimRuns.getD 1 (false, 0) = (false, 15) ∧
      trimming.emit.trimRuns.getD 2 (false, 0) = (true, 15) ∧ 2 < trimming.emit.trims.length) ∧
    (running laneHeld = true ∧ laneHeld.core.plls = true ∧ laneHeld.core.halted = false ∧ inputs0.tableErr = none ∧
      inputs0.m6Err = none ∧ domainHeld laneHeld (laneDomain laneHeld.engine.serving) = true) :=
  by decide +kernel

theorem witness_EngineInputsAreSampled :
    (sysRuns guiding = true) ∧
    (sysRuns engineInputs1 = true) ∧
    (sysRuns engineInputs2 = true) ∧
    (sysRuns encHead = true ∧ Nat.testBit (fnat (live encHead) loopEncCfg) 0 = true) ∧
    (sysRuns guiding = true ∧ Nat.testBit (fnat (live guiding) loopEncCfg) 0 = false) ∧
    (sysRuns pulsing = true ∧ pulsing.bright.started = true) ∧
    (sysRuns guiding = true ∧ guiding.bright.high = none) ∧
    (sysRuns pulsing = true ∧ pulsing.bright.high = some 1000 ∧ pulsing.bright.started = true ∧ brightInRange (1000 + 400000)
      = true ∧ 3 ≤ List.length pulsing.bright.periods ∧ fnat (live pulsing) loopBrightMode ≠ 1) ∧
    (sysRuns pulsing = true) := by
  refine ⟨?_, ?_, ?_, ?_, ?_, ?_, ?_, ?_, ?_⟩ <;> decide +kernel

theorem witness_PhotodiodeWindowsAreKept :
    (running guiding = true ∧ guiding.core.plls = true ∧ guiding.core.halted = false ∧ domainHeld guiding Domain.edge = false
      ∧ List.length guiding.emit.lasers = 4) ∧
    (running blind3 = true ∧ blind3.core.plls = true ∧ blind3.core.halted = false ∧ domainHeld blind3 Domain.edge = false ∧
      List.length blind3.emit.lasers = 4) ∧
    (running guiding = true ∧ 3 < List.length guiding.emit.lasers) :=
  by decide +kernel

theorem witness_SinkCodesStayWithinImax :
    (0 < List.length driven.emit.lasers) ∧
    (3 < List.length guiding.emit.lasers) ∧
    (1 < List.length sinkCodes1.emit.lasers) :=
  by decide +kernel

theorem witness_LampRowsAreDriven :
    (lampRuns lampField1 = true ∧ lampField1.gather.state = GatherState.closed ∧ lampField1.gather.bridgeDue = false ∧
      lampField1.gather.restoring = false ∧ domainHeld lampField1 Domain.sys = false) ∧
    (lampRuns repeated = true ∧ domainHeld repeated Domain.sys = false ∧ leadPort repeated = none ∧ repeated.gather.restoring =
      false ∧ swapReady repeated = true ∧ repeated.gather.shadow.isSome = true) ∧
    (lampRuns lampSysHeld = true ∧ domainHeld lampSysHeld Domain.sys = true) ∧
    (lampRuns lampRows1 = true ∧ 3 < lampRows1.lamp.rows ∧ lampRows1.pins.killLow = true) ∧
    (lampRuns lampField1 = true ∧ 3 < lampField1.lamp.rows ∧ probeDiscarded (trackSinks [(0, true)] lampField1) = false) ∧
    (lampRuns lampField1 = true ∧ 0 < lampField1.lamp.rows ∧ probeDiscarded (trackSinks [] lampField1) = false) ∧
    (lampRuns lampField1 = true ∧ lampField1.lamp.dark = false ∧ 7 < lampField1.lamp.cols ∧ 7 ∉ lampField1.lamp.hot) :=
  by decide +kernel

theorem witness_GrantsStayWithinTheBudget :
    (running yardHead = true ∧ serving yardHead = true ∧ List.length yardHead.yard.grants = 3) ∧
    (running grantsStay1 = true ∧ serving grantsStay1 = true ∧ List.length grantsStay1.yard.grants = 3) ∧
    (running woken = true ∧ serving woken = false) ∧
    (List.sum ticking.yard.grants ≤ ticking.yard.budget ∧ step ticking = .next ticked) :=
  ⟨by decide +kernel, by decide +kernel, by decide +kernel, ⟨by decide +kernel, rfl⟩⟩

theorem witness_KillAndTripsDarken :
    (guiding.pins.killLow = false) ∧
    (killed.pins.killLow = true) ∧
    (running guiding = true ∧ tripHolds guiding 0 2001 100 TripCause.overCurrent = true) ∧
    (running killAnd1 = true ∧ tripHolds killAnd1 0 0 0 TripCause.pdBlind = true) :=
  by decide +kernel

theorem witness_ScrubbingWalksTheStores :
    (sysRuns guiding = true ∧ guiding.core.plls = true ∧ scrubWaits.granted = false) ∧
    (sysRuns scrubbingWalks1 = true ∧ scrubbingWalks1.core.plls = true ∧ scrubFound.granted = true) ∧
    (sysRuns scrubbingWalks2 = true ∧ scrubbingWalks2.core.plls = true) ∧
    (sysRuns guiding = true ∧ guiding.core.plls = true) ∧
    (sysRuns scrubbingWalks3 = true ∧ scrubbingWalks3.integrity.burstWaits = true) :=
  by decide +kernel

theorem witness_BeaconRecordsAreCaptured :
    (running beaconHead = true ∧ Option.isSome (beaconBaud beaconHead) = true ∧ triggerDue beaconHead true = true ∧
      beaconHead.beacon.sending = none ∧ List.length beaconHead.yard.demands = 3 ∧ List.length beaconHead.yard.grants = 3 ∧
      List.length beaconHead.yard.fractions = 3) ∧
    (running timerHead = true ∧ Option.isSome (beaconBaud timerHead) = true ∧ triggerDue timerHead false = true ∧
      timerHead.beacon.sending = none ∧ List.length timerHead.yard.demands = 3 ∧ List.length timerHead.yard.grants = 3 ∧
      List.length timerHead.yard.fractions = 3) ∧
    (running sendingHead = true ∧ Option.isSome (beaconBaud sendingHead) = true ∧ triggerDue sendingHead true = true ∧
      Option.isSome sendingHead.beacon.sending = true) ∧
    (running sendingHead = true ∧ sendingHead.beacon.sending = some [1#8]) ∧
    (running beaconRecords1 = true ∧ beaconRecords1.beacon.sending = some [1#8]) ∧
    (running beaconRecords2 = true ∧ beaconRecords2.beacon.pulse = true) :=
  by decide +kernel

theorem witness_TestPortInstructions :
    guiding.supply.vin = true ∧ guiding.supply.ringH = true :=
  by decide +kernel

end Sys2Proof.Tests
end

section
/-! SUPPORT. The test port's instructions (00 R8, 02 R23, 18 R421), and O60. -/

namespace Sys2Proof.Proofs

open Sys2Proof Machine Laws

variable {s : State}

/-- The test port is up with `VIN` and the ring of `VDDIO_H`. -/
theorem testPortUp_of (hv : s.supply.vin = true) (hr : s.supply.ringH = true) : testPortUp s = true := by
  simp [testPortUp, hv, hr]

/-- What a chain of m cells captures. -/
def capturedCells (m : Nat) (s : State) : List (Nat × Bool) := (List.range m).map fun k => (k, captureCell s k)

theorem length_capturedCells (m : Nat) (s : State) : (capturedCells m s).length = m := by simp [capturedCells]

/-- A cell whose level the part keeps captures that level. -/
theorem mem_capturedCells {m n : Nat} {v : Bool} (hn : n < m) (hk : knownLevel s n = some v) : (n, v) ∈ capturedCells m s :=
  List.mem_map.mpr ⟨n, List.mem_range.mpr hn, by simp [captureCell, hk]⟩

/-- 00 R8: a sample captures every cell and preloads those of the cells shifted in that the chain has. -/
theorem exec_jtagSamplePreload (hup : testPortUp s = true) (cells : List (Nat × Bool)) :
    exec (.jtagSamplePreload cells) s = .next
      { s with
        jtag := { s.jtag with instr := .sample, captured := capturedCells observeOnly.length s
                              preloaded := cells.filter fun c => c.1 < observeOnly.length }
        free := s.free + 1 } :=
  guarded_of hup _ _

/-- 02 R23: EXTEST holds the coil balls in their reset state. -/
theorem coilsShorted_extest (hv : s.supply.vin = true) (hj : s.jtag.instr = .extest) (p : Port) : coilsShorted s p = true := by
  simp [coilsShorted, hv, hj]

/-- 02 R23: EXTEST darkens the part and shorts the coils. -/
theorem exec_jtagExtest (hv : s.supply.vin = true) (hup : testPortUp s = true) :
    ∃ t, exec .jtagExtest s = .next t ∧ t.jtag.instr = .extest ∧ Dark t ∧ t.lamp.dark = true ∧ ∀ p, coilsShorted t p = true :=
  ⟨_, guarded_of hup _ _, rfl, closeGates_dark _, rfl, coilsShorted_extest hv rfl⟩

/-- Settles O60, instruction by instruction. -/
theorem testPortInstructions : Obligations.TestPortInstructions := by
  intro s hv hr
  have hup := testPortUp_of hv hr
  refine ⟨fun _ => guarded_of hup _ _, guarded_of hup _ _, fun cells => ?_, exec_jtagExtest hv hup⟩
  refine ⟨_, exec_jtagSamplePreload hup cells, rfl, ?_, fun n v => ?_, rfl, rfl, rfl⟩
  · dsimp only
    exact length_capturedCells observeOnly.length s
  · dsimp only
    exact mem_capturedCells

end Sys2Proof.Proofs
end

section
/-! SUPPORT. Frame boundaries (10 R232, R244, 11 R268): what each operation of a boundary does to a port, to the gathering and to the gate; and O44. -/

namespace Sys2Proof.Proofs

open Sys2Proof Machine Laws

variable {s t : State} {p : Port}

theorem otherPort_ne (p : Port) : otherPort p ≠ p := by cases p <;> decide

theorem eq_or_eq_otherPort (p r : Port) : r = p ∨ r = otherPort p := by cases p <;> cases r <;> decide

/-- What leaves both ports alone leaves each of them alone. -/
theorem portOf_of_eff {l : List Part} (h : Eff l s t) (ha : l.contains .portA = false) (hb : l.contains .portB = false) (r : Port) :
    portOf t r = portOf s r := by
  cases r
  · exact h.portA_eq ha
  · exact h.portB_eq hb

/-! A port apart from its live layer and its checks. -/

/-- A port without the live layer (R251) and the bookkeeping of its frame checks (16 R375): the rest is what a selection, the raster and the
gate depend on. -/
def frameView (q : PortState) : PortState :=
  { q with liveShown := none, liveTaken := none, liveSeen := false, liveSeq := 0, mismatches := [], mismatchRun := 0, mismatchHeld := false
           blanked := false }

/-- A change of a port's live layer or checks is not seen in any port's view. -/
theorem frameView_updPort {f : PortState → PortState} (hf : ∀ q, frameView (f q) = frameView q) (s : State) (p r : Port) :
    frameView (portOf (updPort s p f) r) = frameView (portOf s r) := by
  by_cases h : r = p
  · rw [h, portOf_updPort, hf]
  · rw [portOf_updPort_other s h]

theorem frameView_showLive (p : Port) (s : State) (r : Port) : frameView (portOf (showLive p s) r) = frameView (portOf s r) := by
  unfold showLive
  dsimp only
  split
  · exact frameView_updPort (by exact fun _ => rfl) _ _ _
  · rw [portOf_of_eff (retirePens_eff _ _) rfl rfl, portOf_of_eff (markShown_eff _ _) rfl rfl]
    exact frameView_updPort (by exact fun _ => rfl) _ _ _

theorem frameView_mismatchAction (p : Port) (q : PortState) (e : Nat) (s : State) (r : Port) :
    frameView (portOf (mismatchAction p q e s) r) = frameView (portOf s r) := by
  unfold mismatchAction
  dsimp only
  split
  · rfl
  · refine (frameView_updPort (by exact fun _ => rfl) _ _ _).trans ?_
    split
    · rfl
    · rw [portOf_of_eff (Eff.foldl (fun _ _ => requestLeaf_eff _ _ _ _ _ _) _ (Eff.refl _ s)) rfl rfl]

theorem frameView_checkFrame (p : Port) (q : PortState) (s : State) (r : Port) :
    frameView (portOf (checkFrame p q s) r) = frameView (portOf s r) := by
  unfold checkFrame
  dsimp only
  split
  · rfl
  split
  · exact frameView_updPort (by exact fun _ => rfl) _ _ _
  next m rest _ =>
    have reported : ∀ r, portOf (rest.foldl (fun u k => reportMismatch p false k u) (reportMismatch p (q.mismatchRun = 0) m s)) r =
        portOf s r :=
      portOf_of_eff (Eff.foldl (fun _ _ => reportMismatch_eff _ _ _ _) _ (reportMismatch_eff _ _ _ _)) rfl rfl
    split
    · rw [frameView_mismatchAction]
      exact (frameView_updPort (by exact fun _ => rfl) _ _ _).trans (congrArg frameView (reported r))
    · exact (frameView_updPort (by exact fun _ => rfl) _ _ _).trans (congrArg frameView (reported r))

/-! What was taken is shown (R244). -/

/-- A port that shows what it took. -/
def withTaken (q : PortState) : PortState :=
  match q.taken with
  | none => q
  | some e =>
    { q with shown := some e, guideShown := q.guideTaken, signalShown := q.signalTaken, taken := none, guideTaken := none
             signalTaken := none }

theorem frameView_withTaken (q : PortState) : frameView (withTaken q) = withTaken (frameView q) := by
  cases h : q.taken <;> simp [withTaken, frameView, h]

theorem withTaken_none {q : PortState} (h : q.taken = none) : withTaken q = q := by simp [withTaken, h]

theorem withTaken_some {q : PortState} {e : Nat} (h : q.taken = some e) :
    withTaken q = { q with shown := some e, guideShown := q.guideTaken, signalShown := q.signalTaken, taken := none, guideTaken := none
                           signalTaken := none } := by
  simp [withTaken, h]

/-- What does not look at the selection is the same of a port that shows what it took. -/
theorem withTaken_same {α : Type} (f : PortState → α)
    (hf : ∀ q a b c, f { q with shown := a, guideShown := b, signalShown := c, taken := none, guideTaken := none, signalTaken := none } = f q)
    (q : PortState) : f (withTaken q) = f q := by
  unfold withTaken
  split
  · rfl
  · exact hf _ _ _ _

theorem portOf_showTaken (p : Port) (s : State) : portOf (showTaken p s) p = withTaken (portOf s p) := by
  unfold showTaken
  dsimp only
  split
  next h => rw [withTaken_none h]
  next e h =>
    rw [portOf_of_eff (retireUnshown_eff _) rfl rfl, portOf_of_eff (markShown_eff _ _) rfl rfl, portOf_of_eff (markShown_eff _ _) rfl rfl,
      portOf_updPort, withTaken_some h]

theorem portOf_showTaken_other (p : Port) (s : State) : portOf (showTaken p s) (otherPort p) = portOf s (otherPort p) := by
  unfold showTaken
  dsimp only
  split
  · rfl
  · rw [portOf_of_eff (retireUnshown_eff _) rfl rfl, portOf_of_eff (markShown_eff _ _) rfl rfl, portOf_of_eff (markShown_eff _ _) rfl rfl,
      portOf_updPort_other _ (otherPort_ne p)]

/-! A frame begins (R232). -/

/-- A port whose frame has begun, with the folios in force. -/
def withFrame (st : Store) (p : Port) (q : PortState) : PortState :=
  { q with
    fields := st, fbLine := q.nextFb, vact := fnat q.vertFields (rasterVact p), nextFb := boundaryAfter q.vertFields p q.nextFb
    lines := q.lines.filter fun l => q.nextFb ≤ l.1
    frames := q.frames + 1, pastLatch := false, frameEntry := q.shown, swapHold := false
    wheel := { q.wheel with frameDrops := 0, lateReported := false, lateDark := false } }

theorem frameView_withFrame (st : Store) (p : Port) (q : PortState) : frameView (withFrame st p q) = withFrame st p (frameView q) := rfl

theorem portOf_beginFrame (p : Port) (s : State) : portOf (beginFrame p s) p = withFrame (live s) p (portOf s p) := by
  unfold beginFrame
  dsimp only
  split <;> cases p <;> rfl

theorem portOf_beginFrame_other (p : Port) (s : State) : portOf (beginFrame p s) (otherPort p) = portOf s (otherPort p) := by
  unfold beginFrame
  dsimp only
  split <;> cases p <;> rfl

theorem beginFrame_pending (p : Port) (s : State) : (beginFrame p s).select.pending = s.select.pending := by
  unfold beginFrame
  dsimp only
  split <;> cases p <;> rfl

/-! The gate (11 R268, R274). -/

/-- A port with its gate open or closed from the start of its frame. -/
def withGate (b : Bool) (q : PortState) : PortState := { q with gateWhole := b, wheel := { q.wheel with gate := b } }

theorem portOf_closeGate (p : Port) (s : State) : portOf (closeGate p s) p = withGate false (portOf s p) := by cases p <;> rfl

theorem portOf_closeGate_other (p : Port) (s : State) : portOf (closeGate p s) (otherPort p) = portOf s (otherPort p) := by
  cases p <;> rfl

/-- The channels of a port whose gate closes are dark. -/
theorem closeGate_channels (p : Port) (s : State) : ∀ l ∈ (closeGate p s).emit.lasers, l.assigned = some p → l.level = 0 ∧ l.code = 0 := by
  intro l hl hp
  obtain ⟨l', -, rfl⟩ := List.mem_map.mp hl
  by_cases h : (l'.assigned == some p) = true
  · rw [if_pos h]
    exact ⟨rfl, rfl⟩
  · rw [if_neg h] at hp
    exact absurd (by simpa using hp) h

theorem portOf_gateAtBoundary (p : Port) (s : State) : portOf (gateAtBoundary p s) p = withGate (gateAllowed s p) (portOf s p) := by
  unfold gateAtBoundary
  dsimp only
  split
  next h =>
    rw [h]
    split
    · cases p <;> rfl
    · rw [portOf_of_eff (zeroChannels_eff _ _) rfl rfl]
      cases p <;> rfl
  next h => rw [Bool.eq_false_iff.mpr h, portOf_closeGate]

theorem portOf_gateAtBoundary_other (p : Port) (s : State) :
    portOf (gateAtBoundary p s) (otherPort p) = portOf s (otherPort p) := by
  unfold gateAtBoundary
  dsimp only
  split
  · split
    · cases p <;> rfl
    · rw [portOf_of_eff (zeroChannels_eff _ _) rfl rfl]
      cases p <;> rfl
  · exact portOf_closeGate_other p s

theorem gateAtBoundary_closed (h : gateAllowed s p = false) : gateAtBoundary p s = closeGate p s := by
  unfold gateAtBoundary
  rw [h]
  rfl

/-- The causes that close a gate, with the port's mirror domain by its name. -/
theorem gateAllowed_eq (s : State) (p : Port) :
    gateAllowed s p =
      (running s && guideAllowed s && s.supply.vmir && portServes s p && !s.gather.bridge && !s.gather.relight && !(portOf s p).swapHold &&
        (portOf s p).wheel.timeline && !(portOf s p).wheel.lateDark && s.jtag.instr != .extest && !domainHeld s .edge &&
        !domainHeld s .sys && !domainHeld s (portDomain p)) := by
  cases p <;> rfl

/-- What leaves the straps, the configuration, the cartridge, the trips and the pins alone allows guide light as before. -/
theorem guideAllowed_of_eff {l : List Part} (h : Eff l s t) (hl : [Part.core, .binding, .cart, .safety, .pins].all (!l.contains ·) = true) :
    guideAllowed t = guideAllowed s := by
  simp only [List.all_cons, List.all_nil, Bool.and_true, Bool.and_eq_true, Bool.not_eq_true'] at hl
  obtain ⟨hcore, hbinding, hcart, hsafety, hpins⟩ := hl
  simp only [guideAllowed, lampOnly, strap, onEndpaper, h.core_eq hcore, h.binding_eq hbinding, h.cart_eq hcart, h.safety_eq hsafety,
    h.pins_eq hpins]

/-- What leaves the keeper alone holds the domains as before. -/
theorem domainHeld_of_eff {l : List Part} (h : Eff l s t) (hl : l.contains .keeper = false) (d : Domain) :
    domainHeld t d = domainHeld s d := by
  simp only [domainHeld, domainOf, h.keeper_eq hl]

/-! A gathering that is closed and leaves nothing to do at a boundary (07 R163 to R169). -/

/-- No gathering is open, and no bridge, decode or relighting is due. -/
structure AtRest (g : Gather) : Prop where
  closed : g.state = .closed
  bridgeDue : g.bridgeDue = false
  restoring : g.restoring = false
  relight : g.relight = false
  reshowDue : g.reshowDue = false

theorem swapReady_closed (h : s.gather.state = .closed) : swapReady s = false := by simp [swapReady, h]

/-- With the gathering closed, a boundary shows what was taken. -/
theorem boundaryShows_closed (h : s.gather.state = .closed) : boundaryShows p s = stitchAtBoundary p (showTaken p (relightAt p s)) := by
  simp [boundaryShows, swapReady_closed h]

theorem stitchAtBoundary_atRest (h : AtRest s.gather) : stitchAtBoundary p s = s := by
  simp [stitchAtBoundary, swapReady_closed h.closed, h.bridgeDue]

theorem AtRest.relit {g : Gather} (h : AtRest g) : { g with relight := false, reshowDue := false } = g := by
  obtain ⟨-, -, -, hl, hs⟩ := h
  cases g
  simp_all

theorem relightAt_atRest (h : AtRest s.gather) : relightAt p s = s := by
  unfold relightAt
  rw [h.reshowDue, h.relit]
  exact ite_self s

theorem restoreProgress_atRest (h : AtRest s.gather) : restoreProgress s = s := by
  simp [restoreProgress, h.closed, h.restoring]

theorem requestCal_atRest (h : AtRest s.gather) : AtRest (requestCal s).gather := by
  unfold requestCal
  split
  · exact h
  split
  · exact h
  split
  · rw [(enqueue_eff _ _).gather_eq rfl]
    exact { h with }
  · exact h

theorem qualifyCart_atRest (h : AtRest s.gather) : AtRest (qualifyCart s).gather := by
  unfold qualifyCart
  apply requestCal_atRest
  simpa using h

theorem qualifyPort_atRest (h : AtRest s.gather) : AtRest (qualifyPort p s).gather := by
  unfold qualifyPort
  split
  · exact h
  · dsimp only
    rw [(takeover_eff _ _).gather_eq rfl]
    generalize hT : updPort s p _ = T
    have hT : AtRest T.gather := by rwa [← hT, updPort_gather]
    have hu := ite_pred (P := fun u => AtRest u.gather) (c := T.cart.qualified = true) hT (qualifyCart_atRest hT)
    exact ite_pred (P := fun u => AtRest u.gather) hu hu

theorem endPending_atRest (h : AtRest s.gather) : AtRest (endPending s).gather := by
  unfold endPending
  split
  · exact h
  · dsimp only
    split
    · exact { h with }
    · exact h

/-- A selection that every running port shows is pending no longer. -/
theorem endPending_shown {e : Nat} (hc : s.gather.state = .closed) (hr : (portOf s p).raster = true) (hs : (portOf s p).shown = some e)
    (ho : (portOf s (otherPort p)).raster = false ∨ (portOf s (otherPort p)).shown = some e) (hp : s.select.pending = some e) :
    (endPending s).select.pending = none := by
  have seen : stitchSeen s = false := by simp [stitchSeen, hc]
  have runs : p ∈ [Port.a, Port.b].filter (portRuns s) := List.mem_filter.mpr ⟨by cases p <;> decide, hr⟩
  have shows : ∀ r ∈ [Port.a, Port.b].filter (portRuns s), (portOf s r).shown = some e := by
    intro r hr'
    rcases eq_or_eq_otherPort p r with rfl | rfl
    · exact hs
    · exact ho.resolve_left (by simpa [portRuns] using (List.mem_filter.mp hr').2)
  have nonempty : ([Port.a, Port.b].filter (portRuns s)).isEmpty = false := List.isEmpty_eq_false_iff.mpr (List.ne_nil_of_mem runs)
  have all : ([Port.a, Port.b].filter (portRuns s)).all (fun r => (portOf s r).shown == some e) = true :=
    List.all_eq_true.mpr fun r hr' => beq_iff_eq.mpr (shows r hr')
  unfold endPending
  rw [hp]
  dsimp only
  rw [nonempty, all, seen]
  rfl

/-! The boundary while `CK_SYS` runs. -/

theorem qualifyPort_unpassed (h : (portOf s p).checkPassed = false) : qualifyPort p s = s := by simp [qualifyPort, h]

/-- At a boundary with the frame's check, a port shows what it took, apart from its live layer and its checks. -/
theorem frameView_shown (p : Port) (s : State) :
    frameView (portOf (checkFrame p (portOf s p) (showTaken p (showLive p (countBoundary p s)))) p) =
      withTaken (frameView (portOf s p)) := by
  rw [frameView_checkFrame, portOf_showTaken, frameView_withTaken, frameView_showLive, portOf_of_eff (countBoundary_eff p s) rfl rfl]

/-- With the gathering at rest and no cross-check passed, a boundary shows the live pen and the entry taken, and checks the frame. -/
theorem boundarySys_atRest (h : AtRest s.gather) (hc : (portOf s p).checkPassed = false) :
    boundarySys p s = checkFrame p (portOf s p) (showTaken p (showLive p (countBoundary p s))) := by
  have hlive : AtRest (showLive p (countBoundary p s)).gather := by
    rwa [(showLive_eff _ _).gather_eq rfl, (countBoundary_eff _ _).gather_eq rfl]
  have htaken : AtRest (showTaken p (showLive p (countBoundary p s))).gather := by rwa [(showTaken_eff _ _).gather_eq rfl]
  have hpassed : (portOf (checkFrame p (portOf s p) (showTaken p (showLive p (countBoundary p s)))) p).checkPassed = false :=
    ((congrArg PortState.checkPassed (frameView_shown p s)).trans (withTaken_same _ (fun _ _ _ _ => rfl) _)).trans hc
  unfold boundarySys
  rw [boundaryShows_closed hlive.closed, relightAt_atRest hlive, stitchAtBoundary_atRest htaken, qualifyPort_unpassed hpassed]

/-- The moment of a boundary at which the port's new frame has begun, before its gate is set. -/
def frameBegun (p : Port) (s : State) : State := dllReturns p (beginFrame p (boundarySys p (passBoundary p s)))

/-- A boundary of a running head while `CK_SYS` runs: the frame begins, the gate is set, and a selection or a RESTORE may end. -/
theorem exec_frameBoundary (hr : running s = true) (hh : s.core.halted = false) (hp : (portOf s p).raster = true)
    (hk : domainHeld s .sys = false) :
    exec (.frameBoundary p) s = .next (restoreProgress (endPending (gateAtBoundary p (frameBegun p s)))) := by
  refine (guarded_of (by simp [hr, hh, hp]) _ _).trans ?_
  rw [hk]
  rfl

/-- A boundary while `CK_SYS` is held: the frame begins behind a closed gate. -/
theorem exec_frameBoundary_held (hr : running s = true) (hh : s.core.halted = false) (hp : (portOf s p).raster = true)
    (hk : domainHeld s .sys = true) :
    exec (.frameBoundary p) s = .next (closeGate p (beginFrame p (passBoundary p s))) := by
  refine (guarded_of (by simp [hr, hh, hp]) _ _).trans ?_
  rw [hk]
  rfl

/-- What follows a boundary's work in `CK_SYS` leaves the gathering alone until the pending selection ends. -/
theorem gateAtBoundary_gather (p : Port) (s : State) :
    (gateAtBoundary p (frameBegun p s)).gather = (boundarySys p (passBoundary p s)).gather := by
  rw [(gateAtBoundary_eff _ _).gather_eq rfl, frameBegun, (dllReturns_eff _ _).gather_eq rfl, (beginFrame_eff _ _).gather_eq rfl]

/-- When the work in `CK_SYS` leaves the gathering at rest, a boundary ends with the pending selection. -/
theorem exec_frameBoundary_atRest (hr : running s = true) (hh : s.core.halted = false) (hp : (portOf s p).raster = true)
    (hk : domainHeld s .sys = false) (hg : AtRest (boundarySys p (passBoundary p s)).gather) :
    exec (.frameBoundary p) s = .next (endPending (gateAtBoundary p (frameBegun p s))) ∧
      AtRest (endPending (gateAtBoundary p (frameBegun p s))).gather := by
  have rest : AtRest (endPending (gateAtBoundary p (frameBegun p s))).gather := endPending_atRest (by rwa [gateAtBoundary_gather])
  exact ⟨(exec_frameBoundary hr hh hp hk).trans (congrArg _ (restoreProgress_atRest rest)), rest⟩

/-- 04 R77: while `CK_SYS` is held a boundary turns the port's frame over behind its closed gate. -/
theorem frameBoundary_held (hr : running s = true) (hh : s.core.halted = false) (hp : (portOf s p).raster = true)
    (hk : domainHeld s .sys = true) :
    ∃ t, exec (.frameBoundary p) s = .next t ∧ (portOf t p).frames = (portOf s p).frames + 1 ∧ gateOpen t p = false ∧
      (portOf t p).shown = (portOf s p).shown ∧ (portOf t p).liveShown = (portOf s p).liveShown ∧ t.select.pending = s.select.pending ∧
      t.gather = s.gather ∧ t.canvas = s.canvas := by
  have port : portOf (closeGate p (beginFrame p (passBoundary p s))) p = withGate false (withFrame (live s) p (portOf s p)) := by
    rw [portOf_closeGate, portOf_beginFrame, portOf_of_eff (passBoundary_eff _ _) rfl rfl]
    rfl
  have frame : Eff [.pens, .select, .portA, .portB, .emit] s (closeGate p (beginFrame p (passBoundary p s))) :=
    (((passBoundary_eff p s).mono rfl).comp (beginFrame_eff _ _) rfl).comp (closeGate_eff _ _) rfl
  refine ⟨_, exec_frameBoundary_held hr hh hp hk, ?_⟩
  unfold gateOpen
  rw [port, (closeGate_eff _ _).select_eq rfl, beginFrame_pending]
  exact ⟨rfl, rfl, rfl, rfl, rfl, frame.gather_eq rfl, frame.canvas_eq rfl⟩

/-! The lead port's boundary ends the wait of a RESTORE (07 R167, R169). -/

theorem leadPort_of_raster (h : ∀ r, (portOf t r).raster = (portOf s r).raster) : leadPort t = leadPort s := by
  have ha : t.portA.raster = s.portA.raster := h .a
  have hb : t.portB.raster = s.portB.raster := h .b
  rw [leadPort, ha, hb]
  rfl

theorem relightAt_lead (h : leadPort s = some p) : (relightAt p s).gather = { s.gather with relight := false, reshowDue := false } := by
  unfold relightAt
  rw [h]
  simp only [bne_self_eq_false, Bool.false_eq_true, if_false]
  split
  · exact (reshow_eff _).gather_eq rfl
  · rfl

/-- At the lead port's boundary a closed gathering comes to rest. -/
theorem boundarySys_lead (hc : s.gather.state = .closed) (hb : s.gather.bridgeDue = false) (hr : s.gather.restoring = false)
    (hl : leadPort s = some p) : AtRest (boundarySys p s).gather := by
  have gather : (showLive p (countBoundary p s)).gather = s.gather := by
    rw [(showLive_eff _ _).gather_eq rfl, (countBoundary_eff _ _).gather_eq rfl]
  have lead : leadPort (showLive p (countBoundary p s)) = some p := by
    rw [← hl]
    refine leadPort_of_raster fun r => ?_
    have view := congrArg PortState.raster (frameView_showLive p (countBoundary p s) r)
    rwa [portOf_of_eff (countBoundary_eff p s) rfl rfl] at view
  have lit : AtRest (showTaken p (relightAt p (showLive p (countBoundary p s)))).gather := by
    rw [(showTaken_eff _ _).gather_eq rfl, relightAt_lead lead, gather]
    exact ⟨hc, hb, hr, rfl, rfl⟩
  unfold boundarySys
  refine qualifyPort_atRest ?_
  rw [(checkFrame_eff _ _ _).gather_eq rfl, boundaryShows_closed (by rw [gather, hc]), stitchAtBoundary_atRest lit]
  exact lit

/-- 07 R167, R169: the lead port's boundary ends the wait that a RESTORE or its retry leaves. -/
theorem frameBoundary_relights (hr : running s = true) (hh : s.core.halted = false) (hp : (portOf s p).raster = true)
    (hk : domainHeld s .sys = false) (hc : s.gather.state = .closed) (hb : s.gather.bridgeDue = false)
    (hn : s.gather.restoring = false) (hl : leadPort s = some p) :
    ∃ t, exec (.frameBoundary p) s = .next t ∧ t.gather.relight = false ∧ t.gather.reshowDue = false := by
  obtain ⟨hexec, rest⟩ := exec_frameBoundary_atRest hr hh hp hk (boundarySys_lead (s := passBoundary p s) hc hb hn hl)
  exact ⟨_, hexec, rest.relight, rest.reshowDue⟩

/-! What a port shows and whether its gate opens (10 R244, 11 R268, R274). -/

/-- A port that could serve guide light, by its own state. -/
def servesGuide (q : PortState) : Bool := portIsLocked q && q.qualified && !q.outOfService && !q.failedLatch

section
variable (hg : AtRest s.gather) (hc : (portOf s p).checkPassed = false)
include hg hc

theorem boundarySys_atRest_eff : Eff [.codec, .pens, .portA, .portB, .beacon] s (boundarySys p s) := by
  rw [boundarySys_atRest hg hc]
  exact ((((countBoundary_eff p s).mono rfl).comp (showLive_eff _ _) rfl).comp (showTaken_eff _ _) rfl).comp (checkFrame_eff _ _ _) rfl

theorem frameBegun_eff : Eff [.codec, .pens, .select, .portA, .portB, .emit, .beacon] s (frameBegun p s) :=
  ((((passBoundary_eff p s).mono rfl).comp (boundarySys_atRest_eff hg hc) rfl).comp (beginFrame_eff _ _) rfl).comp
    (dllReturns_eff _ _) rfl

theorem frameBegun_pending : (frameBegun p s).select.pending = s.select.pending := by
  rw [frameBegun, (dllReturns_eff _ _).select_eq rfl, beginFrame_pending,
    (boundarySys_atRest_eff (s := passBoundary p s) hg hc).select_eq rfl]
  rfl

/-- The port of a frame just begun shows what it took, under the folios in force. -/
theorem frameView_frameBegun :
    frameView (portOf (frameBegun p s) p) = withFrame (live s) p (withTaken (frameView (portOf s p))) := by
  have folios : live (boundarySys p (passBoundary p s)) = live s :=
    congrArg (fun b : Binding => b.live.folios) ((boundarySys_atRest_eff (s := passBoundary p s) hg hc).binding_eq rfl)
  rw [frameBegun, portOf_of_eff (dllReturns_eff _ _) rfl rfl, portOf_beginFrame, frameView_withFrame, folios,
    boundarySys_atRest (s := passBoundary p s) hg hc, frameView_shown, portOf_of_eff (passBoundary_eff _ _) rfl rfl]

/-- The other port is as it was. -/
theorem frameView_frameBegun_other :
    frameView (portOf (frameBegun p s) (otherPort p)) = frameView (portOf s (otherPort p)) := by
  rw [frameBegun, portOf_of_eff (dllReturns_eff _ _) rfl rfl, portOf_beginFrame_other, boundarySys_atRest (s := passBoundary p s) hg hc,
    frameView_checkFrame, portOf_showTaken_other, frameView_showLive, portOf_of_eff (countBoundary_eff _ _) rfl rfl,
    portOf_of_eff (passBoundary_eff _ _) rfl rfl]

/-- 11 R268: the gate of a frame just begun may not open when guide light is not allowed. -/
theorem gateAllowed_frameBegun_dark (ha : guideAllowed s = false) : gateAllowed (frameBegun p s) p = false := by
  simp [gateAllowed, guideAllowed_of_eff (frameBegun_eff hg hc) rfl, ha]

/-- 11 R268: it may open when every cause that closes it has ended. -/
theorem gateAllowed_frameBegun (hr : running s = true) (ha : guideAllowed s = true) (hv : s.supply.vmir = true)
    (hs : portServes s p = true) (ht : (portOf s p).wheel.timeline = true) (hj : s.jtag.instr ≠ .extest)
    (hbridge : s.gather.bridge = false) (hedge : domainHeld s .edge = false) (hsys : domainHeld s .sys = false)
    (hport : domainHeld s (portDomain p) = false) : gateAllowed (frameBegun p s) p = true := by
  have eff := frameBegun_eff hg hc
  have view := frameView_frameBegun hg hc
  have held := domainHeld_of_eff eff rfl
  have runs : running (frameBegun p s) = true := by rwa [running, eff.supply_eq rfl, eff.core_eq rfl]
  have guide : guideAllowed (frameBegun p s) = true := (guideAllowed_of_eff eff rfl).trans ha
  have serves : portServes (frameBegun p s) p = true :=
    ((congrArg servesGuide view).trans (withTaken_same servesGuide (fun _ _ _ _ => rfl) _)).trans hs
  have timeline : (portOf (frameBegun p s) p).wheel.timeline = true :=
    ((congrArg (fun q : PortState => q.wheel.timeline) view).trans
      (withTaken_same (fun q => q.wheel.timeline) (fun _ _ _ _ => rfl) _)).trans ht
  have swapHold : (portOf (frameBegun p s) p).swapHold = false := congrArg PortState.swapHold view
  have lateDark : (portOf (frameBegun p s) p).wheel.lateDark = false := congrArg (fun q : PortState => q.wheel.lateDark) view
  simp [gateAllowed_eq, runs, guide, serves, timeline, swapHold, lateDark, held, hedge, hsys, hport, eff.supply_eq rfl, hv,
    eff.jtag_eq rfl, hj, eff.gather_eq rfl, hbridge, hg.relight]

/-- 10 R244: the selection that the port takes ends when the other port runs no raster or shows it too. -/
theorem boundary_ends_selection (hp : (portOf s p).raster = true) {e : Nat} (he : (portOf s p).taken = some e)
    (hs : s.select.pending = some e) (ho : (portOf s (otherPort p)).raster = false ∨ (portOf s (otherPort p)).shown = some e) :
    (endPending (gateAtBoundary p (frameBegun p s))).select.pending = none := by
  have gather : (gateAtBoundary p (frameBegun p s)).gather = s.gather :=
    ((gateAtBoundary_eff _ _).gather_eq rfl).trans ((frameBegun_eff hg hc).gather_eq rfl)
  have pending : (gateAtBoundary p (frameBegun p s)).select.pending = some e := by
    rw [(gateAtBoundary_eff _ _).select_eq rfl, frameBegun_pending hg hc, hs]
  have view := frameView_frameBegun hg hc
  rw [withTaken_some (q := frameView (portOf s p)) he] at view
  have other := frameView_frameBegun_other hg hc
  have otherRaster := congrArg PortState.raster other
  have otherShown := congrArg PortState.shown other
  refine endPending_shown (p := p) (by rw [gather, hg.closed]) ?_ ?_ ?_ pending
  · rw [portOf_gateAtBoundary]
    exact (congrArg PortState.raster view).trans hp
  · rw [portOf_gateAtBoundary]
    exact congrArg PortState.shown view
  · rw [portOf_gateAtBoundary_other]
    exact ho.imp otherRaster.trans otherShown.trans

end

/-- The port after a boundary that leaves the gathering at rest: the frame just begun, behind its gate. -/
theorem portOf_boundary (p : Port) (s : State) :
    portOf (endPending (gateAtBoundary p (frameBegun p s))) p =
      withGate (gateAllowed (frameBegun p s) p) (portOf (frameBegun p s) p) := by
  rw [portOf_of_eff (endPending_eff _) rfl rfl, portOf_gateAtBoundary]

/-- 10 R244, 11 R268, R274: a boundary outside a gathering shows what was taken, ends a selection that every running port shows, and sets
the gate by what is allowed. -/
theorem frameBoundary_shows (hr : running s = true) (hh : s.core.halted = false) (hp : (portOf s p).raster = true)
    (hk : domainHeld s .sys = false) (hg : AtRest s.gather) (hbridge : s.gather.bridge = false)
    (hc : (portOf s p).checkPassed = false) :
    ∃ t, exec (.frameBoundary p) s = .next t ∧ (portOf t p).frames = (portOf s p).frames + 1 ∧
      (portOf t p).fbLine = (portOf s p).nextFb ∧ (portOf t p).fields = live s ∧ (portOf t p).pastLatch = false ∧
      (∀ e, (portOf s p).taken = some e → (portOf t p).shown = some e ∧
        (portOf t p).guideShown = (portOf s p).guideTaken ∧ (portOf t p).signalShown = (portOf s p).signalTaken ∧
        (portOf t p).taken = none ∧
        (s.select.pending = some e → (portOf s (otherPort p)).raster = false ∨ (portOf s (otherPort p)).shown = some e →
          t.select.pending = none)) ∧
      ((portOf s p).taken = none → (portOf t p).shown = (portOf s p).shown ∧
        (portOf t p).guideShown = (portOf s p).guideShown) ∧
      (guideAllowed s = true → s.supply.vmir = true → portServes s p = true → (portOf s p).wheel.timeline = true →
        s.jtag.instr ≠ .extest → domainHeld s .edge = false → domainHeld s (portDomain p) = false → gateOpen t p = true) ∧
      (guideAllowed s = false → gateOpen t p = false ∧
        ∀ l ∈ t.emit.lasers, l.assigned = some p → l.level = 0 ∧ l.code = 0) := by
  have rest : AtRest (boundarySys p (passBoundary p s)).gather := by
    rwa [(boundarySys_atRest_eff (s := passBoundary p s) hg hc).gather_eq rfl]
  obtain ⟨hexec, -⟩ := exec_frameBoundary_atRest hr hh hp hk rest
  have view := frameView_frameBegun hg hc
  refine ⟨_, hexec, ?_⟩
  unfold gateOpen
  rw [portOf_boundary]
  refine ⟨?_, ?_, congrArg PortState.fields view, congrArg PortState.pastLatch view, fun e he => ?_, fun hn => ?_, ?_, fun ha => ?_⟩
  · exact (congrArg PortState.frames view).trans (congrArg (· + 1) (withTaken_same PortState.frames (fun _ _ _ _ => rfl) _))
  · exact (congrArg PortState.fbLine view).trans (withTaken_same PortState.nextFb (fun _ _ _ _ => rfl) _)
  · rw [withTaken_some (q := frameView (portOf s p)) he] at view
    exact ⟨congrArg PortState.shown view, congrArg PortState.guideShown view, congrArg PortState.signalShown view,
      congrArg PortState.taken view, boundary_ends_selection hg hc hp he⟩
  · rw [withTaken_none (q := frameView (portOf s p)) hn] at view
    have shown := congrArg PortState.shown view
    have guideShown := congrArg PortState.guideShown view
    exact ⟨shown, guideShown⟩
  · exact fun ha hv hs ht hj hedge hport => gateAllowed_frameBegun hg hc hr ha hv hs ht hj hbridge hedge hk hport
  · have dark := gateAllowed_frameBegun_dark hg hc ha
    refine ⟨dark, ?_⟩
    rw [(endPending_eff _).emit_eq rfl, gateAtBoundary_closed dark]
    exact closeGate_channels p _

/-- Settles O44: a boundary under a held `CK_SYS`, the lead port's after a RESTORE, and one outside a gathering. -/
theorem frameBoundaryShowsTheTaken : Obligations.FrameBoundaryShowsTheTaken := by
  refine ⟨fun _ _ => frameBoundary_held, fun _ _ => frameBoundary_relights, ?_⟩
  intro p s hr hh hp hclosed hbridge hdue hrestoring hrelight hreshow hc hk
  exact frameBoundary_shows hr hh hp hk ⟨hclosed, hdue, hrestoring, hrelight, hreshow⟩ hbridge hc

end Sys2Proof.Proofs
end

section
/-! SUPPORT. Supplies, the core reset and darkness (02 R22 to R32, R39, 04 R76, R79, 18 R410): O6, O7, O10, O12, O13, O14. -/

namespace Sys2Proof.Proofs

open Sys2Proof Machine Laws

variable {s t : State} {p : Port}

/-! Darkness. -/

/-- Settles O6: every step has an effect, and every effect keeps the part dark where light is forbidden. -/
theorem everyStepKeepsForbiddenLightOff : Obligations.EveryStepKeepsForbiddenLightOff := by
  intro s t hs ht
  obtain ⟨u, l, hu, heff⟩ := step_eff s
  obtain rfl : u = t := Host.Outcome.next.inj (hu.symm.trans ht)
  exact heff.dark hs

/-! The status ring (02 R30). -/

theorem statusRing_floating (hv : s.supply.vin = false) : statusRing s = .floating := by simp [statusRing, hv]

theorem statusRing_held (hv : s.supply.vin = true) (ha : s.supply.ringHAbove = true) (hr : s.supply.ringH = false) :
    statusRing s = .held := by simp [statusRing, hv, ha, hr]

theorem statusBall_floating (h : statusRing s = .floating) (held : Level) (driven : Bool) : statusBall held driven s = .hiZ := by
  simp [statusBall, h]

theorem statusBall_held (h : statusRing s = .held) (held : Level) (driven : Bool) : statusBall held driven s = held := by
  simp [statusBall, h]

/-- Settles O7: the reset state has no supply, so its ring floats; a powered ring is held. -/
theorem resetMeetsTheInvariants : Obligations.ResetMeetsTheInvariants := by
  have off : statusRing State.reset = .floating := statusRing_floating rfl
  refine ⟨reset_queue, reset_blocks, fun _ => reset_dark, reset_dark, rfl, rfl, rfl, rfl, rfl, rfl, rfl, fun _ => rfl,
    statusBall_floating off _ _, statusBall_floating off _ _, rfl, rfl, fun _ => statusBall_floating off _ _,
    fun _ => statusBall_floating off _ _, fun s hv ha hr => ?_⟩
  have held := statusRing_held hv ha hr
  exact ⟨statusBall_held held _ _, statusBall_held held _ _, fun _ => statusBall_held held _ _, fun _ => statusBall_held held _ _⟩

/-- Settles O10, supply by supply. -/
theorem suppliesAreFollowed : Obligations.SuppliesAreFollowed := by
  intro s
  refine ⟨fun hv => guarded_of ?_ _ _, fun hv hu => guarded_of ?_ _ _, fun l hu ha hr => guarded_of ?_ _ _, fun _ => rfl,
    fun hm => guarded_of ?_ _ _, fun hv => guarded_of hv _ _⟩
  · simp [hv]
  · simp [hv, hu]
  · simp [hu, ha, hr]
  · simp [hm]

/-! The core reset (04 R76, R79). -/

theorem coreReset_dark (s : State) : Dark (coreReset s) := reset_dark

/-- Settles O12: the loss of `VDDIO_H` and a keeper restart are a core reset, which starts from the reset state. -/
theorem coreResetDiscardsTheCore : Obligations.CoreResetDiscardsTheCore := by
  refine ⟨fun s hr => ⟨fun ha => guarded_of ?_ _ _, fun ha => guarded_not ?_ _ _⟩, fun s hr => ?_, fun s => ?_⟩
  · simp [hr, ha]
  · simp [ha]
  · exact ⟨_, guarded_of hr _ _, rfl, rfl, rfl, rfl, coreReset_dark s⟩
  · exact ⟨rfl, coreReset_dark s, rfl, rfl, rfl, rfl, rfl, rfl, rfl, rfl, rfl, rfl, rfl, rfl, rfl⟩

/-! The memory ring's supply (02 R27, R28, R31). -/

/-- No item is being read. -/
def readingNone (s : State) : State := { s with mem := { s.mem with reading := none } }

/-- `VDDIO_M` is lost. -/
def withoutMemory (s : State) : State := { s with supply := { s.supply with ringM := false } }

/-- The reader once the read of a copy of the spine has failed. -/
def spineUnread (c : Copy) (r : Reader) : Reader :=
  match c with
  | .a => { r with spineA := none, firstReason := if r.firstReason = 0 then rMemRead else r.firstReason }
  | .b => { r with spineB := none, firstReason := if r.firstReason = 0 then rMemRead else r.firstReason }

/-- The failed read of the spine's first copy leaves the copy unread and is reported. -/
theorem finishRead_firstSpine_failed {c : Copy} (hc : copyPref s = c) :
    finishRead (.spine c) none s = report evSigFallback rMemRead (copyNum c) (updReader (spineUnread c) s) := by
  cases c <;> simp [finishRead, hc, rMemRead, updReader, spineUnread]

theorem endRead_firstSpine (hm : s.mem.reading = some (.spine (copyPref s))) :
    endRead none s = pumpReads (report evSigFallback rMemRead (copyNum (copyPref s))
      (updReader (spineUnread (copyPref s)) (readingNone s))) := by
  have failed : finishRead (.spine (copyPref s)) none (readingNone s) = _ := finishRead_firstSpine_failed rfl
  rw [← failed]
  simp only [endRead, hm]
  rfl

/-- With no leaf job running, failing the reads is failing the reader's. -/
theorem failReads_reader (h : (endRead none s).codec.running = none) : failReads s = endRead none s := by
  simp [failReads, failJobRead, h]

/-- What the failing of the reads does to that of the spine's first copy. -/
theorem failReads_firstSpine (hm : s.mem.reading = some (.spine (copyPref s))) (hj : s.codec.running = none) :
    (failReads s).binding.reader = spineUnread (copyPref s) s.binding.reader ∧
      Reported evSigFallback (copyNum (copyPref s)) (failReads s) := by
  have ended := endRead_firstSpine hm
  have pumped := pumpReads_eff (report evSigFallback rMemRead (copyNum (copyPref s))
      (updReader (spineUnread (copyPref s)) (readingNone s)))
  rw [← ended] at pumped
  have lane : (endRead none s).codec.running = none := by
    rw [pumped.codec_eq rfl]
    simpa [readingNone] using hj
  rw [failReads_reader lane]
  refine ⟨?_, reported_of_eff (report_reported _ _ _ _) pumped rfl⟩
  rw [pumped.binding_eq rfl]
  simp [updReader, readingNone]

theorem exec_vddioMInvalid (hr : s.supply.ringM = true) :
    exec .vddioMInvalid s = .next (if sysRuns s then failReads (withoutMemory s) else withoutMemory s) := guarded_of hr _ _

/-- Settles O13: a change of the supply, and with `CK_SYS` running the failed reads behind it. -/
theorem memorySupplyIsFollowed : Obligations.MemorySupplyIsFollowed := by
  refine ⟨fun l s hu hr => ⟨_, guarded_of ?_ _ _, ?_⟩, fun s hr => ⟨_, exec_vddioMInvalid hr, ?_, fun hs hm hj => ?_⟩, fun s hr hs => ?_⟩
  · simp [hu, hr]
  · split
    · exact (failReads_eff _).supply_eq rfl
    · rfl
  · split
    · exact (failReads_eff _).supply_eq rfl
    · rfl
  · obtain ⟨reader, reported⟩ := failReads_firstSpine (s := withoutMemory s) hm hj
    rw [if_pos hs, reader, show copyPref (withoutMemory s) = copyPref s from rfl]
    exact ⟨fun hc => by rw [hc]; rfl, fun hc => by rw [hc]; rfl, reported⟩
  · rw [exec_vddioMInvalid hr, hs]
    rfl

/-! The mirrors' supply (02 R32, 12 R279). -/

theorem coastBoth_coilZ (s : State) (p : Port) : (portOf (coastBoth s) p).coilZ = (portOf s p).coilZ := by
  unfold coastBoth
  cases p
  · rw [coastPort_other (by decide), coastPort_coilZ]
  · rw [coastPort_coilZ, coastPort_other (by decide)]

/-- A fresh port differs in the marks of earlier starts alone. -/
theorem portOf_freshPorts (s : State) (p : Port) :
    portOf (freshPorts s) p =
      { portOf s p with failedPhase := 0, restartDue := false, restarting := false, down := false, served := false } := by
  cases p <;> rfl

theorem coasted_freshPorts (h : Coasted s p) : Coasted (freshPorts s) p := by
  unfold Coasted at *
  rwa [portOf_freshPorts]

/-- What a coasting port puts out. -/
theorem coasted_outputs (h : Coasted t p) (hv : t.supply.vin = true) (hz : (portOf t p).coilZ = (portOf s p).coilZ) :
    ((portOf s p).coilZ = 0 → coilsShorted t p = true) ∧ (portOf t p).raster = false ∧ (portOf t p).wheel.gate = false ∧
      (portOf t p).driveW = 0 ∧ (portOf t p).driveP = 0 ∧ (portOf t p).driveSlow = 0 := by
  have shorted := fun h0 : (portOf s p).coilZ = 0 => h.shorted hv (hz.trans h0)
  obtain ⟨-, raster, gate, driveW, driveP, driveSlow⟩ := h
  exact ⟨shorted, raster, gate, driveW, driveP, driveSlow⟩

/-- A part whose core runs has `VIN`. -/
theorem vin_of_running (h : running s = true) : s.supply.vin = true := by
  simp only [running, Bool.and_eq_true] at h
  exact h.1

/-- `VMIR` is lost. -/
def withoutMirrors (s : State) : State := { s with supply := { s.supply with vmir := false } }

/-- A qualification that had reached its mirror start waits there, once the ports coast. -/
def waitForMirrors (s : State) : State :=
  if s.cart.qualified || s.cart.step == .mirror || s.cart.step == .photodiodes then
    setStep .mirror (freshPorts { s with cart := { s.cart with qualified := false } })
  else s

theorem exec_vmirLow (hm : s.supply.vmir = true) (hr : running s = true) :
    exec .vmirLow s = .next (waitForMirrors (coastBoth (withoutMirrors s))) :=
  (guarded_of hm _ _).trans (congrArg _ (if_pos hr))

theorem waitForMirrors_coasted (h : Coasted s p) : Coasted (waitForMirrors s) p ∧ (portOf (waitForMirrors s) p).coilZ = (portOf s p).coilZ := by
  unfold waitForMirrors
  split
  · have fresh : Coasted (freshPorts { s with cart := { s.cart with qualified := false } }) p :=
      coasted_freshPorts (h.of_eq (by cases p <;> rfl))
    exact ⟨fresh.of_eff (setStep_eff _ _) rfl rfl, by cases p <;> rfl⟩
  · exact ⟨h, rfl⟩

theorem waitForMirrors_cart (s : State) : (waitForMirrors s).cart.qualified = false ∧ (waitForMirrors s).cart.present = s.cart.present := by
  unfold waitForMirrors
  split
  · exact ⟨rfl, rfl⟩
  next h =>
    simp only [Bool.or_eq_true, not_or, Bool.not_eq_true] at h
    exact ⟨h.1.1, rfl⟩

theorem waitForMirrors_supply (s : State) : (waitForMirrors s).supply = s.supply := by
  unfold waitForMirrors
  split <;> rfl

/-- Settles O14: without a running core the supply alone; with it both ports coast and the qualification waits. -/
theorem mirrorSupplyLossCoastsThePorts : Obligations.MirrorSupplyLossCoastsThePorts := by
  intro s hm
  refine ⟨fun hr => (guarded_of hm _ _).trans (congrArg _ (if_neg (by simp [hr]))), fun hr => ?_⟩
  have coasting := coastBoth_eff (withoutMirrors s)
  have supply := (waitForMirrors_supply _).trans (coasting.supply_eq rfl)
  obtain ⟨qualified, present⟩ := waitForMirrors_cart (coastBoth (withoutMirrors s))
  refine ⟨_, exec_vmirLow hm hr, supply, fun p => ?_, qualified, present.trans (congrArg Cart.present (coasting.cart_eq rfl))⟩
  obtain ⟨coasted, coilZ⟩ := waitForMirrors_coasted (coastBoth_coasted (withoutMirrors s) p)
  refine coasted_outputs coasted ?_ (coilZ.trans ((coastBoth_coilZ _ _).trans (by cases p <;> rfl)))
  rw [supply]
  exact vin_of_running hr

end Sys2Proof.Proofs
end

section
/-! SUPPORT. `KILL_N` and the trip latch (02 R39, 16 R383 to R391), and O57. -/

namespace Sys2Proof.Proofs

open Sys2Proof Machine Laws

variable {s t : State} {c : TripCause} {n : Nat}

/-! `KILL_N`. -/

/-- `KILL_N` has gone low: every channel and the lamps are dark. -/
def killed (s : State) : State :=
  closeGates (darkAllChannels { s with pins := { s.pins with killLow := true }, safety := { s.safety with tripInKill := false }
                                       lamp := { s.lamp with dark := true } })

theorem exec_killAssert (hk : s.pins.killLow = false) :
    exec .killAssert s = .next (if running s then report evKill 0 1 (killed s) else killed s) :=
  guarded_of (by simp [hk]) _ _

/-- 02 R39: the assertion darkens everything and latches nothing. -/
theorem killAssert_darkens (hk : s.pins.killLow = false) :
    ∃ t, exec .killAssert s = .next t ∧ t.pins = { s.pins with killLow := true } ∧ Dark t ∧ t.lamp.dark = true ∧
      t.safety.causes = s.safety.causes ∧ (running s = true → Reported evKill 1 t) := by
  have dark : Dark (killed s) := closeGates_dark _
  refine ⟨_, exec_killAssert hk, ?_⟩
  cases hr : running s
  · exact ⟨rfl, dark, rfl, rfl, nofun⟩
  · rw [if_pos rfl]
    have reported := report_eff evKill 0 1 (killed s)
    exact ⟨reported.pins_eq rfl, dark_reportX dark _ _ _ _, congrArg LampField.dark (reported.lamp_eq rfl),
      (congrArg Safety.causes (reported.safety_eq rfl)).trans rfl, fun _ => report_reported _ _ _ _⟩

/-- `KILL_N` has gone high, and the latch is as it was. -/
def unkilled (s : State) : State := { s with pins := { s.pins with killLow := false } }

/-- The latch at a release of `KILL_N`. -/
def releaseLatch (ms : Nat) (s : State) : State := if running s && releases ms s then clearLatch (unkilled s) else unkilled s

theorem exec_killRelease (ms : Nat) (hk : s.pins.killLow = true) :
    exec (.killRelease ms) s = .next (if running s then report evKill 0 0 (releaseLatch ms s) else releaseLatch ms s) :=
  guarded_of hk _ _

theorem releaseLatch_clears {ms : Nat} (hr : running s = true) (hl : releases ms s = true) :
    releaseLatch ms s = clearLatch (unkilled s) := by simp [releaseLatch, hr, hl]

theorem releaseLatch_keeps {ms : Nat} (h : running s = false ∨ releases ms s = false) : releaseLatch ms s = unkilled s := by
  rcases h with h | h <;> simp [releaseLatch, h]

theorem releaseLatch_frame (ms : Nat) (s : State) :
    (releaseLatch ms s).pins = { s.pins with killLow := false } ∧ (releaseLatch ms s).emit = s.emit := by
  unfold releaseLatch
  split <;> exact ⟨rfl, rfl⟩

/-- A release is reported while the core runs, and that is all that is done behind the latch. -/
theorem exec_killRelease_eff (ms : Nat) (hk : s.pins.killLow = true) :
    ∃ t, exec (.killRelease ms) s = .next t ∧ Eff [.beacon] (releaseLatch ms s) t ∧ (running s = true → Reported evKill 0 t) := by
  refine ⟨_, exec_killRelease ms hk, ?_⟩
  cases running s
  · exact ⟨Eff.refl _ _, nofun⟩
  · exact ⟨report_eff _ _ _ _, fun _ => report_reported _ _ _ _⟩

/-- 16 R390: a release clears a latch that may be cleared and no other. -/
theorem killRelease_releases (ms : Nat) (hk : s.pins.killLow = true) :
    ∃ t, exec (.killRelease ms) s = .next t ∧ t.pins = { s.pins with killLow := false } ∧ t.emit = s.emit ∧
      (running s = true → releases ms s = true → t.safety.causes = [] ∧ t.safety.sinceRelease = some 0 ∧
        t.portA.qualified = false ∧ t.portB.qualified = false ∧ Reported evKill 0 t) ∧
      (running s = false ∨ releases ms s = false → t.safety = s.safety ∧ t.portA = s.portA ∧ t.portB = s.portB) := by
  obtain ⟨t, ht, heff, reported⟩ := exec_killRelease_eff ms hk
  obtain ⟨pins, emit⟩ := releaseLatch_frame ms s
  refine ⟨t, ht, (heff.pins_eq rfl).trans pins, (heff.emit_eq rfl).trans emit, fun hr hl => ?_, fun h => ?_⟩
  · rw [heff.safety_eq rfl, heff.portA_eq rfl, heff.portB_eq rfl, releaseLatch_clears hr hl]
    exact ⟨rfl, rfl, rfl, rfl, reported hr⟩
  · rw [heff.safety_eq rfl, heff.portA_eq rfl, heff.portB_eq rfl, releaseLatch_keeps h]
    exact ⟨rfl, rfl, rfl⟩

/-! Trips (16 R389). -/

/-- A cause that is latched is not latched again. -/
theorem trip_causes_latched (h : c ∈ s.safety.causes) : (trip c n s).safety.causes = s.safety.causes := by
  have hn : s.safety.causes.contains c = true := by simpa using h
  simp only [trip, hn, Bool.not_true, Bool.false_and, Bool.false_eq_true, if_false, closeGates_darkAll_safety]

/-- A trip's cause is latched behind those before it. -/
theorem trip_latches (c : TripCause) (n : Nat) (s : State) :
    c ∈ (trip c n s).safety.causes ∧ ∀ j ∈ s.safety.causes, j ∈ (trip c n s).safety.causes := by
  by_cases h : c ∈ s.safety.causes
  · rw [trip_causes_latched h]
    exact ⟨h, fun _ => id⟩
  · rw [trip_causes c n s h]
    exact ⟨List.mem_append_right _ (List.mem_singleton.mpr rfl), fun _ => List.mem_append_left _⟩

theorem running_trip (h : running s = true) : running (trip c n s) = true := by
  have heff := trip_eff c n s
  rwa [running, heff.supply_eq rfl, heff.core_eq rfl]

/-- `STAT` 6 shows a latched trip, below the halted core's 7. -/
theorem stat_tripped (hr : running t = true) (hc : t.safety.causes ≠ []) : stat t = if t.core.halted then 7 else 6 := by
  simp [stat, hr, hc]

/-- 17 R397: a latched trip holds `FAULT_N` low. -/
theorem faultLow_tripped (hr : running t = true) (hc : t.safety.causes ≠ []) : faultLow t = true := by
  simp [faultLow, faultLatched, hr, hc]

/-- Settles O57: the assertion and the release of `KILL_N`, and a trip. -/
theorem killAndTripsDarken : Obligations.KillAndTripsDarken := by
  refine ⟨fun s => killAssert_darkens, fun ms s => killRelease_releases ms, fun k which value ns s hr ht => ?_⟩
  obtain ⟨latched, kept⟩ := trip_latches k which s
  have tripped := List.ne_nil_of_mem latched
  have runs : running (trip k which s) = true := running_trip hr
  refine ⟨_, guarded_of (by simp [hr, ht]) _ _, latched, kept, trip_dark _ _ _, ?_, faultLow_tripped runs tripped⟩
  rw [stat_tripped runs tripped, (trip_eff k which s).core_eq rfl]

end Sys2Proof.Proofs
end

section
/-! SUPPORT. The core's release and the first read (02 R25, R31, 03 R48, R58 to R60, 04 R70, R74, 06 R115, R118, R138): O15 and O17. -/

namespace Sys2Proof.Proofs

open Sys2Proof Machine Laws

variable {s t : State} {r : ReleasePins}

/-! The core's release (04 R70). -/

/-- The core out of reset, with the accepted codes, the majority of the straps and the pins as sampled. -/
def released (r : ReleasePins) (s : State) : State :=
  { s with
    core := { s.core with inReset := false, held := s.aon.balls.map (·.accepted), straps := majority r.psel1 r.psel2 r.psel3 }
    pins := { s.pins with abortLow := r.abortLow, killLow := r.killLow, manualLow := r.manualLow, holdLow := r.holdLow } }

/-- The reports of a release: the codes and the straps (03 R46, R47, R59), what the always-on domain found, and a keeper restart (04 R79). -/
def releaseReports (s : State) : State :=
  let t := releaseWaiting (releaseStraps (allBalls.foldl (fun u b => releaseBall b u) s))
  if t.keeper.restarted then report evKeeperRestart 0 255 { t with keeper := { t.keeper with restarted := false } } else t

/-- A cartridge is seen at the release of s by its detect ball and its code (04 R74). -/
def cartSeen (r : ReleasePins) (s : State) : Bool :=
  r.detLow && s.aon.cartAgree.isSome && !(majority r.psel1 r.psel2 r.psel3).getLsbD 2

/-- The cartridge that is seen at the release of s is present in t. -/
def releaseCart (r : ReleasePins) (s t : State) : State :=
  if cartSeen r s then { t with cart := { t.cart with present := true, code := s.aon.cartAgree.getD 0 } } else t

theorem releaseReports_eff (s : State) : Eff [.aon, .keeper, .beacon] s (releaseReports s) := by
  have codes : Eff [.aon, .keeper, .beacon] s (releaseWaiting (releaseStraps (allBalls.foldl (fun u b => releaseBall b u) s))) :=
    ((Eff.foldl (fun _ _ => (releaseBall_eff _ _).mono rfl) _ (Eff.refl _ _)).comp (releaseStraps_eff _) rfl).comp
      (releaseWaiting_eff _) rfl
  exact Eff.ite (fun _ => (Eff.set_keeper codes rfl).comp (report_eff _ _ _ _) rfl) fun _ => codes

theorem releaseCart_eff (r : ReleasePins) (s t : State) : Eff [.cart] t (releaseCart r s t) :=
  Eff.ite (fun _ => Eff.set_cart (Eff.refl _ _) rfl) fun _ => Eff.refl _ _

theorem releaseCart_present (r : ReleasePins) (s t : State) :
    (releaseCart r s t).cart.present = (t.cart.present || cartSeen r s) := by
  unfold releaseCart
  split
  next h => simp [h]
  next h => simp [h]

/-- The part at the release, its bus apart. -/
def releasedPart (r : ReleasePins) (s : State) : State := releasePens (releasePack (releaseCart r s (releaseReports (released r s))))

theorem exec_coreRelease (hv : s.supply.vin = true) (hu : s.supply.aonUp = true) (hh : s.supply.ringH = true)
    (hc : s.core.inReset = true) (hp : 2 ≤ s.aon.passes) :
    exec (.coreRelease r) s = .next (releaseBus r.holdLow (releasedPart r s)) :=
  guarded_of (by simp [hv, hu, hh, hc, hp]) _ _

/-- The packs, the pens and the reports of a release leave the core and the pins alone. -/
theorem releasedPart_eff (r : ReleasePins) (s : State) :
    Eff [.aon, .pack, .cart, .keeper, .pens, .beacon] (released r s) (releasedPart r s) :=
  ((((releaseReports_eff _).mono rfl).comp (releaseCart_eff r s _) rfl).comp (releasePack_eff _) rfl).comp (releasePens_eff _) rfl

theorem releasedPart_present (r : ReleasePins) (s : State) :
    (releasedPart r s).cart.present = (s.cart.present || cartSeen r s) := by
  unfold releasedPart
  rw [(releasePens_eff _).cart_eq rfl, (releasePack_eff _).cart_eq rfl, releaseCart_present, (releaseReports_eff _).cart_eq rfl]
  rfl

/-- 02 R25, 03 R60: the bus at the release. -/
theorem releaseBus_mem (holdLow : Bool) (s : State) :
    (releaseBus holdLow s).mem.ackLow = (holdLow || strap s 3) ∧ (releaseBus holdLow s).mem.bootHold = strap s 3 ∧
      (releaseBus holdLow s).mem.flashReset = if (releaseBus holdLow s).mem.ackLow then .none else .low := ⟨rfl, rfl, rfl⟩

/-- Settles O15: what the release takes stays as taken, and the bus is decided last. -/
theorem coreReleaseTakesTheCodes : Obligations.CoreReleaseTakesTheCodes := by
  intro r s hv hu hh hc hp
  have part := releasedPart_eff r s
  have bus := releaseBus_eff r.holdLow (releasedPart r s)
  have core := (bus.core_eq rfl).trans (part.core_eq rfl)
  have pins := (bus.pins_eq rfl).trans (part.pins_eq rfl)
  obtain ⟨ackLow, bootHold, flashReset⟩ := releaseBus_mem r.holdLow (releasedPart r s)
  have straps : strap (releasedPart r s) 3 = (releaseBus r.holdLow (releasedPart r s)).core.straps.getLsbD 3 := by
    rw [strap, bus.core_eq rfl]
  rw [straps] at ackLow bootHold
  refine ⟨_, exec_coreRelease hv hu hh hc hp, ?_, ?_, ?_, ?_, ?_, ?_, ?_, ?_, ?_, ackLow, bootHold, flashReset, ?_⟩
  · rw [core]; rfl
  · rw [core]; rfl
  · rw [core]; rfl
  · rw [core]; rfl
  · rw [core]; rfl
  · rw [pins]; rfl
  · rw [pins]; rfl
  · rw [pins]; rfl
  · rw [pins]; rfl
  · rw [core, bus.cart_eq rfl, releasedPart_present]
    rfl

/-! The first read (06 R118). -/

/-- On a free bus on which nothing waits, the first of the reads that are asked for begins. -/
theorem askReads_idle {m : MemItem} {rest : List MemItem} (hr : s.mem.reading = none) (hw : s.mem.waiting = [])
    (hb : busFree s = true) :
    askReads (m :: rest) s = issueReads (itemSpans s m) { s with mem := { s.mem with reading := some m, waiting := rest } } := by
  have begins : (s.mem.reading.isSome || !busFree s) = false := by simp [hr, hb]
  rw [askReads, hw, List.nil_append, pumpReads]
  exact if_neg (ne_true_of_eq_false begins)

/-- 06 R127: where the copies of the spine lie. -/
theorem itemSpans_spine (s : State) (c : Copy) : itemSpans s (.spine c) = [(if c = .a then 0 else 4096, 4096)] := by
  cases c <;> rfl

/-- The flash has been reset. -/
def flashReady (s : State) : State := { s with mem := { s.mem with flashReset := .done } }

theorem busFree_flashReady (hn : s.core.noBinding = false) (ha : s.mem.ackLow = false) (hd : s.mem.statusDue = false)
    (hk : domainHeld s .mem = false) : busFree (flashReady s) = true := by
  have free : domainHeld (flashReady s) .mem = false := hk
  rw [busFree, free]
  simp [flashReady, hn, ha, hd]

/-- The first read is that of the preferred copy of the spine, with its other copy behind it. -/
theorem beginSelection_first (hr : s.mem.reading = none) (hw : s.mem.waiting = []) (hb : busFree s = true) (stitch : Bool) :
    (beginSelection stitch s).mem = { s.mem with
        reading := some (.spine (copyPref s)), waiting := [.spine (otherCopy (copyPref s))]
        unread := [(if copyPref s = .a then 0 else 4096, 4096)]
        issued := readCommands s.mem.mode (fnat (live s) memportReadChunk) [(if copyPref s = .a then 0 else 4096, 4096)] } ∧
      (beginSelection stitch s).binding = { s.binding with reader := { phase := .spines, stitch, n := toolCode s } } := by
  have begun := askReads_idle (s := updReader (fun _ => { phase := .spines, stitch, n := toolCode s }) s) (m := .spine (copyPref s))
    (rest := [.spine (otherCopy (copyPref s))]) hr hw hb
  rw [beginSelection, begun, itemSpans_spine]
  exact ⟨rfl, rfl⟩

/-- 03 R60, 06 R118: the first read begins once the flash has been reset and the bus is the part's. -/
theorem bindingReadStart_begins (hs : sysRuns s = true) (hp : s.core.plls = true) (hm : s.supply.ringM = true)
    (hn : s.core.noBinding = false) (hf : s.core.folios = false) (ha : s.mem.ackLow = false) (hb : s.mem.bootHold = false)
    (hr : s.mem.flashReset = .waiting ∨ s.mem.flashReset = .done) (hd : s.mem.statusDue = false)
    (hi : s.binding.reader.phase = .idle) (hk : domainHeld s .mem = false) :
    exec .bindingReadStart s = .next (beginSelection false (flashReady s)) := by
  have reset : (s.mem.flashReset == .waiting || s.mem.flashReset == .done) = true := by simpa using hr
  exact guarded_of (by simp [hs, hp, hm, hn, hf, ha, hb, reset, hd, hi, hk]) _ _

/-! A start without the memory's supply (02 R31). -/

/-- A configuration and its codec fields are in force; the rest of what follows is not done yet. -/
def bindingLive (b : Binding) (s : State) : State :=
  let st := b.live.folios
  { s with
    binding := b, core := { s.core with folios := true }
    codec := { s.codec with depth := fnat st codecQueueDepth, rdBurst := fnat st codecRdBurst, wrBurst := fnat st codecWrBurst
                            rdCanvas := fnat st codecRdBurst, wrCanvas := fnat st codecWrBurst }
    cart := { s.cart with present := s.cart.present && !(b.live.origin == .flashEndpaper) } }

/-- What follows a configuration's start leaves the configuration in force. -/
theorem goLive_bindingLive_eff (b : Binding) (s : State) :
    Eff [.pack, .cart, .keeper, .clocks, .codec, .pens, .portA, .portB, .emit, .beacon] (bindingLive b s) (goLive b s) :=
  ((((((followVertical_eff b.live.folios (bindingLive b s)).mono rfl).comp (fitReserve_eff _) rfl).comp (assignChannels_eff _) rfl).comp
    (packLimit_eff _) rfl).comp (startClock_eff _) rfl).comp (startCartridge_eff _) rfl

/-- No read is under way or waits, and none will. -/
def memoryMissing (s : State) : State :=
  { s with core := { s.core with noBinding := true }, mem := { s.mem with reading := none, waiting := [] } }

theorem exec_memSupplyTimeout (hr : running s = true) (hm : s.supply.ringM = false) (hf : s.core.folios = false)
    (hb : s.mem.bootHold = false) :
    exec .memSupplyTimeout s = .next (report evMemSupply 0 0 (goLive { live := builtin } (memoryMissing s))) :=
  guarded_of (by simp [hr, hm, hf, hb]) _ _

/-- 02 R31: without `VDDIO_M` the built-in endpaper goes live, which is reported. -/
theorem memSupplyTimeout_endpaper (hr : running s = true) (hm : s.supply.ringM = false) (hf : s.core.folios = false)
    (hb : s.mem.bootHold = false) :
    ∃ t, exec .memSupplyTimeout s = .next t ∧ t.core.noBinding = true ∧ t.core.folios = true ∧ t.binding.live = builtin ∧
      t.mem.reading = none ∧ t.mem.waiting = [] ∧ Reported evMemSupply 0 t := by
  have heff := (goLive_bindingLive_eff { live := builtin } (memoryMissing s)).comp
    (report_eff evMemSupply 0 0 (goLive { live := builtin } (memoryMissing s))) rfl
  refine ⟨_, exec_memSupplyTimeout hr hm hf hb, ?_, ?_, ?_, ?_, ?_, report_reported _ _ _ _⟩
  · rw [heff.core_eq rfl]; rfl
  · rw [heff.core_eq rfl]; rfl
  · rw [heff.binding_eq rfl]; rfl
  · rw [heff.mem_eq rfl]; rfl
  · rw [heff.mem_eq rfl]; rfl

/-- Settles O17: the reset pulse, the first read, and a start without the memory. -/
theorem theFlashIsResetAndRead : Obligations.TheFlashIsResetAndRead := by
  refine ⟨fun s hr hl => guarded_of (by simp [hr, hl]) _ _, ?_, fun s hr hm hf => ⟨fun hb => guarded_not (by simp [hb]) _ _,
    memSupplyTimeout_endpaper hr hm hf⟩⟩
  intro s hs hp hm hn hf ha hb hr hd hi hk hread hwait
  obtain ⟨mem, binding⟩ := beginSelection_first (s := flashReady s) hread hwait (busFree_flashReady hn ha hd hk) false
  refine ⟨_, bindingReadStart_begins hs hp hm hn hf ha hb hr hd hi hk, ?_⟩
  rw [mem, binding]
  exact ⟨rfl, rfl, rfl, rfl, rfl, rfl, rfl, rfl⟩

end Sys2Proof.Proofs
end

section
/-! SUPPORT. Ends of leaf-lane jobs and of calibration loads (04 R84, R86, 06 R144, 08 R199 to R201, 16 R386, R388), and O39. -/

namespace Sys2Proof.Proofs

open Sys2Proof Machine Laws

variable {s t u : State} {j : Job} {i : Nat} {block data trailer : List Byte} {ok : Bool}

/-! Pens by number. -/

theorem penOf_of_eff {l : List Part} (h : Eff l s t) (hl : l.contains .pens = false) (i : Nat) : penOf t i = penOf s i := by
  rw [penOf, h.pens_eq hl, penOf]

theorem penOf_updPen (s : State) (i : Nat) (f : Pen → Pen) : penOf (updPen s i f) i = (penOf s i).map f := by
  unfold penOf updPen
  dsimp only
  induction s.pens.list with
  | nil => rfl
  | cons e l ih =>
    by_cases h : e.1 = i
    · simp [h]
    · simpa [h] using ih

theorem penOf_removePen (i : Nat) (s : State) : penOf (removePen i s) i = none := by
  simp [penOf, removePen]

/-! A job that leaves the lane. -/

theorem endRunning_idle (s : State) : (endRunning s).codec.running = none := rfl

theorem penOf_endRunning (hr : s.codec.running = some j) (hp : j.pen = some i) : penOf (endRunning s) i = none := by
  unfold endRunning
  rw [penOf_of_eff (promote_eff _) rfl]
  simp only [hr, Option.bind_some, hp]
  exact penOf_removePen i s

/-- A requester with nothing of its own to do takes its pen as it is (08 R200). -/
theorem jobGains_alone (hq : j.requester = .pattern ∨ j.requester = .calibration) (hj : j.joined = []) (i : Nat) (s : State) :
    jobGains i j s = s := by
  rcases hq with h | h <;> simp [jobGains, hj, h, requesterGains, holdPen]

/-- What publication makes of a job's pen. -/
def published (img : Image) (block : List Byte) (ticks : Nat) (q : Pen) : Pen :=
  { q with state := .standby, image := img, block, shownAt := ticks }

/-- 08 R200: a job with one requester publishes its pen and leaves the lane. -/
theorem publish_alone (hq : j.requester = .pattern ∨ j.requester = .calibration) (hj : j.joined = []) (hp : j.pen = some i)
    (img : Image) (block : List Byte) :
    Eff [.codec] (updPen s i (published img block s.keeper.ticks)) (publish img block j s) ∧
      (publish img block j s).codec.running = none := by
  simp only [publish, hp, jobGains_alone hq hj]
  exact ⟨(Eff.set_codec (Eff.refl _ _) rfl).comp (promote_eff _) rfl, rfl⟩

/-- The report of a codec error (08 R201). -/
def codecFailed (e : CodecError) (j : Job) (s : State) : State :=
  let t := endedJob (some j.requester) j.leaf e.1 (endRunning s)
  reportX evCodecError e.1 j.leaf (some e.2) { t with codec := { t.codec with lastError := e.1 } }

theorem jobFails_pattern (hq : j.requester = .pattern) (hj : j.joined = []) (e : CodecError) :
    jobFails (.codec e) j s = refusePending j.entry (codecFailed e j s) := by
  simp [jobFails, codecFailed, hq, hj, requesterFails]

theorem codecFailed_eff (e : CodecError) (j : Job) (s : State) : Eff [.codec, .beacon] (endRunning s) (codecFailed e j s) :=
  ((Eff.set_codec ((endedJob_eff _ _ _ _).mono rfl) rfl).comp (reportX_eff _ _ _ _ _) rfl)

theorem codecFailed_codec (e : CodecError) (j : Job) (s : State) :
    (codecFailed e j s).codec.running = none ∧ (codecFailed e j s).codec.lastError = e.1 := by
  rw [codecFailed, reportX_codec]
  exact ⟨endRunning_idle s, rfl⟩

/-- Whether a selection is dropped depends on the selection alone. -/
theorem refusePending_select {n : Nat} (h : t.select = s.select) : (refusePending n t).select = (refusePending n s).select := by
  simp only [refusePending, h]
  split
  · rfl
  · exact h

/-- 08 R199, R201: a codec error frees the pen, is named and reported, and drops the selection. -/
theorem jobFails_codec (hr : s.codec.running = some j) (hp : j.pen = some i) (hq : j.requester = .pattern) (hj : j.joined = [])
    (e : CodecError) :
    (jobFails (.codec e) j s).codec.running = none ∧ penOf (jobFails (.codec e) j s) i = none ∧
      (jobFails (.codec e) j s).codec.lastError = e.1 ∧ (jobFails (.codec e) j s).select = (refusePending j.entry s).select ∧
      Reported evCodecError j.leaf (jobFails (.codec e) j s) := by
  have failed := codecFailed_eff e j s
  have dropped := refusePending_eff j.entry (codecFailed e j s)
  obtain ⟨idle, named⟩ := codecFailed_codec e j s
  rw [jobFails_pattern hq hj, dropped.codec_eq rfl, penOf_of_eff dropped rfl, penOf_of_eff failed rfl, penOf_endRunning hr hp]
  exact ⟨idle, rfl, named, refusePending_select ((failed.select_eq rfl).trans ((endRunning_eff s).select_eq rfl)),
    reported_of_eff (reportX_reported _ _ _ _ _) dropped rfl⟩

/-- The job that repeats a failed read. -/
def repeated (reason : Nat) (j : Job) : Job := { j with repeats := j.repeats + 1, lastReason := reason }

/-- 06 R144: while repeats are left, a failed read is repeated, with no more than its recovery interval opened first. -/
theorem readFails_repeats (hf : j.fromTwin = false) (hn : j.repeats < fnat (live s) memportRetry) (reason : Nat) :
    ∃ u, Eff [.keeper, .beacon] s u ∧ readFails reason j s = rerun (repeated reason j) u := by
  have covered : Eff [.keeper, .beacon] s
      (if j.repeats = 0 && !j.fromTwin && twinNow s && !j.shadow then coverRead (readRecovery s) s else s) :=
    Eff.ite (fun _ => coverRead_eff _ _) fun _ => Eff.refl _ _
  refine ⟨_, covered, ?_⟩
  unfold readFails
  dsimp only
  rw [if_neg (by simp [hf]), if_pos]
  · rfl
  · rwa [live, covered.binding_eq rfl]

theorem penOf_rerun (hp : j.pen = some i) (s : State) : penOf (rerun j s) i = none := by
  rw [rerun, hp]
  exact penOf_removePen i s

/-! The ends of a leaf job (08 R199). -/

/-- The kinds 0 to 2 are leaves. -/
theorem isCalJob_leaf (h : j.kind < 3) : isCalJob j = false := by
  simpa [isCalJob] using h.ne

section

variable (hs : sysRuns s = true) (hb : busFree s = true) (hr : s.codec.running = some j) (hst : j.started = true)

include hs hb hr hst

/-- A failed read is judged first. -/
theorem exec_leafJobEnd_fails (hk : isCalJob j = false)
    (h : itemReason s.fuses j.src 0 j.leaf j.crc data trailer (ok && s.supply.ringM) ≠ 0) :
    exec (.leafJobEnd data trailer ok) s =
      .next (readFails (itemReason s.fuses j.src 0 j.leaf j.crc data trailer (ok && s.supply.ringM)) j s) := by
  simp only [exec, execLeafJobEnd, hr, bne_iff_ne, ne_eq, h, not_false_eq_true, if_true]
  exact guarded_of (by simp [hs, hb, hst, hk]) _ _

/-- Then the codec's own error. -/
theorem exec_leafJobEnd_error (hk : isCalJob j = false)
    (h : itemReason s.fuses j.src 0 j.leaf j.crc data trailer (ok && s.supply.ringM) = 0) {e : CodecError}
    (hd : decodeLeaf (limitsOf s j) data = .error e) :
    exec (.leafJobEnd data trailer ok) s = .next (jobFails (.codec e) j s) := by
  simp only [exec, execLeafJobEnd, hr, h, hd]
  exact guarded_of (by simp [hs, hb, hst, hk]) _ _

/-- Then publication. -/
theorem exec_leafJobEnd_published (hk : isCalJob j = false)
    (h : itemReason s.fuses j.src 0 j.leaf j.crc data trailer (ok && s.supply.ringM) = 0) {img : Image}
    (hd : decodeLeaf (limitsOf s j) data = .ok img) :
    exec (.leafJobEnd data trailer ok) s = .next (publish img [] j s) := by
  simp only [exec, execLeafJobEnd, hr, h, hd]
  exact guarded_of (by simp [hs, hb, hst, hk]) _ _

/-- A calibration block that has been read is used, or fails its checks (16 R388). -/
theorem exec_calibrationLoadDone (hk : isCalJob j = true)
    (h : itemReason s.fuses j.src 1 j.leaf j.crc block trailer (ok && s.supply.ringM) = 0) :
    exec (.calibrationLoadDone block trailer ok) s =
      .next (if calRangeOk j.src.folios block && calFits s j.src.folios block then useCalibration block j s
        else jobFails (.read rCalCheck) j s) := by
  simp only [exec, execCalibrationLoadDone, hr, h]
  exact guarded_of (by simp [hs, hb, hst, hk]) _ _

end

/-! What keeps the calibration in force and an idle leaf lane idle. -/

/-- From s to t the block in force stays, armed channels stay armed, and a lane that runs no job starts none. -/
structure KeepsCal (s t : State) : Prop where
  cal : t.emit.cal = s.emit.cal
  code : t.emit.calCode = s.emit.calCode
  armed : (∀ l ∈ s.emit.lasers, l.armed = true) → ∀ l ∈ t.emit.lasers, l.armed = true
  idle : s.codec.running = none → t.codec.running = none

theorem keepsCal_trans (h : KeepsCal s t) (k : KeepsCal t u) : KeepsCal s u :=
  ⟨k.cal.trans h.cal, k.code.trans h.code, fun a => k.armed (h.armed a), fun a => k.idle (h.idle a)⟩

theorem keepsCal_of_eff {l : List Part} (h : Eff l s t) (he : l.contains .emit = false) (hc : l.contains .codec = false) :
    KeepsCal s t := by
  have emit := h.emit_eq he
  have codec := h.codec_eq hc
  exact ⟨by rw [emit], by rw [emit], by rw [emit]; exact id, by rw [codec]; exact id⟩

/-- Dark channels stay armed. -/
theorem darkChannels_armed {p : Port} (h : ∀ l ∈ s.emit.lasers, l.armed = true) :
    ∀ l ∈ (darkChannels p s).emit.lasers, l.armed = true := by
  intro l hl
  obtain ⟨k, hk, rfl⟩ := List.mem_map.mp hl
  split
  · exact h k hk
  · exact h k hk

theorem coastPort_keepsCal (p : Port) (s : State) : KeepsCal s (coastPort p s) := by
  have cal : (coastPort p s).emit.cal = s.emit.cal ∧ (coastPort p s).emit.calCode = s.emit.calCode := by
    unfold coastPort
    cases p <;> dsimp only <;> split <;> exact ⟨rfl, rfl⟩
  refine ⟨cal.1, cal.2, fun h => ?_, fun h => by rwa [(coastPort_eff p s).codec_eq rfl]⟩
  rw [coastPort_lasers]
  exact darkChannels_armed h

theorem requestLeaf_idle (h : s.codec.running = none) (shadow : Bool) (c : Settings) (r : Requester) (n k : Nat) :
    (requestLeaf shadow c r n k s).codec.running = none := by
  unfold requestLeaf
  dsimp only
  split
  · split
    · rwa [(holdPen_eff _ _ _).codec_eq rfl]
    split
    · exact h
    · exact h
  · split
    · exact congrArg (Option.map _) h
    split
    · exact h
    · exact h

theorem rejoin_idle (h : s.codec.running = none) (j : Job) (q : Requester × Nat) : (rejoin j q s).codec.running = none := by
  unfold rejoin
  split
  · exact requestLeaf_idle h _ _ _ _ _
  · exact h

/-- Dropping jobs starts none. -/
theorem dropJobs_idle (h : s.codec.running = none) (r : Requester → Bool) : (dropJobs r s).codec.running = none := by
  unfold dropJobs
  dsimp only
  refine List.foldlRecOn (motive := fun t : State => t.codec.running = none) _ _ ?_ fun t ht j _ =>
    List.foldlRecOn (motive := fun t : State => t.codec.running = none) _ _ ht fun u hu q _ => rejoin_idle hu j q
  have removed : (((laneJobs s).filter fun j => r j.requester).filterMap (·.pen) |>.foldl (fun u i => removePen i u) s).codec = s.codec :=
    (Eff.foldl (l := [.pens]) (fun _ _ => removePen_eff _ _) _ (Eff.refl _ s)).codec_eq rfl
  simp [promote, removed, h]

theorem dropCalJobs_keepsCal (s : State) : KeepsCal s (dropCalJobs s) := by
  have emit := (dropCalJobs_eff s).emit_eq rfl
  exact ⟨by rw [emit], by rw [emit], by rw [emit]; exact id, fun h => dropJobs_idle h _⟩

/-! A qualification that fails (04 R86). -/

/-- The cartridge of a failed step: the failures counted, and the latch that the last of them sets. -/
def qualEnded (counted : Bool) (s : State) : State :=
  { s with cart :=
    { s.cart with
      step := .idle, qualified := false, fails := if counted then s.cart.fails + 1 else s.cart.fails
      failedLatch := s.cart.failedLatch || (counted && fnat (live s) hotplugQualTries ≤ s.cart.fails + 1), retryDue := !counted } }

/-- A failed step, reported, before its retry timer starts. -/
def qualReported (counted : Bool) (s : State) : State :=
  report evQualFailed (stepNumber s.cart.step) s.cart.code (dropCalJobs (coastBoth (qualEnded counted s)))

theorem failQual_cases (counted : Bool) (s : State) :
    failQual counted s = startRetry (qualReported counted s) ∨ failQual counted s = qualReported counted s := by
  unfold failQual
  dsimp only
  split
  · exact .inl rfl
  · exact .inr rfl

theorem startRetry_cart (s : State) :
    (startRetry s).cart.step = s.cart.step ∧ (startRetry s).cart.qualified = s.cart.qualified ∧
      (startRetry s).cart.fails = s.cart.fails := by
  unfold startRetry
  split <;> exact ⟨rfl, rfl, rfl⟩

theorem qualReported_cart (counted : Bool) (s : State) : (qualReported counted s).cart = (qualEnded counted s).cart := by
  rw [qualReported, report_cart, (dropCalJobs_eff _).cart_eq rfl, (coastBoth_eff _).cart_eq rfl]

/-- 04 R86: a counted failure ends the qualification. -/
theorem failQual_cart (s : State) :
    (failQual true s).cart.step = .idle ∧ (failQual true s).cart.qualified = false ∧
      (failQual true s).cart.fails = s.cart.fails + 1 := by
  have ended := qualReported_cart true s
  rcases failQual_cases true s with h | h <;> rw [h]
  · obtain ⟨step, qualified, fails⟩ := startRetry_cart (qualReported true s)
    rw [step, qualified, fails, ended]
    exact ⟨rfl, rfl, rfl⟩
  · rw [ended]
    exact ⟨rfl, rfl, rfl⟩

theorem failQual_keepsCal (counted : Bool) (s : State) : KeepsCal s (failQual counted s) := by
  have ended : KeepsCal s (qualEnded counted s) := ⟨rfl, rfl, id, id⟩
  have coasted := keepsCal_trans ended (keepsCal_trans (coastPort_keepsCal .a _) (coastPort_keepsCal .b _))
  have reported : KeepsCal s (qualReported counted s) :=
    keepsCal_trans (keepsCal_trans coasted (dropCalJobs_keepsCal _)) (keepsCal_of_eff (report_eff _ _ _ _) rfl rfl)
  rcases failQual_cases counted s with h | h <;> rw [h]
  · exact keepsCal_trans reported (keepsCal_of_eff (startRetry_eff _) rfl rfl)
  · exact reported

theorem portFailsQual_keepsCal (s : State) : KeepsCal s (portFailsQual s) := by
  unfold portFailsQual
  split
  · exact keepsCal_trans (keepsCal_of_eff (setStep_eff _ _) rfl rfl) (failQual_keepsCal _ _)
  · exact ⟨rfl, rfl, id, id⟩

theorem thermStep_keepsCal (s : State) : KeepsCal s (thermStep s) := by
  have begun : KeepsCal s (setStep .thermistors s) := keepsCal_of_eff (setStep_eff _ _) rfl rfl
  have goesOn : ∀ v, KeepsCal s (portFailsQual (setStep .mirror (freshPorts
      { setStep .thermistors s with cart := { (setStep .thermistors s).cart with therm := v } }))) := fun v =>
    keepsCal_trans (keepsCal_of_eff (((Eff.set_cart ((setStep_eff .thermistors s).mono rfl) rfl).comp (freshPorts_eff _) rfl).comp
      (setStep_eff _ _) rfl (l := [.cart, .portA, .portB])) rfl rfl) (portFailsQual_keepsCal _)
  have fails := keepsCal_trans begun (failQual_keepsCal true _)
  unfold thermStep
  dsimp only
  split
  · split
    · exact goesOn _
    · exact fails
  · exact goesOn _
  · exact goesOn _
  · exact fails

/-! A calibration block (04 R84, 16 R386). -/

theorem loadThresholds_armed (s : State) : ∀ l ∈ (loadThresholds s).emit.lasers, l.armed = true := by
  intro l hl
  obtain ⟨e, -, rfl⟩ := List.mem_map.mp hl
  rfl

/-- A block placed in force arms every channel, and starts no job. -/
theorem calInForce_loads (pen : Nat) (block : List Byte) (code : Nat) (s : State) :
    (calInForce pen block code s).emit.cal = block ∧ (calInForce pen block code s).emit.calCode = code ∧
      (∀ l ∈ (calInForce pen block code s).emit.lasers, l.armed = true) ∧ (calInForce pen block code s).codec = s.codec :=
  ⟨rfl, rfl, loadThresholds_armed _, (calInForce_eff pen block code s).codec_eq rfl⟩

/-- 04 R84: the block that the calibration step waits for comes into force, and the thermistor step follows. -/
theorem useCalibration_loads (hq : j.requester = .calibration) (hj : j.joined = []) (hp : j.pen = some i)
    (hstep : s.cart.step = .calibration) (hcode : s.cart.code = j.leaf) :
    (useCalibration block j s).codec.running = none ∧ (useCalibration block j s).emit.cal = block ∧
      (useCalibration block j s).emit.calCode = j.leaf ∧ ∀ l ∈ (useCalibration block j s).emit.lasers, l.armed = true := by
  obtain ⟨frame, idle⟩ := publish_alone (s := s) (.inr hq) hj hp {} block
  have cart : (publish {} block j s).cart = s.cart := frame.cart_eq rfl
  have used : useCalibration block j s = thermStep (calInForce i block j.leaf (publish {} block j s)) := by
    simp [useCalibration, hp, hq, cart, hstep, hcode]
  obtain ⟨cal, code, armed, codec⟩ := calInForce_loads i block j.leaf (publish {} block j s)
  have kept := thermStep_keepsCal (calInForce i block j.leaf (publish {} block j s))
  rw [used]
  exact ⟨kept.idle (by rw [codec]; exact idle), kept.cal.trans cal, kept.code.trans code, kept.armed armed⟩

/-- 04 R84, R86: a block that fails its checks ends the qualification, and the block in force stays. -/
theorem jobFails_calibration (hq : j.requester = .calibration) (hj : j.joined = []) (reason : Nat) :
    (jobFails (.read reason) j s).codec.running = none ∧ (jobFails (.read reason) j s).emit.cal = s.emit.cal ∧
      (jobFails (.read reason) j s).cart.step = .idle ∧ (jobFails (.read reason) j s).cart.qualified = false ∧
      (jobFails (.read reason) j s).cart.fails = s.cart.fails + 1 := by
  have failed : jobFails (.read reason) j s = failQual true (endedJob (some .calibration) j.leaf 0 (endRunning s)) := by
    simp [jobFails, hq, hj, requesterFails]
  have ended : Eff [.codec, .pens] s (endedJob (some .calibration) j.leaf 0 (endRunning s)) :=
    (endRunning_eff s).comp (endedJob_eff _ _ _ _) rfl
  have kept := failQual_keepsCal true (endedJob (some .calibration) j.leaf 0 (endRunning s))
  obtain ⟨step, qualified, fails⟩ := failQual_cart (endedJob (some .calibration) j.leaf 0 (endRunning s))
  rw [failed]
  exact ⟨kept.idle (endRunning_idle s), by rw [kept.cal, ended.emit_eq rfl], step, qualified, by rw [fails, ended.cart_eq rfl]⟩

/-- Settles O39: the three ends of a leaf job, and the two of a calibration load. -/
theorem leafJobsPublish : Obligations.LeafJobsPublish := by
  refine ⟨fun data trailer ok j i s hs hb hr hst hk hq hj hp => ⟨fun img h hd => ?_, fun e h hd => ?_, fun h hf hn => ?_⟩,
    fun block trailer ok j i s hs hb hr hst hk hq hj hp hstep hcode h => ⟨fun hrange hfits => ?_, fun hbad => ?_⟩⟩
  · obtain ⟨frame, idle⟩ := publish_alone (s := s) (.inl hq) hj hp img []
    refine ⟨_, exec_leafJobEnd_published hs hb hr hst (isCalJob_leaf hk) h hd, idle, frame.select_eq rfl, ?_⟩
    rw [penOf_of_eff frame rfl, penOf_updPen]
    rfl
  · exact ⟨_, exec_leafJobEnd_error hs hb hr hst (isCalJob_leaf hk) h hd, jobFails_codec hr hp hq hj e⟩
  · obtain ⟨u, frame, again⟩ := readFails_repeats hf hn (itemReason s.fuses j.src 0 j.leaf j.crc data trailer (ok && s.supply.ringM))
    refine ⟨_, exec_leafJobEnd_fails hs hb hr hst (isCalJob_leaf hk) h, ?_⟩
    rw [again, (rerun_eff _ u).select_eq rfl, frame.select_eq rfl]
    exact ⟨penOf_rerun hp u, rfl, rfl⟩
  · refine ⟨_, exec_calibrationLoadDone hs hb hr hst (by simp [isCalJob, hk]) h, ?_⟩
    rw [if_pos (by simp [hrange, hfits])]
    exact useCalibration_loads hq hj hp hstep hcode
  · refine ⟨_, exec_calibrationLoadDone hs hb hr hst (by simp [isCalJob, hk]) h, ?_⟩
    rw [if_neg (by rcases hbad with hbad | hbad <;> simp [hbad])]
    exact jobFails_calibration hq hj rCalCheck

end Sys2Proof.Proofs
end

section
/-! SUPPORT. The code balls (03 R42 to R51): a pass and what its changes bring, and O19 and O20. -/

namespace Sys2Proof.Proofs

open Sys2Proof Machine Laws

variable {s : State} {b : CodeBall} {r : PassReadings}

/-! Scheme detection in a pass (03 R62). -/

/-- An always-on event waits, or goes to the beacon: the balls are as they were. -/
theorem reportAon_aon (c a j : Nat) (s : State) :
    (reportAon c a j s).aon = { s.aon with waiting := (reportAon c a j s).aon.waiting } := by
  unfold reportAon
  split
  · rfl
  · rw [report_aon]

theorem forgetPack_identify (st : Store) (k : Nat) (p : Pack) : forgetPack (identify st k p) = forgetPack p := by
  unfold identify
  split <;> rfl

/-- A scheme is accepted, or leaves the pack unidentified. -/
theorem identify_decides (st : Store) (k : Nat) (p : Pack) :
    (identify st k p).identRead = true ∨ (identify st k p).unidentified = true := by
  unfold identify
  split
  · exact .inl rfl
  · exact .inr rfl

/-- One pack follows another in detection: they differ in the identity alone, and detection that ran goes on or has an outcome. -/
structure Detected (p q : Pack) : Prop where
  rest : forgetPack q = forgetPack p
  outcome : p.detecting = true → q.detecting = true ∨ q.identRead = true ∨ q.unidentified = true

/-- A scheme's decision, with what else its pair of passes tells of the pack. -/
theorem detected_identify {p q : Pack} {st : Store} {k : Nat} (h : forgetPack q = forgetPack (identify st k p))
    (hr : q.identRead = (identify st k p).identRead) (hu : q.unidentified = (identify st k p).unidentified) : Detected p q :=
  ⟨h.trans (forgetPack_identify st k p), fun _ => .inr (by rw [hr, hu]; exact identify_decides st k p)⟩

/-- 03 R62: a pair of passes moves detection on, with the report of a temperature that is out of range. -/
theorem detectPair_cases (s : State) :
    ∃ q, Detected s.pack q ∧
      (detectPair s = { s with pack := q } ∨ ∃ band, detectPair s = reportAon evPackTFault band 2 { s with pack := q }) := by
  unfold detectPair
  dsimp only
  split
  · exact ⟨s.pack, ⟨rfl, .inl⟩, .inl rfl⟩
  split
  · refine ⟨_, ?_, .inl rfl⟩
    exact ⟨rfl, .inl⟩
  split
  · refine ⟨_, ?_, .inl rfl⟩
    exact ⟨rfl, fun _ => .inr (.inr rfl)⟩
  split
  · split
    · refine ⟨_, ?_, .inl rfl⟩
      exact detected_identify rfl rfl rfl
    split
    · refine ⟨_, ?_, .inl rfl⟩
      exact detected_identify rfl rfl rfl
    · refine ⟨_, ?_, .inr ⟨_, rfl⟩⟩
      exact detected_identify rfl rfl rfl
  · exact ⟨s.pack, ⟨rfl, .inl⟩, .inl rfl⟩

theorem reportAon_pack (c a j : Nat) (s : State) : (reportAon c a j s).pack = s.pack := (reportAon_eff c a j s).pack_eq rfl

theorem detectPair_detected (s : State) : Detected s.pack (detectPair s).pack := by
  obtain ⟨q, detected, h | ⟨band, h⟩⟩ := detectPair_cases s <;> rw [h]
  · exact detected
  · rwa [reportAon_pack]

/-- Detection leaves the balls as they were. -/
theorem detectPair_aon (s : State) : (detectPair s).aon = { s.aon with waiting := (detectPair s).aon.waiting } := by
  obtain ⟨q, -, h | ⟨band, h⟩⟩ := detectPair_cases s <;> rw [h]
  exact reportAon_aon _ _ _ _

/-! A pass (03 R43). -/

/-- A code ball after a pass: one whose bias stays off keeps its state. -/
def ballAfter (r : PassReadings) (s : State) (b : CodeBall) : BallState :=
  if slotSwitches s (.code b) then
    ballPass s.core.inReset (heldCode s b) (s.aon.balls.getD (ballIndex b) {}) (codeOf (passRatio r b))
  else s.aon.balls.getD (ballIndex b) {}

theorem codesPass_balls (r : PassReadings) (s : State) : (codesPass r s).aon.balls = allBalls.map (ballAfter r s) := by
  refine List.map_congr_left fun b _ => ?_
  unfold ballAfter
  cases slotSwitches s (.code b) <;> rfl

theorem getElem?_allBalls_map {α : Type} (f : CodeBall → α) (b : CodeBall) : (allBalls.map f)[ballIndex b]? = some (f b) := by
  cases b <;> rfl

/-- Every bias but that of `CODE_CART` is always switched. -/
theorem ballAfter_read (hb : b ≠ .cart) :
    ballAfter r s b =
      ballPass s.core.inReset (heldCode s b) (s.aon.balls.getD (ballIndex b) {}) (codeOf (passRatio r b)) := by
  cases b
  case cart => exact absurd rfl hb
  all_goals rfl

theorem ballAfter_cart (r : PassReadings) (s : State) :
    ballAfter r s .cart =
      if cartUnread s then s.aon.balls.getD 6 {}
      else ballPass s.core.inReset (heldCode s .cart) (s.aon.balls.getD 6 {}) (codeOf (ratioOf r.cart)) := by
  unfold ballAfter slotSwitches
  cases cartUnread s <;> rfl

/-- The cartridge's own runs say nothing of the balls. -/
theorem ballAfter_cartPass (r : PassReadings) (s : State) : ballAfter r (cartPass r s) = ballAfter r s := by
  unfold cartPass
  split <;> rfl

theorem cartPass_unread (h : cartUnread s = true) :
    (cartPass r s).aon.cartAgree = none ∧ (cartPass r s).aon.cartOob = 0 := by
  simp [cartPass, slotSwitches, h]

/-- The readings of a pass, with the pack limit of what they leave. -/
def passRead (r : PassReadings) (s : State) : State := packLimit (detectPair (packPass r (codesPass r (cartPass r s))))

/-- A pass is read, and then serves a qualification's code step. -/
theorem exec_codePass_eff (r : PassReadings) (hv : s.supply.vin = true) (ha : s.supply.aonUp = true) :
    ∃ t, exec (.codePass r) s = .next t ∧ Eff [.cart, .codec, .pens, .portA, .portB, .emit, .beacon] (passRead r s) t :=
  ⟨_, guarded_of (by simp [hv, ha]) _ _, Eff.ite (fun _ => codeStepPass_eff _ _) fun _ => Eff.refl _ _⟩

theorem passRead_aon (r : PassReadings) (s : State) :
    (passRead r s).aon = { (codesPass r (cartPass r s)).aon with waiting := (passRead r s).aon.waiting } := by
  have limited := (packLimit_eff (detectPair (packPass r (codesPass r (cartPass r s))))).aon_eq rfl
  have paired := detectPair_aon (packPass r (codesPass r (cartPass r s)))
  rw [passRead, limited]
  exact paired

theorem passRead_passes (r : PassReadings) (s : State) : (passRead r s).aon.passes = s.aon.passes + 1 := by
  rw [passRead_aon]
  unfold cartPass
  split <;> rfl

theorem passRead_balls (r : PassReadings) (s : State) : (passRead r s).aon.balls = allBalls.map (ballAfter r s) := by
  rw [passRead_aon]
  exact (codesPass_balls r _).trans (congrArg (allBalls.map ·) (ballAfter_cartPass r s))

theorem passRead_cart_unread (h : cartUnread s = true) :
    (passRead r s).aon.cartAgree = none ∧ (passRead r s).aon.cartOob = 0 := by
  rw [passRead_aon]
  exact cartPass_unread h

/-- The parts that no reading touches before the limit is computed. -/
theorem readings_eff (r : PassReadings) (s : State) :
    Eff [.aon, .pack, .safety, .beacon] s (detectPair (packPass r (codesPass r (cartPass r s)))) :=
  ((((cartPass_eff r s).mono rfl).comp (codesPass_eff _ _) rfl).comp (packPass_eff _ _) rfl).comp (detectPair_eff _) rfl

/-- 03 R61, R66: the pack's voltage is noted, its presence is not decided yet, and the limit follows. -/
theorem passRead_pack (r : PassReadings) (s : State) :
    (passRead r s).pack.mv = r.vpackMv ∧ (passRead r s).pack.present = s.pack.present ∧
      (passRead r s).pack.limit = packLimitOf (live s) s.cart.packChatter (passRead r s).pack := by
  have rest := (detectPair_detected (packPass r (codesPass r (cartPass r s)))).rest
  have mv : (passRead r s).pack.mv = r.vpackMv := congrArg Pack.mv rest
  have present := congrArg Pack.present rest
  have before : (codesPass r (cartPass r s)).pack.present = s.pack.present := by
    rw [(codesPass_eff _ _).pack_eq rfl, (cartPass_eff _ _).pack_eq rfl]
  have readings := readings_eff r s
  refine ⟨mv, present.trans before, ?_⟩
  rw [live, ← readings.binding_eq rfl, ← readings.cart_eq rfl]
  rfl

/-- Settles O19: the code step that may follow leaves alone what the pass has read. -/
theorem codePassIsJudged : Obligations.CodePassIsJudged := by
  intro r s hv ha
  obtain ⟨t, ht, step⟩ := exec_codePass_eff r hv ha
  obtain ⟨mv, present, limit⟩ := passRead_pack r s
  have core : (passRead r s).core = s.core := ((packLimit_eff _).core_eq rfl).trans ((readings_eff r s).core_eq rfl)
  have ball : ∀ b, (passRead r s).aon.balls[ballIndex b]? = some (ballAfter r s b) := fun b => by
    rw [passRead_balls, getElem?_allBalls_map]
  refine ⟨t, ht, ?_⟩
  rw [step.aon_eq rfl, step.core_eq rfl, step.pack_eq rfl, core]
  refine ⟨passRead_passes r s, by rw [passRead_balls]; rfl, fun b hb => ?_, fun hu => ⟨?_, passRead_cart_unread hu⟩, fun hu => ?_,
    rfl, mv, present, limit⟩
  · rw [ball, ballAfter_read hb]
  · exact (ball .cart).trans (by rw [ballAfter_cart, if_pos hu])
  · exact (ball .cart).trans (by rw [ballAfter_cart, if_neg (by simp [hu])])

/-! Codes that change (03 R49, R50). -/

theorem report_codeLatch (c a j : Nat) (s : State) : (report c a j s).beacon.codeLatch = s.beacon.codeLatch := by
  unfold report reportX
  dsimp only
  split <;> rfl

theorem running_of_eff {l : List Part} {t : State} (h : Eff l s t) (hs : l.contains .supply = false) (hc : l.contains .core = false) :
    running t = running s := by
  rw [running, h.supply_eq hs, h.core_eq hc, running]

/-- 17 R397: the latch of a changed code holds `FAULT_N` low. -/
theorem faultLow_codeLatch (hr : running s = true) (hl : s.beacon.codeLatch = true) : faultLow s = true := by
  simp [faultLow, faultLatched, hr, hl]

/-- A changed entry of a table that has it. -/
theorem getD_modAt {α : Type} {l : List α} {i : Nat} (h : i < l.length) (f : α → α) (d : α) :
    (modAt l i f).getD i d = f (l.getD i d) := by
  simp [modAt, h]

/-- The latest reading of a ball as events give it (R49): 255 between bands. -/
def readingShown (i : Nat) (s : State) : Nat := ((s.aon.balls.getD i {}).last.getD none).getD 255

/-- The change of a code ball is latched. -/
def codeLatched (b : CodeBall) (s : State) : State :=
  { s with
    aon := { s.aon with balls := modAt s.aon.balls (ballIndex b) fun q => { q with reported := true } }
    beacon := { s.beacon with codeLatch := true } }

/-- A ball with a run has been read. -/
theorem ballIndex_lt (hd : 8 ≤ (s.aon.balls.getD (ballIndex b) {}).differ) : ballIndex b < s.aon.balls.length := by
  by_contra h
  rw [List.getD_eq_default _ _ (not_lt.mp h)] at hd
  exact absurd hd (by decide)

theorem exec_codeChanged (hr : running s = true) (hb : ballIndex b < 5) (hd : 8 ≤ (s.aon.balls.getD (ballIndex b) {}).differ)
    (hn : (s.aon.balls.getD (ballIndex b) {}).reported = false) :
    exec (.codeChanged b) s =
      .next (report evCodeChanged (readingShown (ballIndex b) s) (ballIndex b + 1) (codeLatched b s)) :=
  guarded_of (by simp only [hr, hb, hd, hn]; rfl) _ _

/-- 03 R49: the eighth differing pass is latched and reported, and the held value stays. -/
theorem codeChanged_latches (hr : running s = true) (hb : ballIndex b < 5)
    (hd : 8 ≤ (s.aon.balls.getD (ballIndex b) {}).differ) (hn : (s.aon.balls.getD (ballIndex b) {}).reported = false) :
    ∃ t, exec (.codeChanged b) s = .next t ∧ t.beacon.codeLatch = true ∧ faultLow t = true ∧
      (t.aon.balls.getD (ballIndex b) {}).reported = true ∧ t.core.held = s.core.held ∧ Reported evCodeChanged (ballIndex b + 1) t := by
  have reported := report_eff evCodeChanged (readingShown (ballIndex b) s) (ballIndex b + 1) (codeLatched b s)
  have latch := report_codeLatch evCodeChanged (readingShown (ballIndex b) s) (ballIndex b + 1) (codeLatched b s)
  refine ⟨_, exec_codeChanged hr hb hd hn, latch, faultLow_codeLatch ((running_of_eff reported rfl rfl).trans hr) latch, ?_, ?_,
    report_reported _ _ _ _⟩
  · rw [report_aon]
    exact congrArg BallState.reported (getD_modAt (ballIndex_lt hd) _ _)
  · rw [report_core]
    rfl

/-- 03 R50: the third differing pass of `CODE_SAFE` trips the latch. -/
theorem codeSafeChange_trips (hr : running s = true) (hd : 3 ≤ s.safety.safeDiffer) (hc : .codeSafe ∉ s.safety.causes) :
    ∃ t, exec .codeSafeChange s = .next t ∧ t.safety.causes = s.safety.causes ++ [.codeSafe] ∧ Dark t ∧ faultLow t = true := by
  have reported := report_eff evCodeChanged (readingShown 5 s) 6 (trip .codeSafe 0 s)
  have causes : (report evCodeChanged (readingShown 5 s) 6 (trip .codeSafe 0 s)).safety.causes = s.safety.causes ++ [.codeSafe] := by
    rw [report_safety, trip_causes _ _ _ hc]
  refine ⟨report evCodeChanged (readingShown 5 s) 6 (trip .codeSafe 0 s), guarded_of (by simp [hr, hd, hc]) _ _, causes,
    dark_reportX (trip_dark _ _ _) _ _ _ _, faultLow_tripped ((running_of_eff reported rfl rfl).trans (running_trip hr)) ?_⟩
  rw [causes]
  exact List.append_ne_nil_of_right_ne_nil _ (List.cons_ne_nil _ _)

/-- Settles O20: the balls whose changes are latched, and the one whose change trips. -/
theorem codeChangesAreActedOn : Obligations.CodeChangesAreActedOn :=
  ⟨fun _ _ => codeChanged_latches, fun _ => codeSafeChange_trips⟩

end Sys2Proof.Proofs
end

section
/-! SUPPORT. The pack (03 R61 to R68, 04 R88): its presence, its identity and its limit, and O21 and O22. -/

namespace Sys2Proof.Proofs

open Sys2Proof Machine Laws

variable {s t : State}

/-! The pack limit (03 R66, R67, 04 R88). -/

/-- The limit is that of the pack it is computed from. -/
theorem packLimit_limit (s : State) :
    (packLimit s).pack.limit = packLimitOf (live s) s.cart.packChatter (packLimit s).pack := rfl

/-- What changes the pack and its events alone leaves what its limit depends on. -/
theorem packLimit_limit_of_eff {l : List Part} (h : Eff l s t) (hb : l.contains .binding = false) (hc : l.contains .cart = false) :
    (packLimit t).pack.limit = packLimitOf (live s) s.cart.packChatter (packLimit t).pack := by
  rw [packLimit_limit, live, h.binding_eq hb, h.cart_eq hc, live]

theorem packLimitOf_absent {p : Pack} (st : Store) (chatter : Bool) (h : p.present = false) :
    packLimitOf st chatter p = if chatter then fnat st packLimitUnknown else fnat st packLimitAbsent := by
  simp [packLimitOf, h]

/-- 03 R65, R66: a present pack that is unidentified, or a silent one of Scheme 3, has the limit of an unknown pack. -/
theorem packLimitOf_unknown {p : Pack} (st : Store) (chatter : Bool) (hp : p.present = true)
    (h : p.unidentified = true ∨ p.scheme = 3 ∧ p.silent = true) : packLimitOf st chatter p = fnat st packLimitUnknown := by
  rcases h with h | ⟨h3, h⟩
  · simp [packLimitOf, hp, h]
  · simp [packLimitOf, hp, h3, h]

/-! Arrival (03 R61). -/

/-- A pack is present; the mean starts with its two passes. -/
def packArrived (s : State) : State :=
  { s with pack := { s.pack with present := true, mvHistory := s.pack.mvHistory.take 2 } }

/-- 03 R62, 04 R74, R88: with the retry timer running or stopped by chatter nothing follows; a pack is identified at once in a core reset,
and after the retry interval otherwise. -/
def packAwaited (s : State) : State :=
  if s.cart.packChatter then s
  else if s.pack.retry then s
  else if s.core.inReset then startDetection s
  else { s with pack := { s.pack with retry := true } }

theorem exec_packPresent (ha : s.supply.aonUp = true) (hr : 2 ≤ s.pack.aboveRun) (hp : s.pack.present = false) :
    exec .packPresent s = .next (packLimit (packAwaited (packArrived s))) := guarded_of (by simp [ha, hr, hp]) _ _

theorem packAwaited_eff (s : State) : Eff [.aon, .pack, .beacon] s (packAwaited s) :=
  Eff.ite (fun _ => Eff.refl _ _) fun _ => Eff.ite (fun _ => Eff.refl _ _) fun _ => Eff.ite (fun _ => startDetection_eff s) fun _ =>
    Eff.set_pack (Eff.refl _ _) rfl

/-- Detection that starts afresh differs from the pack in its identity alone, and goes on or has an outcome. -/
theorem startDetection_detected (s : State) :
    Detected { forgetPack s.pack with detecting := true, retry := false } (startDetection s).pack :=
  detectPair_detected { s with pack := { forgetPack s.pack with detecting := true, retry := false } }

theorem startDetection_present (s : State) : (startDetection s).pack.present = s.pack.present := by
  have rest := congrArg Pack.present (startDetection_detected s).rest
  exact rest

theorem startDetection_retry (s : State) : (startDetection s).pack.retry = false := by
  have rest := congrArg Pack.retry (startDetection_detected s).rest
  exact rest

theorem packAwaited_present (s : State) : (packAwaited s).pack.present = s.pack.present := by
  unfold packAwaited
  split
  · rfl
  split
  · rfl
  split
  · exact startDetection_present s
  · rfl

theorem packAwaited_retry_starts (hc : s.cart.packChatter = false) (ht : s.pack.retry = false) (hr : s.core.inReset = false) :
    (packAwaited s).pack.retry = true := by simp [packAwaited, hc, ht, hr]

theorem packAwaited_retry_kept (h : s.cart.packChatter = true ∨ s.pack.retry = true) : packAwaited s = s := by
  rcases h with h | h <;> simp [packAwaited, h]

/-- 03 R61: the arrival of a pack. -/
theorem packPresent_noted (ha : s.supply.aonUp = true) (hr : 2 ≤ s.pack.aboveRun) (hp : s.pack.present = false) :
    ∃ t, exec .packPresent s = .next t ∧ t.pack.present = true ∧
      t.pack.limit = packLimitOf (live s) s.cart.packChatter t.pack ∧
      (s.cart.packChatter = false → s.pack.retry = false → s.core.inReset = false → t.pack.retry = true) ∧
      (s.cart.packChatter = true ∨ s.pack.retry = true → t.pack.retry = s.pack.retry) := by
  have present := packAwaited_present (packArrived s)
  have limit := packLimit_limit_of_eff (packAwaited_eff (packArrived s)) rfl rfl
  refine ⟨_, exec_packPresent ha hr hp, present, limit, fun hc ht hi => ?_, fun h => ?_⟩
  · exact packAwaited_retry_starts (s := packArrived s) hc ht hi
  · rw [packAwaited_retry_kept (s := packArrived s) h]
    rfl

/-! Removal (03 R61, R68, 04 R88). -/

/-- Two passes without the pack's voltage (R61). -/
def packGone (s : State) : Bool := 2 ≤ s.pack.belowRun

/-- Four passes that read another band than that of a resistor pack (R68). -/
def packSwapped (s : State) : Bool := (s.pack.scheme == 1 || s.pack.scheme == 2) && 4 ≤ s.pack.bandRun

/-- From s to t the part reports and remembers a removal: the pack keeps all but its retry timer. -/
structure RemovalNoted (s t : State) : Prop where
  live : live t = live s
  pack : { t.pack with retry := false } = { s.pack with retry := false }

theorem removalNoted_refl (s : State) : RemovalNoted s s := ⟨rfl, rfl⟩

theorem removalNoted_trans {u : State} (h : RemovalNoted s t) (k : RemovalNoted t u) : RemovalNoted s u :=
  ⟨k.live.trans h.live, k.pack.trans h.pack⟩

theorem removalNoted_of_eff {l : List Part} (h : Eff l s t) (hb : l.contains .binding = false) (hp : l.contains .pack = false) :
    RemovalNoted s t := ⟨by rw [Machine.live, h.binding_eq hb, Machine.live], by rw [h.pack_eq hp]⟩

/-- The removals in the window with this one; a core reset remembers none. -/
def removalHistory (s : State) : List Nat :=
  if s.core.inReset then []
  else s.keeper.ticks :: recent (fnat (live s) hotplugPackChatterWindow) s.keeper.ticks s.cart.packHistory

/-- 04 R88: more removals in the window than `HOTPLUG` allows. -/
def packChatters (s : State) : Bool := fnat (live s) hotplugPackChatterCount < (removalHistory s).length

/-- The identity of a pack is forgotten; one that was swapped is still present. -/
def packForgotten (s : State) : State :=
  { s with
    pack := { forgetPack s.pack with present := !packGone s, retry := !packChatters s, expiredDue := false }
    cart := { s.cart with packHistory := removalHistory s } }

/-- The report of a removal, with its recovery interval while the core runs. -/
def removalReported (s : State) : State :=
  let t := reportAon evPackRemoved s.pack.band s.pack.scheme (packForgotten s)
  if s.core.inReset then t else coverFault 2000 255 t

/-- Chatter is latched, and stops the retry timer. -/
def chatterLatched (s t : State) : State :=
  let u := if packChatters s && !s.cart.packChatter then
      report evPackChatter s.pack.band s.pack.scheme { t with cart := { t.cart with packChatter := true } }
    else t
  if s.cart.packChatter then { u with pack := { u.pack with retry := false } } else u

theorem exec_packRemoved (ha : s.supply.aonUp = true) (hp : s.pack.present = true) (hg : (packGone s || packSwapped s) = true) :
    exec .packRemoved s = .next (packLimit (chatterLatched s (removalReported s))) := by
  refine guarded_of ?_ _ _
  rw [ha, hp]
  exact hg

theorem removalReported_noted (s : State) : RemovalNoted (packForgotten s) (removalReported s) := by
  have reported := reportAon_eff evPackRemoved s.pack.band s.pack.scheme (packForgotten s)
  exact removalNoted_of_eff (l := [.aon, .keeper, .beacon])
    (Eff.ite (fun _ => reported.mono rfl) fun _ => (reported.mono rfl).comp (coverFault_eff _ _ _) rfl) rfl rfl

theorem chatterLatched_noted (s t : State) : RemovalNoted t (chatterLatched s t) := by
  have latched : RemovalNoted t (if packChatters s && !s.cart.packChatter then
      report evPackChatter s.pack.band s.pack.scheme { t with cart := { t.cart with packChatter := true } } else t) :=
    removalNoted_of_eff (l := [.cart, .beacon])
      (Eff.ite (fun _ => (Eff.set_cart (Eff.refl _ _) rfl).comp (report_eff _ _ _ _) rfl) fun _ => Eff.refl _ _) rfl rfl
  exact ite_pred (P := RemovalNoted t) (removalNoted_trans latched ⟨rfl, rfl⟩) latched

/-- A removal forgets the identity, whatever else it brings. -/
theorem packRemoved_forgets (ha : s.supply.aonUp = true) (hp : s.pack.present = true)
    (hg : (packGone s || packSwapped s) = true) :
    ∃ t, exec .packRemoved s = .next t ∧ t.pack.present = !packGone s ∧ t.pack.scheme = 0 ∧ t.pack.identRead = false ∧
      t.pack.unidentified = false ∧ t.pack.limit = packLimitOf (live s) t.cart.packChatter t.pack := by
  obtain ⟨kept, pack⟩ := removalNoted_trans (removalReported_noted s) (chatterLatched_noted s (removalReported s))
  have present := congrArg Pack.present pack
  have scheme := congrArg Pack.scheme pack
  have identRead := congrArg Pack.identRead pack
  have unidentified := congrArg Pack.unidentified pack
  refine ⟨_, exec_packRemoved ha hp hg, present, scheme, identRead, unidentified, ?_⟩
  rw [packLimit_limit, kept]
  rfl

/-! The end of the retry interval (04 R88, 07 R178). -/

/-- The retry timer has ended. -/
def retryEnded (s : State) : State := { s with pack := { s.pack with retry := false, expiredDue := false } }

theorem exec_packRetryExpired_waits (ha : s.supply.aonUp = true) (ht : s.pack.retry = true) (hr : running s = true)
    (hl : s.pins.abortLow = true) :
    exec .packRetryExpired s = .next { s with pack := { s.pack with retry := false, expiredDue := true } } :=
  (guarded_of (by simp [ha, ht]) _ _).trans (congrArg _ (if_pos (by simp [hr, hl])))

theorem exec_packRetryExpired_ends (ha : s.supply.aonUp = true) (ht : s.pack.retry = true)
    (h : running s = false ∨ s.pins.abortLow = false) :
    exec .packRetryExpired s = .next
      (if s.pack.present && !s.cart.packChatter then packLimit (startDetection (retryEnded s)) else retryEnded s) :=
  (guarded_of (by simp [ha, ht]) _ _).trans (congrArg _ (if_neg (by rcases h with h | h <;> simp [h])))

/-- 03 R62: detection starts afresh with a pack that is present. -/
theorem packRetryExpired_detects (ha : s.supply.aonUp = true) (ht : s.pack.retry = true)
    (h : running s = false ∨ s.pins.abortLow = false) (hp : s.pack.present = true) (hc : s.cart.packChatter = false) :
    ∃ t, exec .packRetryExpired s = .next t ∧ t.pack.retry = false ∧ t.pack.present = true ∧
      (t.pack.detecting = true ∨ t.pack.identRead = true ∨ t.pack.unidentified = true) := by
  have present := (startDetection_present (retryEnded s)).trans hp
  refine ⟨_, exec_packRetryExpired_ends ha ht h, ?_⟩
  rw [if_pos (by simp [hp, hc])]
  exact ⟨startDetection_retry _, present, (startDetection_detected (retryEnded s)).outcome rfl⟩

/-- Settles O21: an arrival, the two removals, and the end of the retry interval. -/
theorem packPresenceIsFollowed : Obligations.PackPresenceIsFollowed := by
  refine ⟨fun s => packPresent_noted, fun s ha hp hb => ?_, fun s ha hp hb hn hs => ?_, fun s ha ht => ⟨fun hr hl => ?_, fun h hn => ?_,
    packRetryExpired_detects ha ht⟩⟩
  · have gone : packGone s = true := decide_eq_true hb
    obtain ⟨t, ht, present, scheme, identRead, unidentified, limit⟩ := packRemoved_forgets ha hp (by simp [gone])
    rw [gone] at present
    exact ⟨t, ht, present, scheme, identRead, unidentified, limit.trans (packLimitOf_absent _ _ present)⟩
  · have gone : packGone s = false := decide_eq_false (not_le.mpr hn)
    have swapped : packSwapped s = true := by simpa [packSwapped, hb] using hs
    obtain ⟨t, ht, present, scheme, identRead, -⟩ := packRemoved_forgets ha hp (by simp [swapped])
    rw [gone] at present
    exact ⟨t, ht, present, scheme, identRead⟩
  · exact exec_packRetryExpired_waits ha ht hr hl
  · rw [exec_packRetryExpired_ends ha ht h, if_neg (by rcases hn with hn | hn <;> simp [hn])]
    rfl

/-! Faults, waits and silence (03 R62, R65, R67). -/

theorem packTFault_limits (ha : s.supply.aonUp = true) (hs : s.pack.scheme = 2) (hb : 2 ≤ s.pack.tBadRun) (hf : s.pack.tFault = false) :
    ∃ t, exec .packTFault s = .next t ∧ t.pack = { s.pack with tFault := true, limit := t.pack.limit } ∧
      t.pack.limit = packLimitOf (live s) s.cart.packChatter t.pack := by
  have limit := packLimit_limit_of_eff (reportAon_eff evPackTFault s.pack.band 2 { s with pack := { s.pack with tFault := true } }) rfl rfl
  refine ⟨_, guarded_of (by simp [ha, hs, hb, hf]) _ _, ?_, limit⟩
  simp only [packLimit, reportAon_pack]

/-- A pack of Scheme 3 has fallen silent. -/
def fellSilent (s : State) : State := { s with pack := { s.pack with silent := true, lastFrame := none } }

theorem packSilent_limits (ha : s.supply.aonUp = true) (hp : s.pack.present = true) (hs : s.pack.scheme = 3) (hn : s.pack.silent = false) :
    ∃ t, exec .packSilent s = .next t ∧ t.pack.silent = true ∧ t.pack.lastFrame = none ∧
      t.pack.limit = fnat (live s) packLimitUnknown := by
  have limit := packLimit_limit_of_eff (reportAon_eff evPackSilent 0 3 (fellSilent s)) rfl rfl
  have pack : (reportAon evPackSilent 0 3 (fellSilent s)).pack = (fellSilent s).pack := reportAon_pack _ _ _ _
  refine ⟨_, guarded_of (by simp [ha, hp, hs, hn]) _ _, congrArg Pack.silent pack, congrArg Pack.lastFrame pack, ?_⟩
  refine limit.trans (packLimitOf_unknown _ _ ?_ (.inr ⟨?_, ?_⟩))
  · exact (congrArg Pack.present pack).trans hp
  · exact (congrArg Pack.scheme pack).trans hs
  · exact congrArg Pack.silent pack

theorem packS3WaitExpired_limits (ha : s.supply.aonUp = true) (hd : s.pack.detecting = true) :
    ∃ t, exec .packS3WaitExpired s = .next t ∧ t.pack.detecting = false ∧ t.pack.unidentified = true ∧
      (s.pack.present = true → t.pack.limit = fnat (live s) packLimitUnknown) :=
  ⟨_, guarded_of (by simp [ha, hd]) _ _, rfl, rfl, fun hp => packLimitOf_unknown _ _ hp (.inl rfl)⟩

/-! Frames of Scheme 3 (03 R64, R65). -/

section

variable {idle f : Nat} {segs : List (Bool × Nat)} (ha : s.supply.aonUp = true) (hp : s.pack.present = true)
  (hs : s.pack.candidate = true ∨ s.pack.scheme = 3)

include ha hp hs

/-- A listened pack's frame is taken. -/
theorem scheme3Frame_taken : (s.supply.aonUp && s.pack.present && (s.pack.candidate || s.pack.scheme == 3)) = true := by
  simpa [ha, hp] using hs

theorem exec_scheme3Frame_invalid (hd : scheme3Decode idle segs = none) :
    exec (.scheme3Frame idle segs) s = .next (if s.core.inReset || s.core.halted then s
      else { s with beacon := { s.beacon with scheme3Bad := satInc s.beacon.scheme3Bad } }) := by
  simp only [exec, execScheme3Frame, hd]
  exact guarded_of (scheme3Frame_taken ha hp hs) _ _

theorem exec_scheme3Frame_first (hd : scheme3Decode idle segs = some f) (hf : s.pack.lastFrame ≠ some f) :
    exec (.scheme3Frame idle segs) s = .next { s with pack := { s.pack with lastFrame := some f } } := by
  simp only [exec, execScheme3Frame, hd, beq_iff_eq, hf, if_false]
  exact guarded_of (scheme3Frame_taken ha hp hs) _ _

/-- The second of two equal frames is the pack's identity. -/
theorem exec_scheme3Frame_second (hd : scheme3Decode idle segs = some f) (hf : s.pack.lastFrame = some f) :
    exec (.scheme3Frame idle segs) s = .next (packLimit { s with pack :=
      { if s.pack.scheme == 3 then s.pack else identify (live s) 3 s.pack with ident3 := f, silent := false } }) := by
  simp only [exec, execScheme3Frame, hd, hf, beq_self_eq_true, if_true]
  exact guarded_of (scheme3Frame_taken ha hp hs) _ _

theorem scheme3Frame_identifies (hd : scheme3Decode idle segs = some f) (hf : s.pack.lastFrame = some f) :
    ∃ t, exec (.scheme3Frame idle segs) s = .next t ∧ t.pack.ident3 = f ∧ t.pack.silent = false ∧ t.pack.present = true ∧
      t.pack.limit = packLimitOf (live s) s.cart.packChatter t.pack ∧
      (s.pack.scheme ≠ 3 → schemeAccepted (live s) 3 = true → t.pack.scheme = 3 ∧ t.pack.identRead = true) ∧
      (s.pack.scheme ≠ 3 → schemeAccepted (live s) 3 = false → t.pack.unidentified = true) := by
  have present : (if s.pack.scheme == 3 then s.pack else identify (live s) 3 s.pack).present = true := by
    split
    · exact hp
    · exact (congrArg Pack.present (forgetPack_identify (live s) 3 s.pack)).trans hp
  refine ⟨_, exec_scheme3Frame_second ha hp hs hd hf, rfl, rfl, present, rfl, fun hn hk => ?_, fun hn hk => ?_⟩
  · simp [packLimit, identify, hn, hk]
  · simp [packLimit, identify, hn, hk]

end

/-- Settles O22: a fault, silence, a wait, and the frames of a pack that is listened to. Where the manual is silent, logs 24, 112 and 121
decide. -/
theorem packIdentityIsFollowed : Obligations.PackIdentityIsFollowed := by
  refine ⟨fun s => packTFault_limits, fun s => packSilent_limits, fun s => packS3WaitExpired_limits, fun idle segs s ha hp hs =>
    ⟨fun hd hi => ?_, fun hd hr hh => ?_, fun f => exec_scheme3Frame_first ha hp hs, fun f => scheme3Frame_identifies ha hp hs⟩⟩
  · rw [exec_scheme3Frame_invalid ha hp hs hd, if_pos (by simpa using hi)]
  · rw [exec_scheme3Frame_invalid ha hp hs hd, if_neg (by simp [hr, hh])]

end Sys2Proof.Proofs
end

section
/-! SUPPORT. Holds, status polls and the reads of the binding reader (03 R59, R60, 06 R115 to R129, R138), and O29 and O30. -/

namespace Sys2Proof.Proofs

open Sys2Proof Machine Laws

variable {s t : State} {m : MemItem} {c : Copy}

/-! The next read (06 R121). -/

theorem itemSpans_mem (s : State) (a : MemPort) (m : MemItem) : itemSpans { s with mem := a } m = itemSpans s m := by
  cases m with
  | spine c => cases c <;> rfl
  | _ => rfl

theorem pumpReads_busy (h : s.mem.reading.isSome = true) : pumpReads s = s := if_pos (by simp [h])

theorem pumpReads_empty (h : s.mem.waiting = []) : pumpReads s = s := by
  unfold pumpReads
  rw [h]
  exact ite_self s

theorem pumpReads_begins {rest : List MemItem} (hr : s.mem.reading = none) (hw : s.mem.waiting = m :: rest) (hb : busFree s = true) :
    pumpReads s = issueReads (itemSpans s m) { s with mem := { s.mem with reading := some m, waiting := rest } } := by
  unfold pumpReads
  rw [hw]
  exact if_neg (by simp [hr, hb])

theorem pumpReads_statusDue (s : State) : (pumpReads s).mem.statusDue = s.mem.statusDue := by
  unfold pumpReads
  split
  · rfl
  split <;> rfl

/-- On a free bus without a read in progress, the first read that waits begins. -/
theorem pumpReads_next (hr : s.mem.reading = none) (hb : busFree s = true) :
    (pumpReads s).mem.reading = s.mem.waiting.head? ∧ (pumpReads s).mem.waiting = s.mem.waiting.tail := by
  cases hw : s.mem.waiting with
  | nil =>
    rw [pumpReads_empty hw, hr, hw]
    exact ⟨rfl, rfl⟩
  | cons m rest =>
    rw [pumpReads_begins hr hw hb]
    exact ⟨rfl, rfl⟩

/-! Holds (03 R60, 06 R118, R122 to R124). -/

/-- The bus is the host's, with what the flash has not delivered of the item under way still to be read. -/
def busTaken (read : Nat) (s : State) : State :=
  { s with
    pins := { s.pins with holdLow := true }
    mem :=
      { s.mem with ackLow := true, unread := dropSpans read s.mem.unread, bootLow := s.mem.bootLow || s.mem.bootHold
                   longReported := false } }

theorem exec_holdRequest (n r : Nat) (hr : running s = true) (hl : s.pins.holdLow = false) :
    exec (.holdRequest ⟨n, r⟩) s = .next (if (pulse s n 0 50).1 then busTaken r (pulse s n 0 50).2 else (pulse s n 0 50).2) :=
  guarded_of (by simp [hr, hl]) _ _

/-- A level of 50 ns is always seen. -/
theorem holdRequest_seen {n : Nat} (r : Nat) (hr : running s = true) (hl : s.pins.holdLow = false) (hn : 50 ≤ n) :
    exec (.holdRequest ⟨n, r⟩) s = .next (busTaken r s) := by
  have seen : pulse s n 0 50 = (true, s) := if_pos hn
  rw [exec_holdRequest n r hr hl, seen]
  rfl

/-- A shorter one is seen whole or not at all. -/
theorem holdRequest_short (n r : Nat) (hr : running s = true) (hl : s.pins.holdLow = false) :
    ∃ t, exec (.holdRequest ⟨n, r⟩) s = .next t ∧
      (t.mem = s.mem ∧ t.pins = s.pins ∨ t.mem.ackLow = true ∧ t.pins.holdLow = true) := by
  refine ⟨_, exec_holdRequest n r hr hl, ?_⟩
  split
  · exact .inr ⟨rfl, rfl⟩
  · exact .inl ⟨(pulse_eff s n 0 50).mem_eq rfl, (pulse_eff s n 0 50).pins_eq rfl⟩

/-- The bus is the part's again: the flash is reset at the first moment that it is, and asked for its status at every later one. -/
def busReturned (s : State) : State :=
  let first := s.mem.flashReset == .none
  { s with
    pins := { s.pins with holdLow := false }
    mem :=
      { s.mem with ackLow := false, bootHold := false, flashReset := if first then .low else s.mem.flashReset
                   statusDue := !first, busyReported := false, longReported := false } }

theorem exec_holdRelease (hr : running s = true) (hl : s.pins.holdLow = true) :
    exec .holdRelease s = .next (if s.mem.bootHold && !s.mem.bootLow then { s with pins := { s.pins with holdLow := false } }
      else busReturned s) := guarded_of (by simp [hr, hl]) _ _

theorem holdRelease_returns (hr : running s = true) (hl : s.pins.holdLow = true)
    (hb : s.mem.bootHold = false ∨ s.mem.bootLow = true) : exec .holdRelease s = .next (busReturned s) := by
  rw [exec_holdRelease hr hl, if_neg (by rcases hb with hb | hb <;> simp [hb])]

/-- 06 R118: the flash that no one has reset is reset. -/
theorem busReturned_first (h : s.mem.flashReset = .none) :
    (busReturned s).mem.flashReset = .low ∧ (busReturned s).mem.statusDue = false := by simp [busReturned, h]

/-- 06 R124: one that has been reset is asked for its status. -/
theorem busReturned_later (h : s.mem.flashReset ≠ .none) :
    (busReturned s).mem.flashReset = s.mem.flashReset ∧ (busReturned s).mem.statusDue = true := by simp [busReturned, h]

/-! Status polls (06 R124). -/

theorem statusCommand_eq (m : MemMode) :
    statusCommand m =
      if m = .d8 then { opcode := 0x05FA, addr := some 0, len := 1 } else { opcode := 0x05, addr := none, len := 1 } := by
  cases m <;> rfl

/-- A read is resumed by commands for what it has not delivered, and changes nothing else. -/
theorem resumeRead_issues (s : State) : ∃ l, resumeRead s = { s with mem := { s.mem with issued := l } } := by
  unfold resumeRead
  split
  · exact ⟨_, rfl⟩
  · exact ⟨s.mem.issued, rfl⟩

theorem resumeRead_of (hu : readUnderWay s = true) (hb : busFree s = true) :
    resumeRead s = issueReads s.mem.unread s := if_pos (by simp [hu, hb])

theorem resumeRead_none (h : readUnderWay s = false) : resumeRead s = s := if_neg (by simp [h])

/-- The flash has answered that it is idle. -/
def flashIdle (s : State) : State := { s with mem := { s.mem with issued := [statusCommand s.mem.mode], statusDue := false } }

theorem exec_statusPoll (w : Option Bool) (hr : running s = true) (hd : s.mem.statusDue = true) (ha : s.mem.ackLow = false)
    (hk : domainHeld s .mem = false) :
    exec (.statusPoll w) s = .next (if w == some false then pumpReads (resumeRead (flashIdle s)) else issue (statusCommand s.mem.mode) s) :=
  guarded_of (by simp [hr, hd, ha, hk]) _ _

theorem busFree_flashIdle (ha : s.mem.ackLow = false) (hk : domainHeld s .mem = false) (hn : s.core.noBinding = false)
    (hf : s.mem.flashReset = .done) : busFree (flashIdle s) = true := by
  have free : domainHeld (flashIdle s) .mem = false := hk
  rw [busFree, free]
  simp [flashIdle, ha, hn, hf]

theorem flashIdle_statusDue (s : State) : (pumpReads (resumeRead (flashIdle s))).mem.statusDue = false := by
  obtain ⟨l, h⟩ := resumeRead_issues (flashIdle s)
  rw [pumpReads_statusDue, h]
  rfl

/-- With nothing to read, nothing but the status has been asked for. -/
theorem flashIdle_nothing (hu : readUnderWay s = false) (hw : s.mem.waiting = []) :
    (pumpReads (resumeRead (flashIdle s))).mem.issued = [statusCommand s.mem.mode] := by
  rw [resumeRead_none (s := flashIdle s) hu, pumpReads_empty (s := flashIdle s) hw]
  rfl

/-- 06 R121: the rest of the item that the hold interrupted is read. -/
theorem flashIdle_resumes (hb : busFree (flashIdle s) = true) (hr : s.mem.reading.isSome = true) :
    pumpReads (resumeRead (flashIdle s)) = issueReads s.mem.unread (flashIdle s) := by
  have underWay : readUnderWay (flashIdle s) = true := Bool.or_eq_true_iff.mpr (.inl hr)
  rw [resumeRead_of underWay hb]
  exact pumpReads_busy (s := issueReads s.mem.unread (flashIdle s)) hr

/-- 06 R121: or the first read that waits begins. -/
theorem flashIdle_begins {rest : List MemItem} (hb : busFree (flashIdle s) = true) (hr : s.mem.reading = none)
    (hw : s.mem.waiting = m :: rest) :
    ∃ l, pumpReads (resumeRead (flashIdle s)) =
      issueReads (itemSpans s m) { s with mem := { s.mem with statusDue := false, issued := l, reading := some m, waiting := rest } } := by
  obtain ⟨l, h⟩ := resumeRead_issues (flashIdle s)
  refine ⟨l, ?_⟩
  rw [h, pumpReads_begins (s := { flashIdle s with mem := { (flashIdle s).mem with issued := l } }) hr hw hb, itemSpans_mem, flashIdle,
    itemSpans_mem]

/-- Settles O29: the request, the release, the poll behind it, and the two reports, whose subject is the model's choice (log 30). -/
theorem holdsHandOverTheBus : Obligations.HoldsHandOverTheBus := by
  unfold Obligations.HoldsHandOverTheBus
  intro status
  have asked : ∀ s, status s = statusCommand s.mem.mode := fun s => (statusCommand_eq s.mem.mode).symm
  refine ⟨fun n r s hr hl => ⟨holdRequest_seen r hr hl, fun _ => holdRequest_short n r hr hl⟩,
    fun s hr hl => ⟨fun hb hn => ?_, fun hb => ?_⟩, fun w s hr hd ha hk => ⟨fun hw => ?_, fun hw => ?_⟩, fun s hr hd ha hb => ?_,
    fun s hr ha hl => ?_⟩
  · rw [exec_holdRelease hr hl, if_pos (by simp [hb, hn])]
  · exact ⟨_, holdRelease_returns hr hl hb, rfl, rfl, rfl, busReturned_first, busReturned_later⟩
  · rw [exec_statusPoll w hr hd ha hk, if_neg (by simpa using hw), asked]
    rfl
  · refine ⟨_, exec_statusPoll w hr hd ha hk, ?_⟩
    rw [if_pos (by simpa using hw), asked]
    refine ⟨flashIdle_statusDue s, flashIdle_nothing, fun hn hf => ?_⟩
    have free := busFree_flashIdle ha hk hn hf
    refine ⟨fun hi => ?_, fun m rest hi hq => ?_⟩
    · rw [flashIdle_resumes free hi]
      exact ⟨rfl, rfl, rfl⟩
    · obtain ⟨l, begun⟩ := flashIdle_begins free hi hq
      rw [begun]
      exact ⟨rfl, rfl, rfl, rfl⟩
  · exact ⟨_, guarded_of (by simp [hr, hd, ha, hb]) _ _, report_mem _ _ _ _, report_reported _ _ _ _⟩
  · exact ⟨_, guarded_of (by simp [hr, ha, hl]) _ _, report_mem _ _ _ _, report_reported _ _ _ _⟩

/-! An item that has been read (06 R121, R129, R138). -/

theorem endRead_of (data : Option (List Byte)) (hm : s.mem.reading = some m) :
    endRead data s = pumpReads (finishRead m data (readingNone s)) := by
  simp only [endRead, hm]
  rfl

theorem busFree_of_eff {l : List Part} (h : Eff l s t) (hc : l.contains .core = false) (hm : l.contains .mem = false)
    (hk : l.contains .keeper = false) : busFree t = busFree s := by
  rw [busFree, h.core_eq hc, h.mem_eq hm, domainHeld_of_eff h hk, busFree]

/-- An item that the reader takes without more to do is followed by the next read. -/
theorem endRead_next {data : Option (List Byte)} (hm : s.mem.reading = some m) (hb : busFree s = true)
    (h : Eff [.binding, .beacon] (readingNone s) (finishRead m data (readingNone s))) :
    (endRead data s).binding = (finishRead m data (readingNone s)).binding ∧
      (endRead data s).mem.reading = s.mem.waiting.head? ∧ (endRead data s).mem.waiting = s.mem.waiting.tail := by
  have mem := h.mem_eq rfl
  obtain ⟨reading, waiting⟩ := pumpReads_next (congrArg MemPort.reading mem) ((busFree_of_eff h rfl rfl rfl).trans hb)
  rw [mem] at reading waiting
  rw [endRead_of data hm]
  exact ⟨(pumpReads_eff _).binding_eq rfl, reading, waiting⟩

/-- The copy of the spine that the reader keeps. -/
def spineKept (c : Copy) (r : Reader) : Option Spine := if c = .a then r.spineA else r.spineB

/-- The reader with a copy of the spine that has been read, or that failed its checks. -/
def spineTaken (c : Copy) (bytes : List Byte) (r : Reader) : Reader :=
  let sp := if spineReason bytes = 0 then some (spineOf bytes) else none
  let first := if spineReason bytes ≠ 0 ∧ r.firstReason = 0 then spineReason bytes else r.firstReason
  match c with
  | .a => { r with spineA := sp, firstReason := first }
  | .b => { r with spineB := sp, firstReason := first }

theorem spineKept_taken (c : Copy) (bytes : List Byte) (r : Reader) :
    spineKept c (spineTaken c bytes r) = if spineReason bytes = 0 then some (spineOf bytes) else none := by
  cases c <;> rfl

theorem spineKept_unread (c : Copy) (r : Reader) : spineKept c (spineUnread c r) = none := by cases c <;> rfl

/-- The spine's first copy is kept when it passes, and reported when it fails. -/
theorem finishRead_firstSpine (hc : copyPref s = c) (bytes : List Byte) :
    finishRead (.spine c) (some bytes) s =
      if spineReason bytes = 0 then updReader (spineTaken c bytes) s
      else report evSigFallback (spineReason bytes) (copyNum c) (updReader (spineTaken c bytes) s) := by
  by_cases h : spineReason bytes = 0
  · cases c <;> simp [finishRead, hc, h, updReader, spineTaken]
  · cases c <;> simp [finishRead, hc, h, updReader, spineTaken]

theorem finishRead_firstSpine_eff (hc : copyPref s = c) (bytes : List Byte) :
    Eff [.beacon] (updReader (spineTaken c bytes) s) (finishRead (.spine c) (some bytes) s) := by
  rw [finishRead_firstSpine hc]
  exact Eff.ite (fun _ => Eff.refl _ _) fun _ => report_eff _ _ _ _

/-- 06 R129: the first copy's read. -/
theorem endRead_firstSpine_data (bytes : List Byte) (hm : s.mem.reading = some (.spine (copyPref s))) (hb : busFree s = true) :
    spineKept (copyPref s) (endRead (some bytes) s).binding.reader =
        (if spineReason bytes = 0 then some (spineOf bytes) else none) ∧
      (endRead (some bytes) s).mem.reading = s.mem.waiting.head? ∧ (endRead (some bytes) s).mem.waiting = s.mem.waiting.tail ∧
      (endRead (some bytes) s).binding.live = s.binding.live := by
  have taken := finishRead_firstSpine_eff (s := readingNone s) (c := copyPref s) rfl bytes
  obtain ⟨binding, reading, waiting⟩ := endRead_next hm hb (((updReader_eff _ _).mono rfl).comp taken rfl)
  rw [binding, taken.binding_eq rfl]
  exact ⟨spineKept_taken _ _ _, reading, waiting, rfl⟩

/-- 06 R121: a failed one keeps nothing of it. -/
theorem endRead_firstSpine_failed (hm : s.mem.reading = some (.spine (copyPref s))) :
    spineKept (copyPref s) (endRead none s).binding.reader = none ∧ Reported evSigFallback (copyNum (copyPref s)) (endRead none s) := by
  rw [endRead_firstSpine hm]
  refine ⟨?_, reported_of_eff (report_reported _ _ _ _) (pumpReads_eff _) rfl⟩
  rw [(pumpReads_eff _).binding_eq rfl, report_binding]
  exact spineKept_unread _ _

/-- The reader with the header of a copy. -/
def headerTaken (c : Copy) (data : Option (List Byte)) (r : Reader) : Reader :=
  match c with
  | .a => { r with headerA := data }
  | .b => { r with headerB := data }

theorem finishRead_firstHeader (hc : copyPref s = c) (data : Option (List Byte)) :
    finishRead (.header c) data s = updReader (headerTaken c data) s := by
  cases c <;> simp [finishRead, hc, headerTaken, updReader]

/-- 06 R138: the first header's read. -/
theorem endRead_firstHeader (bytes : List Byte) (hm : s.mem.reading = some (.header (copyPref s))) (hb : busFree s = true) :
    (endRead (some bytes) s).binding = { s.binding with reader := headerTaken (copyPref s) (some bytes) s.binding.reader } ∧
      (endRead (some bytes) s).mem.reading = s.mem.waiting.head? := by
  have taken : finishRead (.header (copyPref s)) (some bytes) (readingNone s) = _ :=
    finishRead_firstHeader (s := readingNone s) rfl (some bytes)
  obtain ⟨binding, reading, -⟩ := endRead_next (data := some bytes) hm hb (taken ▸ (updReader_eff _ _).mono rfl)
  exact ⟨by rw [binding, taken]; rfl, reading⟩

theorem headerTaken_header (c : Copy) (bytes : List Byte) (r : Reader) :
    (if c = .a then (headerTaken c (some bytes) r).headerA else (headerTaken c (some bytes) r).headerB) = some bytes := by
  cases c <;> rfl

theorem headerTaken_phase (c : Copy) (data : Option (List Byte)) (r : Reader) : (headerTaken c data r).phase = r.phase := by
  cases c <;> rfl

/-! The ends of a read (06 R121). -/

/-- A read gives its bytes unless it failed or the memory is without its supply. -/
theorem exec_memReadDone_data (bytes : List Byte) (hs : sysRuns s = true) (hb : busFree s = true) (hm : s.mem.reading = some m)
    (hr : s.supply.ringM = true) : exec (.memReadDone (.data bytes)) s = .next (endRead (some bytes) s) := by
  simp only [exec, execMemReadDone, hr, if_true]
  exact guarded_of (by simp [hs, hb, hm]) _ _

theorem exec_memReadDone_failed {r : ReadResult} (hs : sysRuns s = true) (hb : busFree s = true) (hm : s.mem.reading = some m)
    (h : r = .failed ∨ s.supply.ringM = false) : exec (.memReadDone r) s = .next (endRead none s) := by
  have ok : (sysRuns s && busFree s && s.mem.reading.isSome) = true := by simp [hs, hb, hm]
  cases r with
  | failed => exact guarded_of ok _ _
  | data bytes =>
    have lost : s.supply.ringM = false := h.resolve_left nofun
    simp only [exec, execMemReadDone, lost, Bool.false_eq_true, if_false]
    exact guarded_of ok _ _

theorem exec_dqsTimeout (hs : sysRuns s = true) (hb : busFree s = true) (hd : s.mem.mode = .d8) :
    exec .dqsTimeout s = .next (failCurrentRead s) := guarded_of (by simp [hs, hb, hd]) _ _

theorem failCurrentRead_reader (hm : s.mem.reading = some m) : failCurrentRead s = endRead none s := if_pos (by simp [hm])

theorem failCurrentRead_idle (hm : s.mem.reading = none) (hj : s.codec.running = none) : failCurrentRead s = s := by
  simp [failCurrentRead, failJobRead, hm, hj]

/-! Read commands (06 R115 to R117). -/

/-- 06 R116: in 8D-8D-8D a span begins at an even address and has an even length. -/
theorem evenSpan_even (e : Nat × Nat) : (evenSpan .d8 e).1 % 2 = 0 ∧ (evenSpan .d8 e).2 % 2 = 0 := by
  simp only [evenSpan, beq_self_eq_true, if_true]
  omega

/-- 06 R117: each command that covers a span has at most the limit's bytes, and is even where the span and the limit are. -/
theorem splitSpan_command {op limit : Nat} {k : FlashCommand} : ∀ {fuel a n : Nat}, k ∈ splitSpan op limit fuel a n →
    k.opcode = op ∧ k.len ≤ limit ∧
      ∃ b, k.addr = some b ∧ (limit % 2 = 0 → a % 2 = 0 → n % 2 = 0 → b % 2 = 0 ∧ k.len % 2 = 0) := by
  intro fuel
  induction fuel with
  | zero => exact fun h => absurd h List.not_mem_nil
  | succ fuel ih =>
    intro a n h
    unfold splitSpan at h
    split at h
    · exact absurd h List.not_mem_nil
    rcases List.mem_cons.mp h with rfl | h
    · exact ⟨rfl, min_le_left _ _, a, rfl, fun hl ha hn => ⟨ha, by dsimp only; omega⟩⟩
    · obtain ⟨opcode, len, b, addr, even⟩ := ih h
      exact ⟨opcode, len, b, addr, fun hl ha hn => even hl (by omega) (by omega)⟩

/-- Settles O30: the first copy of the spine and the first header, a strobe without a read, and the commands of an item. -/
theorem readsReachTheReader : Obligations.ReadsReachTheReader := by
  unfold Obligations.ReadsReachTheReader
  intro kept header
  have keeps : ∀ c t, kept c t = spineKept c t.binding.reader := fun _ _ => rfl
  refine ⟨fun c bytes s hs hb hc hm => ?_, fun c bytes s hs hb hr hc hm => ?_, fun s hs hb hd hm hj => ?_, fun m chunk spans k hk => ?_⟩
  · subst hc
    have failed := endRead_firstSpine_failed hm
    refine ⟨fun hr => ⟨_, exec_memReadDone_data bytes hs hb hm hr, endRead_firstSpine_data bytes hm hb⟩,
      fun r h => ⟨_, exec_memReadDone_failed hs hb hm h, failed⟩, fun hd => ⟨_, exec_dqsTimeout hs hb hd, ?_⟩⟩
    rw [keeps, failCurrentRead_reader hm]
    exact failed
  · subst hc
    obtain ⟨binding, reading⟩ := endRead_firstHeader bytes hm hb
    refine ⟨_, exec_memReadDone_data bytes hs hb hm hr, ?_, ?_, reading, ?_⟩
    · simp only [header, binding]
      exact headerTaken_header _ _ _
    · rw [binding]
      exact headerTaken_phase _ _ _
    · rw [binding]
  · rw [exec_dqsTimeout hs hb hd, failCurrentRead_idle hm hj]
  · obtain ⟨e, -, hk⟩ := List.mem_flatMap.mp hk
    obtain ⟨opcode, len, b, addr, even⟩ := splitSpan_command hk
    refine ⟨opcode, by rw [addr]; rfl, by omega, fun hm => ?_⟩
    subst hm
    obtain ⟨start, length⟩ := evenSpan_even e
    obtain ⟨ba, bl⟩ := even (by omega) start length
    exact ⟨fun a ha => by rw [addr] at ha; cases ha; exact ba, bl⟩

end Sys2Proof.Proofs
end

section
/-! SUPPORT. The core's reset and lamp-only service (04 R70, R73, R75, 10 R245, 14 R356), and O9, O11, O18. -/

namespace Sys2Proof.Proofs

open Sys2Proof Machine Laws

variable {s t : State}

/-! The core's reset (04 R70, R75). -/

/-- A command whose effect leaves the core in reset. -/
theorem inReset_of_guarded {c : Bool} {u : State} (ht : guarded c s u = .next t) (hr : s.core.inReset = true)
    (hu : u.core.inReset = true) : t.core.inReset = true := by
  obtain rfl := Host.Outcome.next.inj ht
  exact ite_pred (P := fun v => v.core.inReset = true) hu hr

/-- A command without effect on a core in reset. -/
theorem inReset_of_idle {c : Instr} (ht : exec c s = .next t) (hr : s.core.inReset = true) (hi : exec c s = .next s) :
    t.core.inReset = true := by
  obtain rfl := Host.Outcome.next.inj (hi.symm.trans ht)
  exact hr

/-- A command that does not touch the core leaves it in reset. -/
theorem inReset_of_untouched {c : Instr} (ht : exec c s = .next t) (hr : s.core.inReset = true)
    (hc : (touches c).contains .core = false) : t.core.inReset = true := by
  obtain ⟨u, hu, heff⟩ := exec_eff c s
  obtain rfl := Host.Outcome.next.inj (hu.symm.trans ht)
  rw [heff.core_eq hc, hr]

theorem sysRuns_inReset (hr : s.core.inReset = true) : sysRuns s = false := by simp [sysRuns, running, hr]

theorem pulse_core (s : State) (n a b : Nat) : (pulse s n a b).2.core = s.core := (pulse_eff s n a b).core_eq rfl

/-- 04 R70: every command but CORE_RELEASE leaves a core in reset as it is, or resets it anew. -/
theorem inReset_kept {c : Instr} (ht : exec c s = .next t) (hr : s.core.inReset = true) (hc : ∀ r, c ≠ .coreRelease r) :
    t.core.inReset = true := by
  have asleep := sysRuns_inReset hr
  cases c with
  | coreRelease r => exact absurd rfl (hc r)
  | vinInvalid | vddioHInvalid => exact inReset_of_guarded ht hr rfl
  | rstNAssert n =>
    refine inReset_of_guarded ht hr (ite_pred (P := fun v => v.core.inReset = true) rfl ?_)
    rw [pulse_core, hr]
  | vddioMValid l | vddioMInvalid =>
    refine inReset_of_guarded ht hr ?_
    rw [asleep]
    exact hr
  | memSupplyTimeout | pllLocked _ _ | keeperRestart | keeperHeartbeatSample _ _ | pllLockLost _ | composeStaleLine _
  | scheduleFrame _ => exact inReset_of_idle ht hr (guarded_not (by simp [running, hr]) _ _)
  | memReadDone _ | dqsTimeout | lampOnlyServiceStart | arbiterDecision _ _ _ | scrubTick _ =>
    exact inReset_of_idle ht hr (guarded_not (by simp [asleep]) _ _)
  | _ => exact inReset_of_untouched ht hr rfl

/-- Settles O9: a command that ends the reset is none of those that keep it. -/
theorem onlyACoreReleaseEndsTheReset : Obligations.OnlyACoreReleaseEndsTheReset := by
  intro c s t hr ht hn
  by_contra h
  rw [inReset_kept ht hr (not_exists.mp h)] at hn
  cases hn

theorem exec_rstNAssert (hv : s.supply.vin = true) (n : Nat) :
    exec (.rstNAssert n) s = .next (if (pulse s n 250 1000).1 then coreReset (pulse s n 250 1000).2 else (pulse s n 250 1000).2) :=
  guarded_of hv _ _

theorem pulse_long {n a b : Nat} (h : b ≤ n) (s : State) : pulse s n a b = (true, s) := if_pos h

theorem pulse_short {n a b : Nat} (hb : n < b) (ha : n < a) (s : State) : pulse s n a b = (false, s) := by
  rw [pulse, if_neg hb.not_ge, if_pos ha]

/-- A pulse between the limits takes a free value. -/
theorem pulse_between {n a b : Nat} (hb : n < b) (ha : a ≤ n) (s : State) :
    pulse s n a b = (Config.pulseSeen s.free, { s with free := s.free + 1 }) := by
  rw [pulse, if_neg hb.not_ge, if_neg ha.not_gt]

/-- Settles O11: the filter sees every long pulse and no short one, and decides one between as a free value. -/
theorem resetPulseIsWholeOrNothing : Obligations.ResetPulseIsWholeOrNothing := by
  intro n s hv
  rw [exec_rstNAssert hv]
  refine ⟨fun h => ?_, fun h => ?_, fun hl hh => ?_⟩
  · rw [pulse_long h]
    rfl
  · rw [pulse_short (by omega) h]
    rfl
  · rw [pulse_between hh hl]
    cases Config.pulseSeen s.free
    · exact .inr rfl
    · exact .inl rfl

/-! Lamp-only service (04 R73, 10 R245, 14 R356). -/

/-- Lamp-only service has begun, and its lamp field has started. -/
def lampsServed (s : State) : State := startLamps { s with core := { s.core with service := true } }

/-- Entry 0 is selected where it is used. -/
def firstSelected (s : State) : State := if entryUsed s.binding.live 0 then selectEntry 0 s else s

theorem exec_lampOnlyServiceStart (hs : sysRuns s = true) (hp : s.core.plls = true) (hf : s.core.folios = true)
    (hn : s.core.service = false) : exec .lampOnlyServiceStart s = .next (preloadRound (firstSelected (lampsServed s))) :=
  guarded_of (by simp [hs, hp, hf, hn]) _ _

theorem firstSelected_eff (s : State) : Eff [.codec, .pens, .select] s (firstSelected s) :=
  Eff.ite (fun _ => (selectEntry_eff 0 s).mono rfl) fun _ => Eff.refl _ _

theorem selectEntry_pending (n : Nat) (s : State) : (selectEntry n s).select.pending = some n :=
  congrArg Select.pending ((requestEntry_eff false _ _ n _).select_eq rfl)

/-- 14 R356: each lamp of the field starts with its estimate at 25 °C. -/
theorem startLamps_lamp {r c : Nat} (hg : geometry s (live s) = some (r, c)) :
    (startLamps s).lamp =
      { s.lamp with running := true, dark := s.pins.killLow, rows := r, cols := c, fields := live s
                    lamps := (List.range (r * c)).map fun i => { vf := vf25 (live s) i } } := by
  simp [startLamps, hg]

theorem startLamps_none (hg : geometry s (live s) = none) : startLamps s = s := by simp [startLamps, hg]

theorem lampsServed_core (s : State) : (lampsServed s).core = { s.core with service := true } := (startLamps_eff _).core_eq rfl

/-- Settles O18: the lamp field starts with the service, and what is selected and requested behind it leaves it alone. -/
theorem lampOnlyServiceBegins : Obligations.LampOnlyServiceBegins := by
  intro s hs hp hf hn
  have behind : Eff [.codec, .pens, .select] (lampsServed s) (preloadRound (firstSelected (lampsServed s))) :=
    (firstSelected_eff _).comp (preloadRound_eff _) rfl
  refine ⟨_, exec_lampOnlyServiceStart hs hp hf hn, ?_, fun r c hg => ?_, fun hg => ?_, fun hu => ?_⟩
  · rw [behind.core_eq rfl, lampsServed_core]
  · rw [behind.lamp_eq rfl, lampsServed, startLamps_lamp (by exact hg)]
    refine ⟨rfl, rfl, rfl, rfl, rfl, by simp, fun i hi => ?_⟩
    simp [hi]
    rfl
  · rw [behind.lamp_eq rfl, lampsServed, startLamps_none (by exact hg)]
  · have used : entryUsed (lampsServed s).binding.live 0 = true := by
      rw [lampsServed, (startLamps_eff _).binding_eq rfl]
      exact hu
    rw [(preloadRound_eff _).select_eq rfl, firstSelected, if_pos used, selectEntry_pending]

end Sys2Proof.Proofs
end

section
/-! SUPPORT. Cartridge hot plug (04 R80 to R87, 07 R178, 12 R293): removal, presence, the retry timer and the photodiode cross-check, and
O23 and O24. -/

namespace Sys2Proof.Proofs

open Sys2Proof Machine Laws

variable {s t : State} {p : Port}

/-! Removal (04 R80, R81, R87). -/

/-- The removals within the chatter window, with that of the moment. -/
def cartHistory (s : State) : List Nat :=
  s.keeper.ticks :: recent (fnat (live s) hotplugChatterWindow) s.keeper.ticks s.cart.history

/-- The removal is one too many within the window (04 R87). -/
def cartChatters (s : State) : Bool := fnat (live s) hotplugChatterCount < (cartHistory s).length

/-- The cartridge has gone from a part whose channels are out. -/
def cartTaken (s : State) : State :=
  let u := removeCart (darkAllChannels s)
  { u with cart := { u.cart with history := cartHistory s, retry := !cartChatters s && !u.cart.chatter } }

/-- The removal is reported as a covered fault. -/
def cartReported (s : State) : State := coverFault 2000 255 (report evCartRemoved 0 s.cart.code (cartTaken s))

/-- A removal of s that chatters stops the retry timer of t (04 R87). -/
def cartChatterLatched (s t : State) : State :=
  if cartChatters s && !t.cart.chatter then
    report evCartChatter 0 (cartHistory s).length { t with cart := { t.cart with chatter := true, retry := false } }
  else t

theorem exec_cartRemoved {d : Bool} (hr : running s = true) (hp : s.cart.present = true) (hu : cartUnread s = false)
    (hd : d = true ∨ 2 ≤ s.aon.cartOob) : exec (.cartRemoved d) s = .next (cartChatterLatched s (cartReported s)) :=
  guarded_of (by simpa [hr, hp, hu] using hd) _ _

theorem cartChatterLatched_eff (s t : State) : Eff [.cart, .beacon] t (cartChatterLatched s t) :=
  Eff.ite (fun _ => (Eff.set_cart (Eff.refl _ _) rfl).comp (report_eff _ _ _ _) rfl) fun _ => Eff.refl _ _

/-- What follows a removal touches the cartridge, the recovery intervals and the reports alone. -/
theorem removal_eff (s : State) :
    Eff [.cart, .keeper, .beacon] (removeCart (darkAllChannels s)) (cartChatterLatched s (cartReported s)) :=
  ((Eff.set_cart (Eff.refl _ _) rfl).comp (report_eff _ _ _ _) rfl |>.comp (coverFault_eff _ _ _) rfl).comp
    (cartChatterLatched_eff s _) rfl

theorem removeCart_cart (s : State) :
    (removeCart s).cart =
      { s.cart with present := false, qualified := false, step := .idle, uncalibrated := false, fails := 0, retryDue := false
                    expiredDue := false, lastTemp := none, hasQualified := false } := by
  rw [removeCart, (dropCalJobs_eff _).cart_eq rfl, (coastBoth_eff _).cart_eq rfl]

theorem removeCart_coasted (s : State) (p : Port) :
    Coasted (removeCart s) p ∧ (portOf (removeCart s) p).coilZ = (portOf s p).coilZ := by
  refine ⟨(coastBoth_coasted _ p).of_eff (dropCalJobs_eff _) rfl rfl, ?_⟩
  rw [removeCart, portOf_of_eff (dropCalJobs_eff _) rfl rfl, coastBoth_coilZ]
  cases p <;> rfl

/-- 04 R81: with every channel out, a removal leaves the part dark. -/
theorem removeCart_dark (s : State) : Dark (removeCart (darkAllChannels s)) :=
  dark_of_eff (coastBoth_dark _ (by exact darkAllChannels_dark s)) (dropCalJobs_eff _) rfl rfl rfl

theorem cartReported_cart (s : State) : (cartReported s).cart = (cartTaken s).cart := by
  rw [cartReported, (coverFault_eff _ _ _).cart_eq rfl, report_cart]

theorem cartTaken_cart (s : State) :
    (cartTaken s).cart =
      { s.cart with present := false, qualified := false, step := .idle, uncalibrated := false, fails := 0, retryDue := false
                    expiredDue := false, lastTemp := none, hasQualified := false, history := cartHistory s
                    retry := !cartChatters s && !s.cart.chatter } := by
  rw [cartTaken, removeCart_cart]
  rfl

/-- The latch of a chattering cartridge changes its chatter and its timer alone. -/
theorem cartChatterLatched_keeps {β : Type} (g : Cart → β) (hg : ∀ c, g { c with chatter := true, retry := false } = g c) (s t : State) :
    g (cartChatterLatched s t).cart = g t.cart := by
  unfold cartChatterLatched
  split
  · rw [report_cart, hg]
  · rfl

theorem removal_keeps {β : Type} (g : Cart → β) (hg : ∀ c, g { c with chatter := true, retry := false } = g c) (s : State) :
    g (cartChatterLatched s (cartReported s)).cart = g (cartTaken s).cart := by
  rw [cartChatterLatched_keeps g hg, cartReported_cart]

/-- 04 R87: a removal that chatters is latched, and no timer runs. -/
theorem removal_chatters (hc : cartChatters s = true) :
    (cartChatterLatched s (cartReported s)).cart.chatter = true ∧ (cartChatterLatched s (cartReported s)).cart.retry = false := by
  unfold cartChatterLatched
  split
  · rw [report_cart]
    exact ⟨rfl, rfl⟩
  next h =>
    have latched : (cartReported s).cart.chatter = true := by simpa [hc] using h
    refine ⟨latched, ?_⟩
    rw [cartReported_cart]
    simp [cartTaken, hc]

theorem guidePresent_unqualified (h : s.cart.qualified = false) : guidePresent s = false := by
  simp [guidePresent, guideAllowed, h]

theorem cartRemoved_darkens {d : Bool} (hr : running s = true) (hp : s.cart.present = true) (hu : cartUnread s = false)
    (hd : d = true ∨ 2 ≤ s.aon.cartOob) :
    ∃ t, exec (.cartRemoved d) s = .next t ∧ t.cart.present = false ∧ t.cart.qualified = false ∧ t.cart.step = .idle ∧
      t.cart.uncalibrated = false ∧ t.cart.fails = 0 ∧ t.cart.lastTemp = none ∧ Dark t ∧
      (∀ p, ((portOf s p).coilZ = 0 → coilsShorted t p = true) ∧ (portOf t p).raster = false) ∧
      guidePresent t = false ∧ t.lamp = s.lamp ∧ (cartChatters s = true → t.cart.chatter = true ∧ t.cart.retry = false) := by
  have behind := removal_eff s
  have removed := (darkAllChannels_eff s).mono (l := [.cart, .codec, .pens, .portA, .portB, .emit, .beacon]) rfl |>.trans
    (removeCart_eff _)
  have unqualified : (cartChatterLatched s (cartReported s)).cart.qualified = false := by
    rw [removal_keeps Cart.qualified fun _ => rfl, cartTaken_cart]
  refine ⟨_, exec_cartRemoved hr hp hu hd, ?_, unqualified, ?_, ?_, ?_, ?_, dark_of_eff (removeCart_dark s) behind rfl rfl rfl, fun p => ?_,
    guidePresent_unqualified unqualified, (behind.lamp_eq rfl).trans (removed.lamp_eq rfl), removal_chatters⟩
  · rw [removal_keeps Cart.present fun _ => rfl, cartTaken_cart]
  · rw [removal_keeps Cart.step fun _ => rfl, cartTaken_cart]
  · rw [removal_keeps Cart.uncalibrated fun _ => rfl, cartTaken_cart]
  · rw [removal_keeps Cart.fails fun _ => rfl, cartTaken_cart]
  · rw [removal_keeps Cart.lastTemp fun _ => rfl, cartTaken_cart]
  · obtain ⟨coasted, coilZ⟩ := removeCart_coasted (darkAllChannels s) p
    have supply := (behind.supply_eq rfl).trans (removed.supply_eq rfl)
    obtain ⟨shorted, raster, -⟩ := coasted_outputs (s := s) (coasted.of_eff behind rfl rfl) (by rw [supply, vin_of_running hr])
      ((congrArg PortState.coilZ (portOf_of_eff behind rfl rfl p)).trans (coilZ.trans (by cases p <;> rfl)))
    exact ⟨shorted, raster⟩

/-! Presence and the retry timer (04 R82, 07 R178). -/

theorem exec_cartPresenceNoted (hr : running s = true) (hu : cartUnread s = false) (hp : s.cart.present = false)
    (ha : s.aon.cartAgree.isSome = true) :
    exec .cartPresenceNoted s = .next
      (if s.cart.retry || s.cart.retryDue || s.cart.expiredDue then { s with cart := { s.cart with present := true } }
        else startRetry { s with cart := { s.cart with present := true } }) :=
  guarded_of (by simp [hr, hu, hp, ha]) _ _

/-- 04 R82: the timer starts where none runs or waits, unless the cartridge chatters. -/
theorem cartPresenceNoted_retry (s : State) :
    (if s.cart.retry || s.cart.retryDue || s.cart.expiredDue then { s with cart := { s.cart with present := true } }
        else startRetry { s with cart := { s.cart with present := true } }) =
      { s with cart := { s.cart with
          present := true
          retry := s.cart.retry || (!s.cart.retryDue && !s.cart.expiredDue && !s.cart.chatter) } } := by
  split
  next h =>
    have kept : (s.cart.retry || (!s.cart.retryDue && !s.cart.expiredDue && !s.cart.chatter)) = s.cart.retry := by
      simp only [Bool.or_eq_true] at h
      obtain (h | h) | h := h <;> simp [h]
    rw [kept]
  next h =>
    simp only [Bool.or_eq_true, not_or, Bool.not_eq_true] at h
    obtain ⟨⟨retry, retryDue⟩, expiredDue⟩ := h
    cases hc : s.cart.chatter <;> simp [startRetry, retry, retryDue, expiredDue, hc]

theorem exec_cartRetryExpired (hs : serving s = true) (ht : s.cart.retry = true) :
    exec .cartRetryExpired s = .next
      (if s.pins.abortLow then { s with cart := { s.cart with retry := false, expiredDue := true } } else retryEnds s) :=
  guarded_of (by simp [hs, ht]) _ _

/-- 04 R83: the timer's end begins a qualification of a cartridge that may qualify. -/
theorem retryEnds_begins (hp : s.cart.present = true) (hq : mayQualify s = true) :
    retryEnds s = beginQual { s with cart := { s.cart with retry := false, expiredDue := false } } :=
  if_pos (Bool.and_eq_true_iff.mpr ⟨hp, hq⟩)

theorem retryEnds_stops (h : s.cart.present = false ∨ mayQualify s = false) :
    retryEnds s = { s with cart := { s.cart with retry := false, expiredDue := false } } :=
  if_neg fun k => by
    obtain ⟨present, qualifies⟩ := Bool.and_eq_true_iff.mp k
    rcases h with h | h
    · exact absurd present (by simp [h])
    · exact absurd qualifies (by rw [Bool.not_eq_true]; exact h)

/-- Settles O23: the removal, the presence, and the three ends of the retry timer. That a removal clears the latest temperature is also
log 121. -/
theorem cartridgeComesAndGoes : Obligations.CartridgeComesAndGoes := by
  refine ⟨fun d s hr hp hu hd => ?_, fun s hr hu hp ha => ?_, fun s hs ht => ⟨fun ha => ?_, fun ha hp hq => ?_, fun ha h => ?_⟩⟩
  · obtain ⟨t, ht, present, qualified, step, uncalibrated, fails, lastTemp, dark, ports, guide, lamp, chatter⟩ :=
      cartRemoved_darkens hr hp hu hd
    exact ⟨t, ht, present, qualified, step, uncalibrated, fails, lastTemp, dark, ports, guide, lamp,
      fun h => chatter (decide_eq_true h)⟩
  · rw [exec_cartPresenceNoted hr hu hp ha, cartPresenceNoted_retry]
  · rw [exec_cartRetryExpired hs ht, if_pos ha]
  · refine ⟨_, exec_cartRetryExpired hs ht, ?_⟩
    rw [if_neg (by simp [ha]), retryEnds_begins hp hq]
    exact ⟨rfl, rfl, rfl, hp, rfl⟩
  · rw [exec_cartRetryExpired hs ht, if_neg (by simp [ha]), retryEnds_stops h]

/-! A failed qualification (04 R86). -/

/-- What follows a failed step's coasting: its jobs, its report and its timer. -/
theorem failQual_behind (counted : Bool) (s : State) :
    Eff [.cart, .codec, .pens, .beacon] (coastBoth (qualEnded counted s)) (failQual counted s) := by
  have reported : Eff [.cart, .codec, .pens, .beacon] (coastBoth (qualEnded counted s)) (qualReported counted s) :=
    ((dropCalJobs_eff _).mono rfl).comp (report_eff _ _ _ _) rfl
  rcases failQual_cases counted s with h | h <;> rw [h]
  · exact reported.comp (startRetry_eff _) rfl
  · exact reported

/-- The timer that may start behind a failed step is all that it changes in the cartridge. -/
theorem failQual_keeps {β : Type} (g : Cart → β) (hg : ∀ c, g { c with retry := true } = g c) (counted : Bool) (s : State) :
    g (failQual counted s).cart = g (qualEnded counted s).cart := by
  have started : ∀ t, g (startRetry t).cart = g t.cart := fun t => by
    unfold startRetry
    split
    · rfl
    · exact hg _
  rcases failQual_cases counted s with h | h <;> rw [h]
  · rw [started, qualReported_cart]
  · rw [qualReported_cart]

/-- 04 R86: a failed step shorts both ports' coils and closes their gates. -/
theorem failQual_coasts (hv : s.supply.vin = true) (counted : Bool) (p : Port) :
    ((portOf s p).coilZ = 0 → coilsShorted (failQual counted s) p = true) ∧ (portOf (failQual counted s) p).wheel.gate = false := by
  have behind := failQual_behind counted s
  have coilZ : (portOf (failQual counted s) p).coilZ = (portOf s p).coilZ := by
    rw [portOf_of_eff behind rfl rfl, coastBoth_coilZ]
    cases p <;> rfl
  obtain ⟨shorted, -, gate, -⟩ := coasted_outputs ((coastBoth_coasted (qualEnded counted s) p).of_eff behind rfl rfl)
    (by rw [(failQual_eff counted s).supply_eq rfl, hv]) coilZ
  exact ⟨shorted, gate⟩

/-! A mirror fault at a restart (12 R293). -/

theorem coastPort_faultCount (p : Port) (s : State) : (portOf (coastPort p s) p).faultCount = (portOf s p).faultCount := by
  unfold coastPort
  rw [stopped_port]
  cases p <;> split <;> rfl

/-- A mirror fault that is counted leaves the port coasting as it was. -/
theorem countMirrorFault_port (p : Port) (s : State) :
    (portOf (countMirrorFault p s) p).faultCount = satInc (portOf s p).faultCount ∧ (portOf (countMirrorFault p s) p).down = true ∧
      (portOf (countMirrorFault p s) p).coilZ = (portOf s p).coilZ ∧ (Coasted s p → Coasted (countMirrorFault p s) p) := by
  unfold countMirrorFault
  dsimp only
  split
  · rw [portOf_of_eff (report_eff _ _ _ _) rfl rfl, portOf_updPort]
    refine ⟨rfl, rfl, rfl, fun h => Coasted.of_eff (s := updPort s p _) ?_ (report_eff _ _ _ _) rfl rfl⟩
    unfold Coasted at *
    rwa [portOf_updPort]
  · rw [portOf_updPort]
    refine ⟨rfl, rfl, rfl, fun h => ?_⟩
    unfold Coasted at *
    rwa [portOf_updPort]

/-! The photodiode cross-check (04 R83, R85). -/

variable {r : CrossCheck}

/-- The cross-check is due and nothing makes it wait (16 R391). -/
theorem crossCheck_taken (hs : serving s = true) (hd : crossDue s p = true) (hk : s.pins.killLow = false) (hc : s.safety.causes = []) :
    (serving s && crossDue s p && !s.pins.killLow && s.safety.causes.isEmpty) = true := by
  simp [hs, hd, hk, hc]

theorem exec_pdCrossCheck_passes (hok : (serving s && crossDue s p && !s.pins.killLow && s.safety.causes.isEmpty) = true) {v : Serving}
    (hv : (crossResult s p r).bind (meetServing s.cart.pd) = some v) :
    exec (.pdCrossCheck p r) s =
      .next (updPort { s with cart := { s.cart with pd := v } } p fun q => { q with checkPassed := true }) :=
  (guarded_of hok _ _).trans (congrArg _ (by rw [hv]))

theorem exec_pdCrossCheck_fails (hok : (serving s && crossDue s p && !s.pins.killLow && s.safety.causes.isEmpty) = true)
    (hv : (crossResult s p r).bind (meetServing s.cart.pd) = none) :
    exec (.pdCrossCheck p r) s =
      .next (if (portOf s p).restarting then takeover true (countMirrorFault p (coastPort p s))
        else failQual true (setStep .photodiodes s)) :=
  (guarded_of hok _ _).trans (congrArg _ (by rw [hv]))

theorem vin_of_serving (h : serving s = true) : s.supply.vin = true := by
  simp only [serving, sysRuns, Bool.and_eq_true] at h
  obtain ⟨⟨⟨runs, -⟩, -⟩, -⟩ := h
  exact vin_of_running runs

/-- 12 R293: a restarting port that fails its cross-check is down, with a fault counted. -/
theorem restart_fails (hv : s.supply.vin = true) (p : Port) :
    let t := takeover true (countMirrorFault p (coastPort p s))
    (portOf t p).faultCount = satInc (portOf s p).faultCount ∧ (portOf t p).down = true ∧
      ((portOf s p).coilZ = 0 → coilsShorted t p = true) ∧ (portOf t p).wheel.gate = false ∧ t.cart = s.cart := by
  intro t
  have behind : Eff [.emit, .beacon] (countMirrorFault p (coastPort p s)) t := takeover_eff _ _
  have whole : Eff [.pens, .portA, .portB, .emit, .beacon] s t :=
    ((coastPort_eff p s).comp (countMirrorFault_eff _ _) rfl).comp behind rfl
  obtain ⟨faults, down, coilZ, coasts⟩ := countMirrorFault_port p (coastPort p s)
  obtain ⟨shorted, -, gate, -⟩ := coasted_outputs (s := s) ((coasts (coastPort_coasted p s)).of_eff behind rfl rfl)
    (by rw [whole.supply_eq rfl, hv]) (by rw [portOf_of_eff behind rfl rfl, coilZ, coastPort_coilZ])
  refine ⟨?_, ?_, shorted, gate, whole.cart_eq rfl⟩
  · rw [portOf_of_eff behind rfl rfl, faults, coastPort_faultCount]
  · rw [portOf_of_eff behind rfl rfl, down]

/-- Settles O24: the check that passes, the one that ends the qualification, and the one that a restarting port fails. -/
theorem crossCheckDecides : Obligations.CrossCheckDecides := by
  intro p r s hs hd hk hc
  have taken := crossCheck_taken hs hd hk hc
  have vin := vin_of_serving hs
  refine ⟨fun v hv => ⟨_, exec_pdCrossCheck_passes taken hv, ?_, ?_, fun q hq => ?_, ?_, ?_⟩, fun hv hr => ?_, fun hv hr => ?_⟩
  · rw [portOf_updPort]
    cases p <;> rfl
  · rw [updPort_cart]
  · rw [portOf_updPort_other _ hq]
    cases q <;> rfl
  · rw [updPort_emit]
  · rw [updPort_beacon]
  · obtain ⟨step, qualified, fails⟩ := failQual_cart (setStep .photodiodes s)
    refine ⟨_, exec_pdCrossCheck_fails taken hv, ?_⟩
    rw [if_neg (by simp [hr])]
    refine ⟨qualified, step, fails, failQual_keeps Cart.reached (fun _ => rfl) _ _, fun ht => ?_, fun q => ?_⟩
    · exact (failQual_keeps Cart.failedLatch (fun _ => rfl) _ _).trans 
        (Bool.or_eq_true_iff.mpr (.inr (Bool.and_eq_true_iff.mpr ⟨rfl, decide_eq_true ht⟩)))
    · obtain ⟨shorted, gate⟩ := failQual_coasts (s := setStep .photodiodes s) vin true q
      exact ⟨fun h0 => shorted (by cases q <;> exact h0), gate⟩
  · refine ⟨_, exec_pdCrossCheck_fails taken hv, ?_⟩
    rw [if_pos hr]
    exact restart_fails vin p

end Sys2Proof.Proofs
end

section
/-! SUPPORT. The keeper (04 R77, R78, 05 R110): what leaves the domains alone, heartbeats, resets and restarts, and O25. -/

namespace Sys2Proof.Proofs

open Sys2Proof Machine Laws

variable {s t u : State} {d e : Domain}

/-! The domains stay as they are. -/

/-- An operation from s to t leaves the state of every domain alone. -/
def KeepsDomains (s t : State) : Prop := t.keeper.domains = s.keeper.domains

namespace KeepsDomains

theorem domainOf_eq (h : KeepsDomains s t) (d : Domain) : domainOf t d = domainOf s d := by
  rw [Machine.domainOf, h, Machine.domainOf]

theorem refl (s : State) : KeepsDomains s s := rfl

/-- One operation behind others. -/
theorem after (k : KeepsDomains t u) (h : KeepsDomains s t) : KeepsDomains s u := Eq.trans k h

/-- An operation that leaves the keeper alone, behind others. -/
theorem after_eff {l : List Part} (k : Eff l t u) (hl : l.contains .keeper = false) (h : KeepsDomains s t) : KeepsDomains s u :=
  .trans (congrArg Keeper.domains (k.keeper_eq hl)) h

theorem of_eff {l : List Part} (h : Eff l s t) (hl : l.contains .keeper = false) : KeepsDomains s t := after_eff h hl rfl

theorem set_mem (h : KeepsDomains s t) (a : MemPort) : KeepsDomains s { t with mem := a } := h

theorem set_engine (h : KeepsDomains s t) (a : Engine) : KeepsDomains s { t with engine := a } := h

theorem ite {c : Prop} [Decidable c] (h : KeepsDomains s t) (k : KeepsDomains s u) : KeepsDomains s (if c then t else u) :=
  ite_pred h k

theorem foldl {α : Type} {f : State → α → State} (hf : ∀ t x, KeepsDomains t (f t x)) (xs : List α) (s : State) :
    KeepsDomains s (xs.foldl f s) :=
  List.foldlRecOn (motive := KeepsDomains s) xs f (refl s) fun t ht x _ => (hf t x).after ht

end KeepsDomains

/-! Recovery intervals (04 R93, 06 R126). -/

theorem coverFault_domains (frames subject : Nat) (s : State) : KeepsDomains s (coverFault frames subject s) :=
  .ite (.after_eff (report_eff _ _ _ _) rfl rfl) rfl

theorem coverRead_domains (frames : Nat) (s : State) : KeepsDomains s (coverRead frames s) :=
  .ite (.after_eff (report_eff _ _ _ _) rfl rfl) rfl

/-! The end of a selection (06 R138): a configuration may go live. -/

theorem switchRef_domains (r : RefSource) (s : State) : (switchRef r s).keeper.domains = s.keeper.domains := coverFault_domains 10 255 _

theorem startClock_domains (s : State) : KeepsDomains s (startClock s) := by
  unfold startClock KeepsDomains
  dsimp only
  split_ifs <;> simp only [switchRef_domains, report_keeper]

theorem goLive_domains (b : Binding) (s : State) : KeepsDomains s (goLive b s) := by
  refine .after_eff (startCartridge_eff _) rfl (.after (startClock_domains _) ?_)
  refine .after_eff (packLimit_eff _) rfl (.after_eff (assignChannels_eff _) rfl ?_)
  exact .after_eff (fitReserve_eff _) rfl (.after_eff (followVertical_eff _ _) rfl rfl)

theorem endSelection_domains (c : Option Settings) (twin : Bool) (s : State) : KeepsDomains s (endSelection c twin s) := by
  refine .ite ?_ (.after (goLive_domains _ _) rfl)
  cases c with
  | none => rfl
  | some k => exact .after_eff (stitchFound_eff _ _) rfl rfl

theorem searchEntry_domains (n : Nat) (s : State) : KeepsDomains s (searchEntry n s) :=
  .ite (.after (endSelection_domains _ _ _) (.after_eff (reportEmpty_eff _) rfl rfl)) (.after_eff (askReads_eff _ _) rfl rfl)

theorem spinesRead_domains (s : State) : KeepsDomains s (spinesRead s) := by
  unfold spinesRead
  split
  · exact endSelection_domains _ _ _
  next sp _ =>
    have raised : KeepsDomains s (if s.binding.reader.stitch then s else raiseMode sp s) := .ite rfl (.of_eff (raiseMode_eff _ _) rfl)
    have begun := KeepsDomains.after_eff (updReader_eff (fun r => { r with firstReason := 0 }) _) rfl raised
    exact .ite (.after (searchEntry_domains _ _) begun)
      (.ite (.after (searchEntry_domains _ _) (.after_eff (reportEmpty_eff _) rfl begun)) (.after (searchEntry_domains _ _) begun))

theorem examine_domains (l : List Copy) : ∀ s : State, KeepsDomains s (examine l s) := by
  induction l with
  | nil => exact fun s => .ite (endSelection_domains _ _ _) (searchEntry_domains _ _)
  | cons c l ih =>
    exact fun s => .ite (.after_eff (askReads_eff _ _) rfl rfl) (.after (ih _) (.of_eff (rejectCopy_eff _ _ _) rfl))

theorem directoryRead_domains (c : Copy) (data : Option (List Byte)) (s : State) : KeepsDomains s (directoryRead c data s) :=
  .ite (.ite (.after_eff (askReads_eff _ _) rfl rfl) (endSelection_domains _ _ _))
    (.after (examine_domains _ _) (.of_eff (rejectCopy_eff _ _ _) rfl))

/-! Reads that fail (06 R121). -/

theorem finishRead_none_domains (m : MemItem) (s : State) : KeepsDomains s (finishRead m none s) := by
  cases m with
  | spine c =>
    have lost : ∀ u : State, KeepsDomains s u → KeepsDomains s (if c == copyPref s then u else spinesRead u) := fun u h =>
      .ite h (.after (spinesRead_domains u) h)
    exact lost _ (by cases c <;> exact .after_eff (report_eff _ _ _ _) rfl rfl)
  | header c =>
    have lost : ∀ u : State, KeepsDomains s u → KeepsDomains s (if c == copyPref s then u else examine (copyOrder u) u) := fun u h =>
      .ite h (.after (examine_domains _ u) h)
    exact lost _ (by cases c <;> rfl)
  | directory c => exact directoryRead_domains _ _ _
  | twinColophon c =>
    unfold finishRead
    dsimp only
    split
    · rfl
    · exact endSelection_domains _ _ _
  | leafHeader i => exact .after_eff (validateReads_eff _) rfl (.of_eff (looseFailed_eff _ _ _) rfl)
  | calBlock code => exact .after_eff (validateReads_eff _) rfl (.of_eff (looseFailed_eff _ _ _) rfl)
  | twinCheck c => exact .of_eff (twinRead_eff _ _ _) rfl
  | shadowFolio => exact .of_eff (shadowFolioRead_eff none s) rfl

theorem endRead_none_domains (s : State) : KeepsDomains s (endRead none s) := by
  unfold endRead
  split
  · rfl
  · exact .after_eff (pumpReads_eff _) rfl (.after (finishRead_none_domains _ _) rfl)

theorem readFails_domains (reason : Nat) (j : Job) (s : State) : KeepsDomains s (readFails reason j s) := by
  have covered : KeepsDomains s (if j.repeats = 0 && !j.fromTwin && twinNow s && !j.shadow then coverRead (readRecovery s) s else s) :=
    .ite (coverRead_domains _ _) rfl
  have lost := fun r => KeepsDomains.after_eff (readLost_eff r j _) rfl covered
  unfold readFails
  dsimp only
  refine .ite (lost _) (.ite (.after_eff (rerun_eff _ _) rfl covered) (.ite (.after_eff (pumpReads_eff _) rfl (.set_mem ?_ _)) (lost _)))
  exact .after_eff (rerun_eff _ _) rfl covered

theorem failReads_domains (s : State) : KeepsDomains s (failReads s) := by
  unfold failReads failJobRead
  split
  · exact .ite (.after (readFails_domains _ _ _) (endRead_none_domains s)) (endRead_none_domains s)
  · exact endRead_none_domains s

/-! What a reset does at once (04 Table 4-2). -/

theorem breakLocks_domains (hit : LockState → Bool) (s : State) : KeepsDomains s (breakLocks hit s) := by
  refine .foldl (fun t k => ?_) _ s
  unfold breakLock
  split
  · rfl
  · dsimp only
    exact .after (coverFault_domains _ _ _) (.after_eff (report_eff _ _ _ _) rfl rfl)

theorem loseLane_domains (l : Lane) (s : State) : KeepsDomains s (loseLane l s) := by
  have broken := breakLocks_domains (fun k => k.master == 6 && k.lane == l) s
  unfold loseLane laneTakeover
  dsimp only
  refine .ite (.ite (.after (coverFault_domains _ _ _) ?_) broken) (.set_engine broken _)
  exact .after_eff (report_eff _ _ _ _) rfl (.set_engine broken _)

theorem updWheel_domains (s : State) (p : Port) (f : Wheel → Wheel) : KeepsDomains s (updWheel s p f) :=
  congrArg Keeper.domains (updWheel_keeper s p f)

theorem domainEffect_domains (d : Domain) (s : State) : KeepsDomains s (domainEffect d s) := by
  have closed : KeepsDomains s (closeGates s) := .of_eff (closeGates_eff s) rfl
  unfold domainEffect
  dsimp only
  cases d with
  | edge => exact .after (updWheel_domains _ _ _) (.after (updWheel_domains _ _ _) closed)
  | sys =>
    have dropped : KeepsDomains s (dropFilling (closeGates s)) := .after_eff (dropFilling_eff _) rfl closed
    refine .after (updWheel_domains _ _ _) (.after (updWheel_domains _ _ _) (.after_eff (restartMatrix_eff _) rfl ?_))
    refine .after (breakLocks_domains _ _) (.after_eff (rollback_eff _ _) rfl (.after_eff (dropAllJobs_eff _) rfl ?_))
    exact .after (t := dropFilling (closeGates s)) rfl dropped
  | mem => exact failReads_domains s
  | cvs => exact .of_eff (discardFrame_eff _ _) rfl
  | mirA | mirB => exact .of_eff (portStops_eff _ _) rfl
  | lamp => rfl
  | loopA | loopB => exact loseLane_domains _ s

/-! Domain resets (04 R77, R78). -/

/-- The resets of a domain within 10 s, with that of the moment. -/
def resetHistory (d : Domain) (s : State) : List Nat := s.keeper.ticks :: recent 10000 s.keeper.ticks (domainOf s d).resets

/-- A domain that is reset. -/
def resetMark (d : Domain) (s : State) (q : DomainState) : DomainState :=
  { q with held := true, stale := 0, resets := resetHistory d s }

theorem quarantineEffect_domains (d : Domain) (s : State) :
    KeepsDomains (updDomain s d fun q => { q with quarantined := true }) (quarantineEffect d s) := by
  unfold quarantineEffect
  have reported : ∀ v : State, KeepsDomains v (report evDomainQuarantined 0 (domainNum d) v) := fun v => .of_eff (report_eff _ _ _ _) rfl
  dsimp only
  split
  · exact .after_eff (halt_eff _) rfl (reported _)
  · exact .after_eff (memQuarantined_eff _) rfl (reported _)
  · exact .after_eff (portQuarantined_eff _ _) rfl (reported _)
  · exact .after_eff (portQuarantined_eff _ _) rfl (reported _)
  · exact reported _

/-- A reset of a domain, before it may be quarantined. -/
def domainReset (d : Domain) (s : State) : State :=
  let r := if d == .sys then { s with beacon := { s.beacon with frozen := some (resetFieldsNow s) } } else s
  let e := domainEffect d (report evDomainReset 0 (domainNum d) (setRecovery none none (updDomain r d (resetMark d s))))
  let v := coverFault (domainRecovery s d) (domainNum d) (setRecovery s.keeper.recovery s.keeper.readRecovery e)
  setRecovery (laterEnd v.keeper.recovery e.keeper.recovery) (laterEnd v.keeper.readRecovery e.keeper.readRecovery) v

theorem resetDomain_eq (d : Domain) (s : State) :
    resetDomain d s = if 3 ≤ (resetHistory d s).length then quarantineEffect d (domainReset d s) else domainReset d s := rfl

theorem setRecovery_domains (r q : Option Nat) (s : State) : KeepsDomains s (setRecovery r q s) := rfl

theorem updDomain_domains (h : KeepsDomains s t) (d : Domain) (f : DomainState → DomainState) :
    KeepsDomains (updDomain s d f) (updDomain t d f) := congrArg (modAt · (domainNum d) f) h

/-- All that a reset does besides leaves the domains with its mark. -/
theorem domainReset_domains (d : Domain) (s : State) : KeepsDomains (updDomain s d (resetMark d s)) (domainReset d s) := by
  have frozen : KeepsDomains s (if d == .sys then { s with beacon := { s.beacon with frozen := some (resetFieldsNow s) } } else s) :=
    .ite rfl rfl
  refine .after (setRecovery_domains _ _ _) (.after (coverFault_domains _ _ _) (.after (setRecovery_domains _ _ _) ?_))
  refine .after (domainEffect_domains _ _) (.after_eff (report_eff _ _ _ _) rfl (.after (setRecovery_domains _ _ _) ?_))
  exact updDomain_domains frozen d _

/-- 04 R78: the third reset within 10 s quarantines the domain. -/
theorem domainOf_resetDomain (hl : s.keeper.domains.length = 9) (d : Domain) :
    domainOf (resetDomain d s) d =
      if 3 ≤ (resetHistory d s).length then { resetMark d s (domainOf s d) with quarantined := true } else resetMark d s (domainOf s d) := by
  have reset := domainReset_domains d s
  have marked := (reset.domainOf_eq d).trans (domainOf_upd s d _ hl)
  rw [resetDomain_eq]
  split
  · rw [(quarantineEffect_domains d _).domainOf_eq, domainOf_upd _ _ _ (by rw [reset, updDomain_length, hl]), marked]
  · exact marked

theorem domainOf_resetDomain_other (h : e ≠ d) (s : State) : domainOf (resetDomain d s) e = domainOf s e := by
  have marked := ((domainReset_domains d s).domainOf_eq e).trans (domainOf_upd_other s _ h)
  rw [resetDomain_eq]
  split
  · rw [(quarantineEffect_domains d _).domainOf_eq, domainOf_upd_other _ _ h, marked]
  · exact marked

theorem exec_pllLockLost (hr : running s = true) (hp : s.core.plls = true) (hh : s.core.halted = false) (hd : pllDomain d = true)
    (hn : domainHeld s d = false) : exec (.pllLockLost d) s = .next (resetDomain d s) :=
  guarded_of (by simp [hr, hp, hh, hd, hn]) _ _

theorem not_quarantined (h : domainHeld s d = false) : (domainOf s d).quarantined = false := by
  obtain ⟨-, quarantined⟩ := Bool.or_eq_false_iff.mp h
  exact quarantined

theorem pllLockLost_resets (hr : running s = true) (hp : s.core.plls = true) (hh : s.core.halted = false) (hd : pllDomain d = true)
    (hn : domainHeld s d = false) (hl : s.keeper.domains.length = 9) :
    ∃ t, exec (.pllLockLost d) s = .next t ∧ (domainOf t d).held = true ∧ (domainOf t d).resets = resetHistory d s ∧
      ((domainOf t d).quarantined = true ↔ 3 ≤ (domainOf t d).resets.length) ∧ ∀ e, e ≠ d → domainOf t e = domainOf s e := by
  refine ⟨_, exec_pllLockLost hr hp hh hd hn, ?_⟩
  rw [domainOf_resetDomain hl]
  split
  next h => exact ⟨rfl, rfl, ⟨fun _ => h, fun _ => rfl⟩, fun e he => domainOf_resetDomain_other he s⟩
  next h =>
    have serves : (resetMark d s (domainOf s d)).quarantined = false := not_quarantined hn
    exact ⟨rfl, rfl, ⟨fun k => absurd (serves.symm.trans k) (by decide), fun k => absurd k h⟩,
      fun e he => domainOf_resetDomain_other he s⟩

/-! Heartbeats (04 R77). -/

/-- A domain whose heartbeat has advanced. -/
def advanced (beats : List Nat) (d : Domain) (q : DomainState) : DomainState := { q with beat := nth beats (domainNum d) % 16, stale := 0 }

/-- The domains of a list advance. -/
def advanceAll (beats : List Nat) (l : List Domain) (s : State) : State := l.foldl (fun t d => updDomain t d (advanced beats d)) s

theorem sampleDomain_advanced {beats : List Nat} {cvs : Bool} (h : nth beats (domainNum d) % 16 ≠ (domainOf s d).beat) :
    sampleDomain beats cvs s d = updDomain s d (advanced beats d) :=
  if_pos (by simp [h])

/-- No sample of a domain is seen in another's heartbeat, so that all of them advance. -/
theorem samples_advanced {beats : List Nat} {cvs : Bool} {l : List Domain} (hl : l.Nodup) :
    ∀ {s : State}, (∀ d ∈ l, nth beats (domainNum d) % 16 ≠ (domainOf s d).beat) →
      l.foldl (sampleDomain beats cvs) s = advanceAll beats l s := by
  induction l with
  | nil => exact fun _ => rfl
  | cons d l ih =>
    intro s h
    obtain ⟨hd, hl⟩ := List.nodup_cons.mp hl
    rw [List.foldl_cons, sampleDomain_advanced (h d List.mem_cons_self)]
    refine ih hl fun e he => ?_
    rw [domainOf_upd_other s _ fun k => hd (by rwa [← k])]
    exact h e (List.mem_cons_of_mem _ he)

theorem advanceAll_other {beats : List Nat} {l : List Domain} (h : d ∉ l) : ∀ s : State, domainOf (advanceAll beats l s) d = domainOf s d := by
  induction l with
  | nil => exact fun _ => rfl
  | cons e l ih =>
    intro s
    obtain ⟨he, hl⟩ := not_or.mp (mt List.mem_cons.mpr h)
    exact (ih hl _).trans (domainOf_upd_other s _ he)

theorem domainOf_advanceAll {beats : List Nat} {l : List Domain} (hl : l.Nodup) (hd : d ∈ l) :
    ∀ {s : State}, s.keeper.domains.length = 9 → domainOf (advanceAll beats l s) d = advanced beats d (domainOf s d) := by
  induction l with
  | nil => exact absurd hd List.not_mem_nil
  | cons e l ih =>
    intro s hs
    obtain ⟨he, hl⟩ := List.nodup_cons.mp hl
    rcases List.mem_cons.mp hd with rfl | hd
    · exact (advanceAll_other he _).trans (domainOf_upd s d _ hs)
    · refine (ih hl hd (by rw [updDomain_length, hs])).trans ?_
      rw [domainOf_upd_other s _ fun k => he (by rwa [← k])]

/-- Nothing but the domains' states changes. -/
theorem advanceAll_domains (beats : List Nat) (l : List Domain) (s : State) :
    ∃ ds, advanceAll beats l s = { s with keeper := { s.keeper with domains := ds } } :=
  List.foldlRecOn (motive := fun t => ∃ ds, t = { s with keeper := { s.keeper with domains := ds } }) l _ ⟨_, rfl⟩ fun t ht d _ => by
    obtain ⟨ds, rfl⟩ := ht
    exact ⟨_, rfl⟩

theorem allDomains_nodup : allDomains.Nodup := by decide

theorem mem_allDomains (d : Domain) : d ∈ allDomains := by cases d <;> decide

theorem exec_keeperHeartbeatSample {beats : List Nat} {cvs : Bool} (hr : running s = true) (hp : s.core.plls = true)
    (hh : s.core.halted = false) (h : ∀ d, nth beats (domainNum d) % 16 ≠ (domainOf s d).beat) :
    exec (.keeperHeartbeatSample beats cvs) s = .next (advanceAll beats allDomains s) := by
  rw [← samples_advanced (cvs := cvs) allDomains_nodup fun d _ => h d]
  exact guarded_of (by simp [hr, hp, hh]) _ _

/-! Restarts (04 R77). -/

theorem exec_domainRestart (hr : running s = true) (hh : s.core.halted = false) (hd : (domainOf s d).held = true)
    (hq : (domainOf s d).quarantined = false) :
    exec (.domainRestart d) s = .next (restartEffect d (updDomain s d fun q => { q with held := false, stale := 0 })) :=
  guarded_of (by simp [hr, hh, hd, hq]) _ _

/-- Settles O25: a sample without a stale heartbeat, the reset that a lost lock is, and the restart. -/
theorem domainsAreWatchedAndReset : Obligations.DomainsAreWatchedAndReset := by
  refine ⟨fun beats cvs s hr hp hh hl h => ?_, fun d s hr hp hh hd hn hl => pllLockLost_resets hr hp hh hd hn hl,
    fun d s hr hh hd hq hl => ?_⟩
  · refine ⟨_, exec_keeperHeartbeatSample hr hp hh h, fun d => domainOf_advanceAll allDomains_nodup (mem_allDomains d) hl, ?_⟩
    obtain ⟨ds, hds⟩ := advanceAll_domains beats allDomains s
    rw [hds]
  · have resumed : ∀ u : State, KeepsDomains u (restartEffect d u) := fun u => .of_eff (restartEffect_eff d u) rfl
    refine ⟨_, exec_domainRestart hr hh hd hq, ?_, fun e he => ?_⟩
    · rw [(resumed _).domainOf_eq, domainOf_upd s d _ hl]
    · rw [(resumed _).domainOf_eq, domainOf_upd_other s _ he]

end Sys2Proof.Proofs
end

section
/-! SUPPORT. The schedule frame (04 R77, R93, 11 R272, 12 R292, 13 R297 to R299), and O51. -/

namespace Sys2Proof.Proofs

open Sys2Proof Machine Laws

variable {s : State} {p : Port} {i : FrameInputs}

/-- What each step of a fold leaves alone, the fold leaves alone. -/
theorem foldl_keeps {α β : Type} (g : State → β) {f : State → α → State} (hf : ∀ t x, g (f t x) = g t) (xs : List α) (s : State) :
    g (xs.foldl f s) = g s :=
  List.foldlRecOn (motive := fun t => g t = g s) xs f rfl fun t ht x _ => (hf t x).trans ht

/-- What a change of a port leaves alone in it, it leaves alone in every port. -/
theorem portOf_updPort_keeps {β : Type} (g : PortState → β) {f : PortState → PortState} (hf : ∀ q, g (f q) = g q) (s : State)
    (p r : Port) : g (portOf (updPort s p f) r) = g (portOf s r) := by
  by_cases h : r = p
  · rw [h, portOf_updPort, hf]
  · rw [portOf_updPort_other _ h]

/-! What a frame latches (13 R299). -/

/-- The engine without its slots and readings: what a frame latches beside them. -/
def latchView (e : Engine) : Engine := { e with slotsA := [], slotsB := [], readings := [], presetDue := false }

theorem latchView_setLane (l : Lane) (ks : List Slot) (s : State) : latchView (setLane l ks s).engine = latchView s.engine := by
  cases l <;> rfl

theorem latchView_upset (u : Lane × Nat × Int) (s : State) : latchView (upset u s).engine = latchView s.engine :=
  latchView_setLane _ _ _

theorem latchView_takePreset (s : State) : latchView (takePreset s).engine = latchView s.engine := by
  unfold takePreset
  split
  · exact latchView_setLane _ _ _
  · rfl

/-- 13 R325: the folios in force apply to the frame. -/
theorem latchView_takeFolios (s : State) :
    latchView (takeFolios s).engine = latchView { s.engine with fields := live s } := by
  unfold takeFolios
  dsimp only
  split
  · rfl
  · exact (latchView_setLane _ _ _).trans (latchView_setLane _ _ _)

/-- The engine once a frame has latched its inputs. -/
def latched (i : FrameInputs) (s : State) : Engine :=
  { s.engine with
    fields := live s, outOfRange := i.outOfRange, rt0 := i.rt0, rt1 := i.rt1
    grants := if i.capsArrived then s.yard.grants else s.engine.grants }

/-- The engine's inputs are taken, before the folios. -/
def inputsTaken (i : FrameInputs) (s : State) : State :=
  { s with engine :=
    { s.engine with
      readings := (i.readings.filterMap (portReading s)).foldl (takeReading (live s)) s.engine.readings
      outOfRange := i.outOfRange, rt0 := i.rt0, rt1 := i.rt1
      grants := if i.capsArrived then s.yard.grants else s.engine.grants } }

/-- The temperature of a cartridge that has qualified is kept. -/
def tempTaken (s : State) : State :=
  if s.cart.hasQualified then { s with cart := { s.cart with lastTemp := (cartTemp s).or s.cart.lastTemp } } else s

/-- The readings are taken, with the amplitudes and the temperature that they give. -/
def readingsTaken (i : FrameInputs) (s : State) : State := tempTaken (takeAmp .b (takeAmp .a (inputsTaken i s)))

theorem latchFrame_eq (i : FrameInputs) (s : State) :
    latchFrame i s = i.upsets.foldl (fun w x => upset x w) (takePreset (takeFolios (readingsTaken i s))) := rfl

theorem tempTaken_eff (s : State) : Eff [.cart] s (tempTaken s) :=
  Eff.ite (fun _ => Eff.set_cart (Eff.refl _ _) rfl) fun _ => Eff.refl _ _

theorem readingsTaken_eff (i : FrameInputs) (s : State) : Eff [.cart, .portA, .portB] (inputsTaken i s) (readingsTaken i s) :=
  (((takeAmp_eff _ _).trans (takeAmp_eff _ _)).mono rfl).comp (tempTaken_eff _) rfl

theorem latchFrame_engine (i : FrameInputs) (s : State) : latchView (latchFrame i s).engine = latchView (latched i s) := by
  rw [latchFrame_eq, foldl_keeps (fun u => latchView u.engine) fun u x => latchView_upset x u, latchView_takePreset,
    latchView_takeFolios, live, (readingsTaken_eff i s).engine_eq rfl, (readingsTaken_eff i s).binding_eq rfl]
  rfl

theorem takeAmp_coilZ (p r : Port) (s : State) : (portOf (takeAmp p s) r).coilZ = (portOf s r).coilZ := by
  unfold takeAmp
  split
  · split
    · exact portOf_updPort_keeps PortState.coilZ (by exact fun _ => rfl) _ _ _
    · rfl
  · rfl

theorem latchFrame_coilZ (i : FrameInputs) (s : State) (r : Port) : (portOf (latchFrame i s) r).coilZ = (portOf s r).coilZ := by
  have slots : Eff [.engine] (readingsTaken i s) (latchFrame i s) :=
    Eff.foldl (fun _ _ => upset_eff _ _) _ ((takeFolios_eff _).trans (takePreset_eff _))
  rw [portOf_of_eff slots rfl rfl, readingsTaken, portOf_of_eff (tempTaken_eff _) rfl rfl, takeAmp_coilZ, takeAmp_coilZ]
  cases r <;> rfl

/-! The delay lines (11 R272). -/

theorem delayFrame_lasers (cs : List (Nat × Bool)) (locked : Bool) (s : State) :
    (delayFrame cs locked s).emit.lasers = s.emit.lasers :=
  foldl_keeps (fun t => t.emit.lasers) (by exact fun _ _ => rfl) cs s

/-- The sixteenth comparison in a row that agrees moves its channel's trim. -/
theorem compareEdge_moves {c : Nat} {late : Bool} (hr : s.emit.trimRuns.getD c (false, 0) = (late, 15))
    (hc : c < s.emit.trims.length) : nth (compareEdge s (c, late)).emit.trims c =
      if late then nth s.emit.trims c - 1 else min 31 (nth s.emit.trims c + 1) := by
  simp only [compareEdge, hr, beq_self_eq_true, if_true, nth]
  exact getD_modAt hc _ _

/-! The frame until it computes. -/

/-- A schedule frame before its lanes compute: the intervals and the comparisons are counted, the inputs latched. -/
def frameOpened (i : FrameInputs) (s : State) : State :=
  latchFrame i (delayFrame i.comparisons i.dllLocked (spreadFrame (passCoil (passRecovery s))))

theorem passCoil_coilZ (s : State) (r : Port) : (portOf (passCoil s) r).coilZ = (portOf s r).coilZ - 1 := by cases r <;> rfl

theorem counted_eff (i : FrameInputs) (s : State) :
    Eff [.portA, .portB, .clocks, .emit] (passRecovery s)
      (delayFrame i.comparisons i.dllLocked (spreadFrame (passCoil (passRecovery s)))) :=
  ((passCoil_eff _).mono rfl).comp (spreadFrame_eff _) rfl |>.comp (delayFrame_eff _ _ _) rfl

theorem frameOpened_eff (i : FrameInputs) (s : State) :
    Eff [.cart, .portA, .portB, .clocks, .emit, .engine] (passRecovery s) (frameOpened i s) :=
  ((counted_eff i s).mono rfl).comp (latchFrame_eff _ _) rfl

theorem frameOpened_engine (i : FrameInputs) (s : State) : latchView (frameOpened i s).engine = latchView (latched i s) := by
  have counted := counted_eff i s
  rw [frameOpened, latchFrame_engine, latched, live, counted.engine_eq rfl, counted.binding_eq rfl, counted.yard_eq rfl]
  rfl

/-- What the latch's view shows of the engine stands as the frame latched it. -/
theorem frameOpened_keeps {β : Type} (g : Engine → β) (hg : ∀ e, g (latchView e) = g e) (i : FrameInputs) (s : State) :
    g (frameOpened i s).engine = g (latched i s) := by
  rw [← hg, frameOpened_engine, hg]

theorem frameOpened_coilZ (i : FrameInputs) (s : State) (r : Port) :
    (portOf (frameOpened i s) r).coilZ = (portOf s r).coilZ - 1 := by
  rw [frameOpened, latchFrame_coilZ, portOf_of_eff (delayFrame_eff _ _ _) rfl rfl, portOf_of_eff (spreadFrame_eff _) rfl rfl,
    passCoil_coilZ]
  cases r <;> rfl

theorem frameOpened_emit (i : FrameInputs) (s : State) :
    (frameOpened i s).emit = (delayFrame i.comparisons i.dllLocked (spreadFrame (passCoil (passRecovery s)))).emit :=
  (latchFrame_eff _ _).emit_eq rfl

theorem frameOpened_held (i : FrameInputs) (s : State) (d : Domain) : domainHeld (frameOpened i s) d = domainHeld s d :=
  domainHeld_of_eff (frameOpened_eff i s) rfl d

/-! A lane that serves alone (13 R299). -/

/-- The engine without what a lane's frame writes in it. -/
def inputView (e : Engine) : Engine :=
  { latchView e with applied := [], halters := [], demands := [], headroom := 0, saturations := 0, limited := 0, loopFailed := false }

/-- What a frame latches is all that a lane's frame reads of the engine. -/
theorem inputView_of_latchView {a b : Engine} (h : latchView a = latchView b) : inputView a = inputView b := by
  rw [inputView, h, inputView]

theorem applyWrite_engine (s : State) (w : Write) : inputView (applyWrite s w).engine = inputView s.engine := by
  unfold applyWrite
  split
  · rfl
  · split
    · rw [updPort_engine]
    · rfl

theorem applyWrite_coilZ (s : State) (w : Write) (r : Port) : (portOf (applyWrite s w) r).coilZ = (portOf s r).coilZ := by
  unfold applyWrite
  split
  · rfl
  · split
    · exact portOf_updPort_keeps PortState.coilZ (fun q => by split <;> [rfl; split <;> rfl]) _ _ _
    · cases r <;> rfl

/-- A port's drive words that no enabled slot writes return to 0. -/
def dropDrive (ds : List Nat) (u : State) (p : Port) : State :=
  let b := match p with | .a => 8 | .b => 12
  if !portDriven u p then u
  else updPort u p fun q =>
    { q with driveW := if ds.contains b then q.driveW else 0, driveP := if ds.contains (b + 1) then q.driveP else 0
             driveSlow := if ds.contains (b + 2) then q.driveSlow else 0 }

theorem dropDrive_engine (ds : List Nat) (u : State) (p : Port) : (dropDrive ds u p).engine = u.engine := by
  unfold dropDrive
  dsimp only
  split
  · rfl
  · rw [updPort_engine]

theorem dropDrive_coilZ (ds : List Nat) (u : State) (p r : Port) : (portOf (dropDrive ds u p) r).coilZ = (portOf u r).coilZ := by
  unfold dropDrive
  dsimp only
  split
  · rfl
  · exact portOf_updPort_keeps PortState.coilZ (by exact fun _ => rfl) _ _ _

theorem dropUnwritten_eq (st : Store) (s : State) :
    dropUnwritten st s =
      let ds := (enabledSlots st).map fun k => fnat st (slotDest k)
      dropDrive ds (dropDrive ds
        { s with engine := { s.engine with applied := s.engine.applied.filter fun e => ds.contains e.1 } } .a) .b := rfl

theorem dropUnwritten_engine (st : Store) (s : State) : inputView (dropUnwritten st s).engine = inputView s.engine := by
  rw [dropUnwritten_eq, dropDrive_engine, dropDrive_engine]
  rfl

theorem dropUnwritten_coilZ (st : Store) (s : State) (r : Port) : (portOf (dropUnwritten st s) r).coilZ = (portOf s r).coilZ := by
  rw [dropUnwritten_eq, dropDrive_coilZ, dropDrive_coilZ]
  cases r <;> rfl

theorem setLevel_trims (c v : Nat) (s : State) : (setLevel c v s).emit.trims = s.emit.trims := by
  unfold setLevel
  dsimp only
  split
  · rw [report_emit, updLaser_emit]
  · rw [updLaser_emit]

/-- A new scale moves no trim. -/
theorem rescale_trims (s : State) : (rescale s).emit.trims = s.emit.trims := by
  rw [rescale]
  exact foldl_keeps (fun t => t.emit.trims) (fun t c => by split <;> [rfl; exact setLevel_trims _ _ _]) _ s

theorem writeFrame_engine (st : Store) (r : LaneRun) (s : State) : inputView (writeFrame st r s).engine = inputView s.engine := by
  rw [writeFrame, (rescale_eff _).engine_eq rfl, dropUnwritten_engine, foldl_keeps (fun t => inputView t.engine) applyWrite_engine]

theorem writeFrame_coilZ (st : Store) (r : LaneRun) (s : State) (p : Port) :
    (portOf (writeFrame st r s) p).coilZ = (portOf s p).coilZ := by
  rw [writeFrame, portOf_of_eff (rescale_eff _) rfl rfl, dropUnwritten_coilZ,
    foldl_keeps (fun t => (portOf t p).coilZ) fun t w => applyWrite_coilZ t w p]

theorem writeFrame_trims (st : Store) (r : LaneRun) (s : State) : (writeFrame st r s).emit.trims = s.emit.trims := by
  rw [writeFrame, rescale_trims, (dropUnwritten_eff _ _).emit_eq rfl,
    foldl_keeps (fun t => t.emit) fun t w => (applyWrite_eff t w).emit_eq rfl]

/-- The events of a frame's slots latch LOOP_FAILED at most. -/
theorem slotEvents_keeps {β : Type} (g : Engine → β) (hg : ∀ e, g { e with loopFailed := true } = g e) (st : Store)
    (before after : List Slot) (done : List Done) (s : State) : g (slotEvents st before after done s).engine = g s.engine := by
  refine foldl_keeps (fun t => g t.engine) (fun t d => ?_) done s
  dsimp only
  split <;> split <;> split <;> simp only [report_engine, hg]

theorem finish_engine (st : Store) (r : LaneRun) (before ks : List Slot) (s : State) :
    inputView (finish st r before ks s).engine = inputView s.engine :=
  slotEvents_keeps inputView (fun _ => rfl) st before ks r.done _

theorem finish_halters (st : Store) (r : LaneRun) (before ks : List Slot) (s : State) :
    (finish st r before ks s).engine.halters.length = 8 :=
  (slotEvents_keeps (fun e => e.halters.length) (fun _ => rfl) st before ks r.done _).trans (by simp)

theorem joinLane_absent (h : s.engine.standby = .absent) : joinLane s = s := by
  simp [joinLane, h]

/-- The frame of a lane alone, before a standby lane joins. -/
def laneServed (st : Store) (s : State) : State :=
  let before := laneSlots s s.engine.serving
  let r := runLane s st before
  let ks := endLane s st s.engine.outOfRange r true
  finish st r before ks (setLane s.engine.serving ks (writeFrame st r s))

theorem laneServed_halters (st : Store) (s : State) : (laneServed st s).engine.halters.length = 8 := by
  rw [laneServed, finish_halters]

theorem laneServed_engine (st : Store) (s : State) : inputView (laneServed st s).engine = inputView s.engine := by
  rw [laneServed, finish_engine, inputView_of_latchView (latchView_setLane _ _ _), writeFrame_engine]

/-- What the inputs' view shows of the engine goes through a frame as it is. -/
theorem laneServed_keeps {β : Type} (g : Engine → β) (hg : ∀ e, g (inputView e) = g e) (st : Store) (s : State) :
    g (laneServed st s).engine = g s.engine := by
  rw [← hg, laneServed_engine, hg]

theorem laneDone_eff (st : Store) (s : State) (r : LaneRun) (before ks : List Slot) (l : Lane) :
    Eff [.engine, .beacon] (writeFrame st r s) (finish st r before ks (setLane l ks (writeFrame st r s))) :=
  ((setLane_eff _ _ _).mono rfl).comp (finish_eff _ _ _ _ _) rfl

/-- 13 R299: the lane's frame moves neither a trim nor the time for which a port's bridges are held off. -/
theorem laneServed_kept (st : Store) (s : State) :
    (laneServed st s).emit.trims = s.emit.trims ∧ ∀ r, (portOf (laneServed st s) r).coilZ = (portOf s r).coilZ := by
  have served := laneDone_eff st s
  refine ⟨?_, fun r => ?_⟩
  · rw [laneServed, (served _ _ _ _).emit_eq rfl, writeFrame_trims]
  · rw [laneServed, portOf_of_eff (served _ _ _ _) rfl rfl, writeFrame_coilZ]

theorem frameAlone_absent (st : Store) (h : s.engine.standby = .absent) : frameAlone st s = laneServed st s :=
  joinLane_absent ((laneServed_keeps Engine.standby (fun _ => rfl) st s).trans h)

/-! The frame's count (13 R298). -/

/-- A frame has been counted. -/
def frameCounted (s : State) : State := { s with engine := { s.engine with frame := (s.engine.frame + 1) % 2 ^ 32 } }

theorem lanesLost_none (ht : i.tableErr = none) (hm : i.m6Err = none) (s : State) : lanesLost i s = s := by
  simp [lanesLost, ht, hm]

theorem exec_scheduleFrame (hr : running s = true) (hp : s.core.plls = true) (hh : s.core.halted = false) (ht : i.tableErr = none)
    (hm : i.m6Err = none) {t : State}
    (hu : (if domainHeld (frameOpened i s) (laneDomain (frameOpened i s).engine.serving) then frameOpened i s
      else if (frameOpened i s).engine.standby == .present &&
          !domainHeld (frameOpened i s) (laneDomain (otherLane (frameOpened i s).engine.serving)) then
        frameBoth (frameOpened i s).engine.fields (frameOpened i s)
      else frameAlone (frameOpened i s).engine.fields (frameOpened i s)) = t) :
    exec (.scheduleFrame i) s = .next (frameCounted t) := by
  subst hu
  refine (guarded_of (by simp [hr, hp, hh]) _ _).trans (congrArg _ ?_)
  rw [lanesLost_none ht hm]
  rfl

theorem scheduleFrame_held (hr : running s = true) (hp : s.core.plls = true) (hh : s.core.halted = false) (ht : i.tableErr = none)
    (hm : i.m6Err = none) (hl : domainHeld s (laneDomain s.engine.serving) = true) :
    exec (.scheduleFrame i) s = .next (frameCounted (frameOpened i s)) := by
  have serving : (frameOpened i s).engine.serving = s.engine.serving := frameOpened_keeps Engine.serving (fun _ => rfl) i s
  exact exec_scheduleFrame hr hp hh ht hm (if_pos (by rw [serving, frameOpened_held, hl]))

theorem scheduleFrame_alone (hr : running s = true) (hp : s.core.plls = true) (hh : s.core.halted = false) (ht : i.tableErr = none)
    (hm : i.m6Err = none) (ha : s.engine.standby = .absent) (hl : domainHeld s (laneDomain s.engine.serving) = false) :
    exec (.scheduleFrame i) s =
      .next (frameCounted (laneServed (frameOpened i s).engine.fields (frameOpened i s))) := by
  have serving : (frameOpened i s).engine.serving = s.engine.serving := frameOpened_keeps Engine.serving (fun _ => rfl) i s
  have standby : (frameOpened i s).engine.standby = .absent := (frameOpened_keeps Engine.standby (fun _ => rfl) i s).trans ha
  refine exec_scheduleFrame hr hp hh ht hm ?_
  rw [if_neg (by rw [serving, frameOpened_held, hl]; decide), if_neg (by rw [standby]; simp), frameAlone_absent _ standby]

/-- The engine without what a frame computes or counts. -/
def inputsOnly (e : Engine) : Engine := { inputView e with frame := 0 }

theorem inputsOnly_counted (s : State) : inputsOnly (frameCounted s).engine = inputsOnly s.engine := rfl

/-- What a frame latched stands at its end, where a lane serves alone. -/
theorem inputsOnly_served (st : Store) (i : FrameInputs) (s : State) :
    inputsOnly (frameCounted (laneServed st (frameOpened i s))).engine = inputsOnly (latched i s) := by
  rw [inputsOnly_counted, inputsOnly, laneServed_engine, inputView_of_latchView (frameOpened_engine i s), inputsOnly]

theorem served_keeps {β : Type} (g : Engine → β) (hg : ∀ e, g (inputsOnly e) = g e) (st : Store) (i : FrameInputs) (s : State) :
    g (frameCounted (laneServed st (frameOpened i s))).engine = g (latched i s) := by
  rw [← hg, inputsOnly_served, hg]

theorem frameCounted_eff (s : State) : Eff [.engine] s (frameCounted s) := Eff.set_engine (Eff.refl _ _) rfl

theorem frameCounted_halters (s : State) : (frameCounted s).engine.halters = s.engine.halters := rfl

theorem frameCounted_frame (s : State) : (frameCounted s).engine.frame = (s.engine.frame + 1) % 2 ^ 32 := rfl

theorem laneServed_eff (st : Store) (s : State) : Eff [.portA, .portB, .engine, .emit, .beacon] s (laneServed st s) :=
  ((writeFrame_eff _ _ _).mono rfl).trans ((laneDone_eff _ _ _ _ _ _).mono rfl)

/-- Settles O51: a frame whose lane is held stops after the latch, and one whose lane serves alone computes on what is latched. The
direction of a trim step and the counting in schedule frames are the model's choice (logs 2, 77, 117). -/
theorem scheduleFrameAdvances : Obligations.ScheduleFrameAdvances := by
  intro i s hr hp hh ht hm
  have opened := frameOpened_eff i s
  refine ⟨fun ha hl => ?_, fun hl => ?_⟩
  · generalize hst : (frameOpened i s).engine.fields = st
    have counted := frameCounted_eff (laneServed st (frameOpened i s))
    have served := laneServed_eff st (frameOpened i s)
    obtain ⟨trims, coilZ⟩ := laneServed_kept st (frameOpened i s)
    rw [frameOpened_emit] at trims
    refine ⟨_, hst ▸ scheduleFrame_alone hr hp hh ht hm ha hl, ?_, ?_, ?_, ?_, ?_, ?_, ?_, ?_, ?_, ?_, ?_, ?_, ?_, ?_⟩
    · rw [frameCounted_frame, laneServed_keeps Engine.frame fun _ => rfl, frameOpened_keeps Engine.frame fun _ => rfl, latched]
    · exact served_keeps Engine.fields (fun _ => rfl) st i s
    · exact served_keeps Engine.outOfRange (fun _ => rfl) st i s
    · exact served_keeps Engine.rt0 (fun _ => rfl) st i s
    · exact served_keeps Engine.rt1 (fun _ => rfl) st i s
    · exact served_keeps Engine.grants (fun _ => rfl) st i s
    · exact served_keeps Engine.serving (fun _ => rfl) st i s
    · exact (served_keeps Engine.standby (fun _ => rfl) st i s).trans ha
    · rw [frameCounted_halters, laneServed_halters]
    · rw [counted.keeper_eq rfl, served.keeper_eq rfl, opened.keeper_eq rfl, passRecovery]
    · intro p
      rw [portOf_of_eff counted rfl rfl, coilZ, frameOpened_coilZ]
    · intro hc
      rw [counted.emit_eq rfl, trims, hc]
      rfl
    · intro c late hc hrun hlen
      rw [counted.emit_eq rfl, trims, hc]
      exact compareEdge_moves hrun hlen
    · rw [counted.binding_eq rfl, served.binding_eq rfl, opened.binding_eq rfl, passRecovery]
  · refine ⟨_, scheduleFrame_held hr hp hh ht hm hl, ?_, ?_, ?_, ?_⟩
    · rw [frameCounted_frame, frameOpened_keeps Engine.frame fun _ => rfl, latched]
    · exact frameOpened_keeps Engine.applied (fun _ => rfl) i s
    · exact frameOpened_keeps Engine.halters (fun _ => rfl) i s
    · rw [(frameCounted_eff _).emit_eq rfl, frameOpened_emit, delayFrame_lasers]
      rfl

end Sys2Proof.Proofs
end

section
/-! SUPPORT. The clocks (05 R99 to R112, 16 R386): the PLLs' lock, the drift windows, lost references and the voltage references, and O16,
O26, O27 and O28. -/

namespace Sys2Proof.Proofs

open Sys2Proof Machine Laws

variable {s t : State} {l : List Part}

/-! What a later operation leaves of the failures latched. -/

theorem refFailed_of_eq (h : t.clocks = s.clocks) (r : RefSource) : refFailed t r = refFailed s r := by
  cases r <;> simp only [refFailed, h]

theorem live_of_eff (e : Eff l s t) (hl : l.contains .binding = false) : live t = live s := by
  rw [live, e.binding_eq hl, live]

/-! The PLLs lock (05 R100). -/

/-- The crystal's count is within 3 % of 24 MHz. -/
def nearCrystal (x : Nat) : Bool := 23280000 ≤ x && x ≤ 24720000

theorem nearCrystal_true {x : Nat} (hlo : 23280000 ≤ x) (hhi : x ≤ 24720000) : nearCrystal x = true := by simp [nearCrystal, hlo, hhi]

theorem nearCrystal_false {x : Nat} (h : x < 23280000 ∨ 24720000 < x) : nearCrystal x = false := by
  rcases h with h | h <;> simp [nearCrystal, Nat.not_le.mpr h]

/-- `REFIN` is declared, and its count is too low for a toggling clock. -/
def toggleFailed (r : Nat) (s : State) : Bool := refinDeclared s && !decide (10000000 ≤ r)

theorem toggleFailed_true {r : Nat} (hd : refinDeclared s = true) (h : r < 10000000) : toggleFailed r s = true := by
  simp [toggleFailed, hd, h]

theorem toggleFailed_false {r : Nat} (h : refinDeclared s = false ∨ 10000000 ≤ r) : toggleFailed r s = false := by
  rcases h with h | h <;> simp [toggleFailed, h]

/-- The PLLs run on the source that the counts of the crystal and of `REFIN` give them. -/
def pllsLocked (x r : Nat) (s : State) : State :=
  { s with
    core := { s.core with plls := true }
    clocks := { s.clocks with
      selected := if nearCrystal x then .crystal else .ring, crystalHz := x, refinHz := r
      refinToggles := decide (10000000 ≤ r), pllNominal := if nearCrystal x then 24000000 else 120000000 } }

/-- A start on the ring is reported. -/
def startReported (x : Nat) (s : State) : State :=
  if nearCrystal x then s else report evRefStartFallback (satDev (ppmOf x 24000000)) 0 s

/-- The toggle check of `REFIN` is judged. -/
def toggleJudged (failed : Bool) (s : State) : State :=
  if failed then report evRefSpareFailed 255 1 { s with clocks := { s.clocks with refinFailed := true } } else s

theorem exec_pllLocked (hr : running s = true) (hp : s.core.plls = false) (x r : Nat) :
    exec (.pllLocked x r) s =
      .next (toggleJudged (toggleFailed r s) (startReported x (pllsLocked x r s))) :=
  guarded_of (by simp [hr, hp]) _ _

theorem startReported_eff (x : Nat) (s : State) : Eff [.beacon] s (startReported x s) :=
  Eff.ite (fun _ => Eff.refl _ _) fun _ => report_eff _ _ _ _

theorem startReported_reported {x : Nat} (h : x < 23280000 ∨ 24720000 < x) (s : State) :
    Reported evRefStartFallback 0 (startReported x s) := by
  rw [startReported, nearCrystal_false h]
  exact report_reported _ _ _ _

theorem toggleJudged_core (failed : Bool) (s : State) : (toggleJudged failed s).core = s.core := by
  cases failed
  · rfl
  · exact report_core _ _ _ _

theorem toggleJudged_clocks (failed : Bool) (s : State) :
    (toggleJudged failed s).clocks = { s.clocks with refinFailed := failed || s.clocks.refinFailed } := by
  cases failed
  · rfl
  · exact report_clocks _ _ _ _

theorem reported_toggleJudged {c j : Nat} (h : Reported c j s) (failed : Bool) : Reported c j (toggleJudged failed s) := by
  cases failed
  · exact h
  · exact reported_report (reported_of_eq h (by rfl)) _ _ _

theorem toggleJudged_failed (s : State) :
    (toggleJudged true s).clocks.refinFailed = true ∧ Reported evRefSpareFailed 1 (toggleJudged true s) :=
  ⟨by rw [toggleJudged_clocks]; rfl, report_reported _ _ _ _⟩

theorem inReset_of_running (h : running s = true) : s.core.inReset = false := by
  rw [running, Bool.and_eq_true, Bool.not_eq_true'] at h
  exact h.2

/-- Settles O16: the crystal's count selects the source, and the toggle check is judged behind it. That the fallback names the
crystal is the model's choice (log 112). -/
theorem pllLockSelectsTheReference : Obligations.PllLockSelectsTheReference := by
  intro x r s hr hp
  have started := startReported_eff x (pllsLocked x r s)
  have core := (toggleJudged_core (toggleFailed r s) _).trans (started.core_eq rfl)
  have clocks := toggleJudged_clocks (toggleFailed r s) (startReported x (pllsLocked x r s))
  rw [started.clocks_eq rfl] at clocks
  refine ⟨_, exec_pllLocked hr hp x r, ?_, ?_, ?_, ?_, ?_, fun hlo hhi => ?_, fun far => ⟨?_, ?_⟩, fun hd hs => ?_, fun fine => ?_⟩
  · rw [core]; rfl
  · rw [core]; exact inReset_of_running hr
  · rw [clocks]; rfl
  · rw [clocks]; rfl
  · rw [clocks]; rfl
  · rw [clocks]; exact if_pos (nearCrystal_true hlo hhi)
  · rw [clocks]; exact if_neg (ne_true_of_eq_false (nearCrystal_false far))
  · exact reported_toggleJudged (startReported_reported far _) _
  · rw [toggleFailed_true hd hs]; exact toggleJudged_failed _
  · rw [clocks, toggleFailed_false fine]; rfl

/-! Latching and switching (05 R106, R108). -/

theorem refFailed_latchRef {r : RefSource} (h : r ≠ .ring) (s : State) : refFailed (latchRef r s) r = true := by
  cases r
  · rfl
  · rfl
  · exact absurd rfl h

/-- A latched failure touches neither the source nor the windows. -/
theorem latchRef_keeps {β : Type} (g : Clocks → β) (hc : ∀ c, g { c with crystalFailed := true } = g c)
    (hr : ∀ c, g { c with refinFailed := true } = g c) (r : RefSource) (s : State) : g (latchRef r s).clocks = g s.clocks := by
  cases r
  · exact hc _
  · exact hr _
  · rfl

theorem switchRef_clocks (r : RefSource) (s : State) : (switchRef r s).clocks = retarget (live s) r s.clocks :=
  (coverFault_eff _ _ _).clocks_eq rfl

theorem refFailed_switchRef (r q : RefSource) (s : State) : refFailed (switchRef r s) q = refFailed s q := by
  cases q <;> simp only [refFailed, switchRef_clocks, retarget]

theorem reported_coverFault {c j : Nat} (h : Reported c j s) (frames subject : Nat) : Reported c j (coverFault frames subject s) :=
  ite_pred (P := Reported c j) (reported_report (reported_of_eq h (by rfl)) _ _ _) (reported_of_eq h rfl)

theorem reported_switchRef {c j : Nat} (h : Reported c j s) (r : RefSource) : Reported c j (switchRef r s) := by
  have retargeted : Reported c j { s with clocks := retarget (live s) r s.clocks } := reported_of_eq h rfl
  exact reported_coverFault retargeted _ _

/-! The judgement of a window (05 R103 to R105). -/

theorem beyond_of_eff (e : Eff l s t) (hl : l.contains .binding = false) (num den : Nat) (d : Option Int) :
    beyond t num den d = beyond s num den d := by
  rw [beyond, live_of_eff e hl, beyond]

theorem beyond_some (s : State) (num den : Nat) (v : Int) :
    beyond s num den (some v) = decide (num * fnat (live s) clockTolPpm < den * v.natAbs) := rfl

theorem beyond_negate (s : State) (num den : Nat) (d : Option Int) : beyond s num den (negate d) = beyond s num den d := by
  cases d with
  | none => rfl
  | some v => rw [negate, Option.map_some, beyond_some, beyond_some, Int.natAbs_neg]

/-- What a judgement of both references leaves of the clocks: only a switch and the latched failures change them. -/
theorem judgeBoth_keeps {β : Type} (g : Clocks → β) (hc : ∀ c, g { c with crystalFailed := true } = g c)
    (hr : ∀ c, g { c with refinFailed := true } = g c) (hs : ∀ st r c, g (retarget st r c) = g c) (so sw ow : Option Int) (s : State) :
    g (judgeBoth so sw ow s).clocks = g s.clocks := by
  have latched := fun r => latchRef_keeps g hc hr r s
  unfold judgeBoth
  dsimp only
  split_ifs <;> simp only [switchRef_clocks, hs, report_clocks, latched]

theorem judgeSuspect_clocks (cw : Option Int) (s : State) : ∃ n, (judgeSuspect cw s).clocks = { s.clocks with suspect := n } := by
  unfold judgeSuspect
  generalize (if beyond s 1 1 cw then min 3 (s.clocks.suspect + 1) else 0) = n
  dsimp only
  split
  · exact ⟨_, report_clocks _ _ _ _⟩
  · exact ⟨_, rfl⟩

theorem judgeTrend_clocks (now : Bool × Option Int × Option Int) (s : State) : (judgeTrend now s).clocks = s.clocks :=
  (judgeTrend_eff _ _).clocks_eq rfl

/-- Both references are judged from the selected one's side, whichever it is. -/
theorem judgeWindow_both (h : bothRefs s = true) (w : Window) :
    ∃ so, (∀ u num den, beyond u num den so = beyond u num den w.cr) ∧
      judgeWindow w s = judgeBoth so (if s.clocks.selected = .crystal then w.cw else w.rw)
        (if s.clocks.selected = .crystal then w.rw else w.cw) (judgeTrend (trendOf s w) s) := by
  by_cases hc : s.clocks.selected = .crystal
  · exact ⟨w.cr, fun _ _ _ => rfl, by simp [judgeWindow, h, hc]⟩
  · exact ⟨negate w.cr, fun _ _ _ => beyond_negate _ _ _ _, by simp [judgeWindow, h, hc]⟩

/-- Where not both references are judged, a window changes no more of the clocks than the run of suspect windows. -/
theorem judgeWindow_single (h : bothRefs s = false) (w : Window) : ∃ n, (judgeWindow w s).clocks = { s.clocks with suspect := n } := by
  have noted := judgeTrend_clocks (trendOf s w) s
  simp only [judgeWindow, h, Bool.false_eq_true, if_false]
  split
  · exact ⟨_, noted⟩
  · obtain ⟨n, suspect⟩ := judgeSuspect_clocks w.cw (judgeTrend (trendOf s w) s)
    exact ⟨n, by rw [suspect, noted]⟩

theorem judgeWindow_keeps {β : Type} (g : Clocks → β) (hc : ∀ c, g { c with crystalFailed := true } = g c)
    (hr : ∀ c, g { c with refinFailed := true } = g c) (hs : ∀ st r c, g (retarget st r c) = g c)
    (hn : ∀ c n, g { c with suspect := n } = g c) (w : Window) (s : State) : g (judgeWindow w s).clocks = g s.clocks := by
  cases h : bothRefs s
  case false =>
    obtain ⟨n, suspect⟩ := judgeWindow_single h w
    rw [suspect, hn]
  case true =>
    obtain ⟨so, -, judged⟩ := judgeWindow_both h w
    rw [judged, judgeBoth_keeps g hc hr hs, judgeTrend_clocks]

theorem bothRefs_notRing (h : bothRefs s = true) : s.clocks.selected ≠ .ring := by
  rw [bothRefs, Bool.and_eq_true, bne_iff_ne] at h
  exact h.2

/-- 05 R107: with the ring selected the watch measures and switches to nothing. -/
theorem judgeWindow_ring (h : s.clocks.selected = .ring) (w : Window) : (judgeWindow w s).clocks.selected = .ring := by
  have single : bothRefs s = false := Bool.eq_false_iff.mpr fun k => bothRefs_notRing k h
  obtain ⟨n, suspect⟩ := judgeWindow_single single w
  rw [suspect]
  exact h

/-- 05 R103: the selected reference that deviates from both others is latched, and left where the switch is enabled. -/
theorem judgeBoth_failed {so sw ow : Option Int} (hs : s.clocks.selected ≠ .ring) (hso : beyond s 1 1 so = true)
    (hsw : beyond s 1 1 sw = true) (how : beyond s 1 2 ow = false) :
    refFailed (judgeBoth so sw ow s) s.clocks.selected = true ∧
      (judgeBoth so sw ow s).clocks.selected =
        if (fnat (live s) clockSwitch).testBit 0 then otherRef s.clocks.selected else s.clocks.selected := by
  have latched := fun c => (refFailed_of_eq (report_clocks c (auxDev so) (refNum s.clocks.selected)
    (latchRef s.clocks.selected s)) s.clocks.selected).trans (refFailed_latchRef hs s)
  simp only [judgeBoth, hso, hsw, how, Bool.not_false, Bool.and_self, if_true]
  split
  · exact ⟨(refFailed_switchRef _ _ _).trans (latched _), by rw [switchRef_clocks]; rfl⟩
  · exact ⟨latched _, by rw [report_clocks, latchRef_keeps Clocks.selected (fun _ => rfl) fun _ => rfl]⟩

/-- 05 R104: without a majority the deviation is reported, and that is all. -/
theorem judgeBoth_noMajority {so sw ow : Option Int} (hso : beyond s 1 2 so = true) (hsw : beyond s 1 2 sw = true)
    (how : beyond s 1 2 ow = true) (above : (beyond s 1 1 so || beyond s 1 1 sw || beyond s 1 1 ow) = true) :
    judgeBoth so sw ow s = report evRefNoMajority (auxDev so) (refNum s.clocks.selected) s := by
  simp [judgeBoth, hso, hsw, how, above]

/-! The end of a window (05 R101, R102, R109). -/

/-- The window's judgement, which needs a qualified ring. -/
def windowJudged (w : Window) (s : State) : State := if s.clocks.ringOk then judgeWindow w s else s

/-- What the window adds to the record of the watch, from the state s at its end. -/
def windowCounted (w : Window) (s : State) (c : Clocks) : Clocks :=
  { c with windows := c.windows + 1, learned := learn s w, ringOk := c.ringOk || decide (4 ≤ c.windows + 1)
           lastTrend := if s.clocks.ringOk then some (trendOf s w) else none, lastDev := w.cr }

/-- A window ends with its judgement, its record, and perhaps a report of `CK_AON`. -/
theorem driftWindowEnd_records (crystal refin ring aon : Nat) (hr : running s = true) (hp : s.core.plls = true)
    (hf : s.core.folios = true) :
    ∃ t, exec (.driftWindowEnd ⟨crystal, refin⟩ ring aon) s = .next t ∧
      t.clocks = windowCounted (windowOf s crystal refin ring) s (windowJudged (windowOf s crystal refin ring) s).clocks ∧
      ∀ c j, Reported c j (windowJudged (windowOf s crystal refin ring) s) → Reported c j t := by
  refine ⟨_, guarded_of (by simp [hr, hp, hf]) _ _, ?_, fun c j h => ?_⟩
  · dsimp only
    split
    · exact report_clocks _ _ _ _
    · rfl
  · exact ite_pred (P := Reported c j) (reported_report (reported_of_eq h (by rfl)) _ _ _) (reported_of_eq h rfl)

theorem windowJudged_unqualified (h : s.clocks.ringOk = false) (w : Window) : windowJudged w s = s := by simp [windowJudged, h]

theorem windowJudged_qualified (h : s.clocks.ringOk = true) (w : Window) : windowJudged w s = judgeWindow w s := by simp [windowJudged, h]

/-- A judgement leaves the count of windows and the ring's qualification alone. -/
theorem windowJudged_counts (w : Window) (s : State) :
    (windowJudged w s).clocks.windows = s.clocks.windows ∧ (windowJudged w s).clocks.ringOk = s.clocks.ringOk := by
  cases h : s.clocks.ringOk
  · rw [windowJudged_unqualified h]
    exact ⟨rfl, h⟩
  · rw [windowJudged_qualified h]
    exact ⟨judgeWindow_keeps Clocks.windows (fun _ => rfl) (fun _ => rfl) (fun _ _ _ => rfl) (fun _ _ => rfl) w s,
      (judgeWindow_keeps Clocks.ringOk (fun _ => rfl) (fun _ => rfl) (fun _ _ _ => rfl) (fun _ _ => rfl) w s).trans h⟩

theorem windowJudged_ring (h : s.clocks.selected = .ring) (w : Window) : (windowJudged w s).clocks.selected = .ring :=
  ite_pred (P := fun t => t.clocks.selected = .ring) (judgeWindow_ring h w) h

theorem windowCounted_selected (w : Window) (s : State) (c : Clocks) : (windowCounted w s c).selected = c.selected := rfl

/-- The record of a window latches nothing. -/
theorem refFailed_windowCounted {u : State} {w : Window} (h : t.clocks = windowCounted w s u.clocks) (r : RefSource) :
    refFailed t r = refFailed u r := by
  cases r <;> simp only [refFailed, h, windowCounted]

/-- 05 R102: references that differ leave the learned ring as it is. -/
theorem learn_differing {w : Window} (hw : watchRefin s = true) (hn : 4 ≤ s.clocks.windows)
    (hd : ∀ d, w.cr = some d → fnat (live s) clockTolPpm < 4 * d.natAbs) : learn s w = s.clocks.learned := by
  have differ : beyond s 1 4 w.cr = true := by
    cases h : w.cr with
    | none => rfl
    | some d => simpa [beyond_some] using hd d h
  unfold learn
  dsimp only
  split
  · rfl
  · rw [if_neg (by omega), if_pos hw, if_pos differ]

theorem driftWindowEnd_counts (crystal refin ring aon : Nat) (hr : running s = true) (hp : s.core.plls = true)
    (hf : s.core.folios = true) :
    ∃ t, exec (.driftWindowEnd ⟨crystal, refin⟩ ring aon) s = .next t ∧ t.clocks.windows = s.clocks.windows + 1 ∧
      t.clocks.ringOk = (s.clocks.ringOk || decide (4 ≤ s.clocks.windows + 1)) ∧
      (s.clocks.selected = .ring → t.clocks.selected = .ring) ∧
      (watchRefin s = true → 4 ≤ s.clocks.windows →
        (∀ d, (windowOf s crystal refin ring).cr = some d → fnat (live s) clockTolPpm < 4 * d.natAbs) →
        t.clocks.learned = s.clocks.learned) ∧
      (s.clocks.ringOk = false → t.clocks.selected = s.clocks.selected) := by
  obtain ⟨t, ht, clocks, -⟩ := driftWindowEnd_records crystal refin ring aon hr hp hf
  obtain ⟨windows, ringOk⟩ := windowJudged_counts (windowOf s crystal refin ring) s
  refine ⟨t, ht, ?_, ?_, fun h => ?_, fun hw hn hd => ?_, fun h => ?_⟩
  · rw [clocks, windowCounted, windows]
  · rw [clocks, windowCounted, ringOk, windows]
  · rw [clocks, windowCounted_selected, windowJudged_ring h]
  · rw [clocks, windowCounted, learn_differing hw hn hd]
  · rw [clocks, windowCounted_selected, windowJudged_unqualified h]

/-- 05 R103: a window judges the selected reference from its own side. -/
theorem judgeWindow_failed {w : Window} (hb : bothRefs s = true) (hcr : beyond s 1 1 w.cr = true)
    (hsw : beyond s 1 1 (if s.clocks.selected = .crystal then w.cw else w.rw) = true)
    (how : beyond s 1 2 (if s.clocks.selected = .crystal then w.rw else w.cw) = false) :
    refFailed (judgeWindow w s) s.clocks.selected = true ∧
      (judgeWindow w s).clocks.selected =
        if (fnat (live s) clockSwitch).testBit 0 then otherRef s.clocks.selected else s.clocks.selected := by
  obtain ⟨so, sided, judged⟩ := judgeWindow_both hb w
  have trend := judgeTrend_eff (trendOf s w) s
  have tolerance := beyond_of_eff trend rfl
  have selected : (judgeTrend (trendOf s w) s).clocks.selected = s.clocks.selected := by rw [trend.clocks_eq rfl]
  rw [judged, ← live_of_eff trend rfl, ← selected]
  refine judgeBoth_failed ?_ ?_ ?_ ?_
  · rw [selected]; exact bothRefs_notRing hb
  · rw [sided, tolerance, hcr]
  · rw [tolerance, selected, hsw]
  · rw [tolerance, selected, how]

/-- 05 R104: a window without a majority. -/
theorem judgeWindow_noMajority {w : Window} (hb : bothRefs s = true) (hcr : beyond s 1 2 w.cr = true) (hcw : beyond s 1 2 w.cw = true)
    (hrw : beyond s 1 2 w.rw = true) (above : beyond s 1 1 w.cr = true ∨ beyond s 1 1 w.cw = true ∨ beyond s 1 1 w.rw = true) :
    ∃ a, judgeWindow w s = report evRefNoMajority a (refNum s.clocks.selected) (judgeTrend (trendOf s w) s) := by
  obtain ⟨so, sided, judged⟩ := judgeWindow_both hb w
  have trend := judgeTrend_eff (trendOf s w) s
  have tolerance := beyond_of_eff trend rfl
  refine ⟨auxDev so, judged.trans ?_⟩
  rw [judgeBoth_noMajority, trend.clocks_eq rfl]
  · rw [sided, tolerance, hcr]
  · rw [tolerance]; split <;> assumption
  · rw [tolerance]; split <;> assumption
  · simp only [sided, tolerance, Bool.or_eq_true]
    split <;> tauto

/-- 05 R103: a window in which the selected reference has failed. -/
theorem driftWindowEnd_failed (crystal refin ring aon : Nat) {so sw ow : Int} (hr : running s = true) (hp : s.core.plls = true)
    (hf : s.core.folios = true) (hq : s.clocks.ringOk = true) (hb : bothRefs s = true)
    (hso : (windowOf s crystal refin ring).cr = some so)
    (hsw : (if s.clocks.selected = .crystal then (windowOf s crystal refin ring).cw else (windowOf s crystal refin ring).rw) = some sw)
    (how : (if s.clocks.selected = .crystal then (windowOf s crystal refin ring).rw else (windowOf s crystal refin ring).cw) = some ow)
    (so_gt : fnat (live s) clockTolPpm < so.natAbs) (sw_gt : fnat (live s) clockTolPpm < sw.natAbs)
    (ow_le : 2 * ow.natAbs ≤ fnat (live s) clockTolPpm) :
    ∃ t, exec (.driftWindowEnd ⟨crystal, refin⟩ ring aon) s = .next t ∧ refFailed t s.clocks.selected = true ∧
      t.clocks.selected = (if (fnat (live s) clockSwitch).testBit 0 then otherRef s.clocks.selected else s.clocks.selected) := by
  obtain ⟨t, ht, clocks, -⟩ := driftWindowEnd_records crystal refin ring aon hr hp hf
  rw [windowJudged_qualified hq] at clocks
  obtain ⟨failed, left⟩ := judgeWindow_failed hb (by rw [hso, beyond_some]; simpa using so_gt)
    (by rw [hsw, beyond_some]; simpa using sw_gt) (by rw [how, beyond_some]; simpa using ow_le)
  exact ⟨t, ht, (refFailed_windowCounted clocks _).trans failed, by rw [clocks, windowCounted_selected, left]⟩

/-- Settles O27: the judgement of both references without a majority. That the event names the selected source is the model's choice
(log 112). -/
theorem noMajorityKeepsTheReference : Obligations.NoMajorityKeepsTheReference := by
  intro crystal refin ring aon cr cw rw s hr hp hf hq hb w tol hcr hcw hrw cr_gt cw_gt rw_gt above
  obtain ⟨t, ht, clocks, reported⟩ := driftWindowEnd_records crystal refin ring aon hr hp hf
  have half : ∀ {d v}, d = some v → tol < 2 * v.natAbs → beyond s 1 2 d = true := by
    rintro _ v rfl h
    simpa [beyond_some] using h
  have whole : ∀ v, beyond s 1 1 (some v) = true ↔ tol < v.natAbs := fun v => by simp [beyond_some, tol]
  obtain ⟨a, judged⟩ := judgeWindow_noMajority hb (half hcr cr_gt) (half hcw cw_gt) (half hrw rw_gt)
    (by simpa only [hcr, hcw, hrw, whole] using above)
  rw [windowJudged_qualified hq, judged] at clocks reported
  refine ⟨t, ht, ?_, reported _ _ (report_reported _ _ _ _)⟩
  rw [clocks, windowCounted_selected, report_clocks, judgeTrend_clocks]

/-! Lost references (05 R107). -/

/-- The loss of the selected reference is latched and reported. -/
def lossLatched (s : State) : State := report evRefLost 255 (refNum s.clocks.selected) (latchRef s.clocks.selected s)

/-- The PLLs hold over for the selected reference of s. -/
def heldOver (s t : State) : State := updClocks (fun c => { c with holdover := true, lost := some s.clocks.selected }) t

/-- The answer to a loss: the other reference, the ring, or a holdover. -/
def lossAnswered (s : State) : State :=
  if refPresent s (otherRef s.clocks.selected) && !refFailed s (otherRef s.clocks.selected) then
    switchRef (otherRef s.clocks.selected) (lossLatched s)
  else if (fnat (live s) clockSwitch).testBit 1 && s.clocks.ringOk then switchRef .ring (lossLatched s)
  else heldOver s (lossLatched s)

theorem exec_refLost (hr : running s = true) (hp : s.core.plls = true) (hs : s.clocks.selected ≠ .ring) (hh : s.clocks.holdover = false) :
    exec .refLost s = .next (lossAnswered s) :=
  guarded_of (by simp [hr, hp, hs, hh]) _ _

theorem refFailed_heldOver (s t : State) (r : RefSource) : refFailed (heldOver s t) r = refFailed t r := by
  cases r <;> rfl

/-- No answer takes back what the loss latched and reported. -/
theorem lossAnswered_latched (hs : s.clocks.selected ≠ .ring) :
    refFailed (lossAnswered s) s.clocks.selected = true ∧ Reported evRefLost (refNum s.clocks.selected) (lossAnswered s) := by
  have failed : refFailed (lossLatched s) s.clocks.selected = true :=
    (refFailed_of_eq (report_clocks _ _ _ _) _).trans (refFailed_latchRef hs s)
  have reported : Reported evRefLost (refNum s.clocks.selected) (lossLatched s) := report_reported _ _ _ _
  have switched := fun r => And.intro ((refFailed_switchRef r s.clocks.selected (lossLatched s)).trans failed)
    (reported_switchRef reported r)
  rw [lossAnswered]
  split_ifs
  · exact switched _
  · exact switched _
  · exact ⟨(refFailed_heldOver _ _ _).trans failed, reported_of_eq reported rfl⟩

theorem switchRef_selects (r : RefSource) (s : State) :
    (switchRef r s).clocks.selected = r ∧ (switchRef r s).clocks.holdover = false ∧ (switchRef r s).clocks.lost = none ∧
      (switchRef r s).clocks.pllNominal = nominalHz (live s) r ∧ (switchRef r s).clocks.learned = s.clocks.learned := by
  rw [switchRef_clocks]
  exact ⟨rfl, rfl, rfl, rfl, rfl⟩

theorem lossAnswered_other (hp : refPresent s (otherRef s.clocks.selected) = true) (hf : refFailed s (otherRef s.clocks.selected) = false) :
    (lossAnswered s).clocks.selected = otherRef s.clocks.selected ∧ (lossAnswered s).clocks.holdover = false := by
  obtain ⟨selected, holdover, -⟩ := switchRef_selects (otherRef s.clocks.selected) (lossLatched s)
  rw [lossAnswered, if_pos (by simp [hp, hf])]
  exact ⟨selected, holdover⟩

theorem lossAnswered_alone (h : refPresent s (otherRef s.clocks.selected) = false ∨ refFailed s (otherRef s.clocks.selected) = true) :
    if (fnat (live s) clockSwitch).testBit 1 && s.clocks.ringOk then
      (lossAnswered s).clocks.selected = .ring ∧ (lossAnswered s).clocks.holdover = false
    else (lossAnswered s).clocks.selected = s.clocks.selected ∧ (lossAnswered s).clocks.holdover = true ∧
      (lossAnswered s).clocks.lost = some s.clocks.selected := by
  have unusable : ¬ (refPresent s (otherRef s.clocks.selected) && !refFailed s (otherRef s.clocks.selected)) = true := by
    rcases h with h | h <;> simp [h]
  obtain ⟨selected, holdover, -⟩ := switchRef_selects .ring (lossLatched s)
  have kept : (lossLatched s).clocks.selected = s.clocks.selected := by
    rw [lossLatched, report_clocks, latchRef_keeps Clocks.selected (fun _ => rfl) fun _ => rfl]
  rw [lossAnswered, if_neg unusable]
  split
  · exact ⟨selected, holdover⟩
  · exact ⟨kept, rfl, rfl⟩

/-- The lost reference is back, which is reported. -/
theorem exec_refReturn {r : RefSource} (hr : running s = true) (hh : s.clocks.holdover = true) (hl : s.clocks.lost = some r) :
    exec .refReturn s = .next (switchRef r (report evRefSwitch 0 (refNum r) s)) := by
  show execRefReturn s = _
  rw [execRefReturn, hl]
  exact guarded_of (by simp [hr, hh]) _ _

theorem refReturn_switchesBack {r : RefSource} (hr : running s = true) (hh : s.clocks.holdover = true) (hl : s.clocks.lost = some r) :
    ∃ t, exec .refReturn s = .next t ∧ t.clocks.selected = r ∧ t.clocks.holdover = false ∧ t.clocks.lost = none ∧
      pllDividers t = (pllOutputs s).map (fun f => (⟨f, nominalHz (live s) r⟩ : Frac)) ∧ t.clocks.learned = s.clocks.learned ∧
      Reported evRefSwitch (refNum r) t := by
  have noted := report_eff evRefSwitch 0 (refNum r) s
  obtain ⟨selected, holdover, lost, nominal, learned⟩ := switchRef_selects r (report evRefSwitch 0 (refNum r) s)
  refine ⟨_, exec_refReturn hr hh hl, selected, holdover, lost, ?_, learned.trans ?_, reported_switchRef (report_reported _ _ _ _) r⟩
  · rw [pllDividers, nominal, live_of_eff noted rfl, pllOutputs, (switchRef_eff _ _).mem_eq rfl, report_mem, pllOutputs]
  · rw [report_clocks]

/-- Settles O26: windows, failures, losses and returns. That the event of a return names the source that had been lost is the model's
choice (log 28). -/
theorem referencesAreJudged : Obligations.ReferencesAreJudged := by
  refine ⟨fun crystal refin ring aon s => driftWindowEnd_counts crystal refin ring aon, ?_, fun s hr hp hs hh => ?_,
    fun r s => refReturn_switchesBack⟩
  · intro crystal refin ring aon so sw ow s hr hp hf hq hb
    exact driftWindowEnd_failed crystal refin ring aon hr hp hf hq hb
  · obtain ⟨failed, reported⟩ := lossAnswered_latched hs
    exact ⟨_, exec_refLost hr hp hs hh, failed, reported, lossAnswered_other, lossAnswered_alone⟩

/-! The voltage references (05 R111, 16 R386). -/

/-- The runs of failed checks, as a check leaves them. -/
def vrefRuns (sel oth : Nat) (s : State) : State := updClocks (fun c => { c with vselRun := sel, vothRun := oth }) s

theorem latchVref_clocks (b : Bool) (s : State) :
    (latchVref b s).clocks = { s.clocks with vrefAFailed := !b || s.clocks.vrefAFailed, vrefBFailed := b || s.clocks.vrefBFailed } := by
  cases b <;> rfl

/-- 05 R111: the fourth check in a row on which the selected reference disagrees switches to the other. -/
theorem checkVref_switches {other bandgap : Int} (ho : 50 < other.natAbs) (hb : 50 < bandgap.natAbs) (hd : (other - bandgap).natAbs ≤ 25)
    (hA : s.clocks.vrefAFailed = false) (hB : s.clocks.vrefBFailed = false) (hn : s.clocks.vselRun = 3) :
    (checkVref other bandgap s).clocks =
      { (latchVref s.clocks.vrefB s).clocks with vrefB := !s.clocks.vrefB, vselRun := 0, vothRun := 0 } := by
  have agree : ¬ 50 < (other - bandgap).natAbs := by omega
  simp only [checkVref, ho, hb, hd, hA, hB, hn, agree]
  simp [latchVref_clocks]

/-- 05 R111: references that agree end the runs. -/
theorem checkVref_agrees {other bandgap : Int} (ho : other.natAbs ≤ 50) (hb : bandgap.natAbs ≤ 50) (hd : (other - bandgap).natAbs ≤ 50) :
    checkVref other bandgap s = vrefRuns 0 0 s := by
  have near_o : ¬ 50 < other.natAbs := by omega
  have near_b : ¬ 50 < bandgap.natAbs := by omega
  have near_d : ¬ 50 < (other - bandgap).natAbs := by omega
  simp [checkVref, near_o, near_b, near_d, vrefRuns]

theorem checkSafeRef_agrees {safe : Int} (h : safe.natAbs ≤ 200) :
    checkSafeRef safe s = { s with safety := { s.safety with refRun := 0 } } := by
  have near : ¬ 200 < safe.natAbs := by omega
  simp [checkSafeRef, near]

/-- 16 R386: the fourth check above 2 % trips. -/
theorem checkSafeRef_trips {safe : Int} (h : 200 < safe.natAbs) (hn : 3 ≤ s.safety.refRun) (hc : .safeRef ∉ s.safety.causes) :
    checkSafeRef safe s = trip .safeRef 0 { s with safety := { s.safety with refRun := 4 } } := by
  have fourth : min 4 (s.safety.refRun + 1) = 4 := by omega
  simp [checkSafeRef, h, fourth, hc]

theorem exec_vrefCheck (hr : running s = true) (hp : s.core.plls = true) (other bandgap safe : Int) :
    exec (.vrefCheck other bandgap safe) s = .next (checkSafeRef safe (checkVref other bandgap s)) :=
  guarded_of (by simp [hr, hp]) _ _

/-- Settles O28: a switch, checks that agree, and a trip. -/
theorem voltageReferencesAreChecked : Obligations.VoltageReferencesAreChecked := by
  refine ⟨fun other bandgap safe s hr hp ho hb hd hA hB hn => ?_, fun other bandgap safe s hr hp ho hb hd hs => ?_,
    fun other bandgap safe s hr hp hs hn hc => ?_⟩
  · have clocks := ((checkSafeRef_eff safe (checkVref other bandgap s)).clocks_eq rfl).trans (checkVref_switches ho hb hd hA hB hn)
    rw [latchVref_clocks, hA, hB] at clocks
    refine ⟨_, exec_vrefCheck hr hp other bandgap safe, ?_, fun h => ?_, fun h => ?_⟩
    · rw [clocks]
    · rw [clocks, h]; exact ⟨rfl, rfl⟩
    · rw [clocks, h]; exact ⟨rfl, rfl⟩
  · rw [exec_vrefCheck hr hp, checkVref_agrees ho hb hd, checkSafeRef_agrees hs]
    rfl
  · have kept : (checkVref other bandgap s).safety = s.safety := (checkVref_eff other bandgap s).safety_eq rfl
    have trips := checkSafeRef_trips (s := checkVref other bandgap s) hs (by rw [kept]; exact hn) (by rw [kept]; exact hc)
    refine ⟨_, exec_vrefCheck hr hp other bandgap safe, ?_⟩
    rw [trips]
    exact ⟨(trip_latches _ _ _).1, trip_dark _ _ _⟩

end Sys2Proof.Proofs
end

section
/-! SUPPORT. What a command leaves alone (00 R6, 06 R148), and O3. -/

namespace Sys2Proof.Proofs

open Sys2Proof Machine Laws

/-- The effect of a command is that of the state it answers. -/
theorem eff_of_exec {c : Instr} {s t : State} (h : exec c s = .next t) : Eff (touches c) s t := by
  obtain ⟨u, answered, effect⟩ := exec_eff c s
  obtain rfl := Host.Outcome.next.inj (answered.symm.trans h)
  exact effect

/-- No command lists the fuses or the queue among the parts it may change. -/
theorem touches_keepsFuses (c : Instr) : KeepsFuses.Statement c := by
  cases c <;> exact ⟨rfl, rfl⟩

/-- Settles O3, by the effect of each command. -/
theorem everyCommandKeepsTheOtherParts : Obligations.EveryCommandKeepsTheOtherParts := by
  refine ⟨fun c s t h => (eff_of_exec h).frame, fun c s t h => ?_⟩
  obtain ⟨noFuses, noPending⟩ := touches_keepsFuses c
  exact ⟨(eff_of_exec h).fuses_eq noFuses, (eff_of_exec h).pending_eq noPending⟩

end Sys2Proof.Proofs
end

section
/-! SUPPORT. The allocator and the start of a leaf-lane job (06 R115 to R117, 08 R184, R200, R203, 09 R209 to R213), and O38. -/

namespace Sys2Proof.Proofs

open Sys2Proof Machine Laws

variable {s : State} {j : Job} {rest : List Job} {header : List Byte} {i n : Nat}

/-! The allocator gives every block that it is asked for, while there are as many FREE ones (09 R213). -/

/-- A block of the frame store lies in one of its four quads. -/
theorem mem_inQuad_quadOf {free : List Nat} {b : Nat} (hb : b ∈ free) : b ∈ inQuad free (quadOf b) :=
  List.mem_filter.mpr ⟨hb, by simp⟩

theorem quadOf_lt {b : Nat} (hb : b < 128) : quadOf b < 4 := by
  unfold quadOf
  omega

/-- The next quad has a FREE block when any quad has. -/
theorem inQuad_nextQuad_ne_nil {free : List Nat} {b : Nat} (hb : b ∈ free) (hlt : b < 128) (k : Nat) :
    inQuad free (nextQuad free k) ≠ [] := by
  have found : (([1, 2, 3, 4].map fun d => (k + d) % 4).find? fun q => !(inQuad free q).isEmpty).isSome := by
    refine List.find?_isSome.mpr ⟨quadOf b, ?_, ?_⟩
    · have := quadOf_lt hlt
      simp only [List.map_cons, List.map_nil, List.mem_cons, List.not_mem_nil, or_false]
      omega
    · simpa using List.ne_nil_of_mem (mem_inQuad_quadOf hb)
  obtain ⟨q, hq⟩ := Option.isSome_iff_exists.mp found
  unfold nextQuad
  rw [hq]
  simpa using List.find?_some hq

/-- Of two quads the one with more FREE blocks, the first of equals. -/
def fuller (free : List Nat) (k q : Nat) : Nat := if (inQuad free k).length < (inQuad free q).length then q else k

theorem fullestQuad_eq_foldl (free : List Nat) : fullestQuad free = [1, 2, 3].foldl (fuller free) 0 := rfl

theorem inQuad_length_le_fuller (free : List Nat) (k q : Nat) :
    (inQuad free k).length ≤ (inQuad free (fuller free k q)).length ∧
      (inQuad free q).length ≤ (inQuad free (fuller free k q)).length := by
  unfold fuller
  split <;> omega

theorem inQuad_length_le_foldl (free l : List Nat) (k : Nat) :
    ∀ q ∈ k :: l, (inQuad free q).length ≤ (inQuad free (l.foldl (fuller free) k)).length := by
  induction l generalizing k with
  | nil => simp
  | cons x l ih =>
    have chosen := ih (fuller free k x) _ List.mem_cons_self
    obtain ⟨first, second⟩ := inQuad_length_le_fuller free k x
    intro q hq
    rcases List.mem_cons.mp hq with rfl | hq
    · exact first.trans chosen
    rcases List.mem_cons.mp hq with rfl | hq
    · exact second.trans chosen
    · exact ih _ q (List.mem_cons_of_mem _ hq)

/-- No quad has more FREE blocks than the fullest. -/
theorem inQuad_length_le_fullestQuad (free : List Nat) {q : Nat} (hq : q < 4) :
    (inQuad free q).length ≤ (inQuad free (fullestQuad free)).length := by
  rw [fullestQuad_eq_foldl]
  refine inQuad_length_le_foldl free _ 0 q ?_
  simp only [List.mem_cons, List.not_mem_nil, or_false]
  omega

theorem inQuad_fullestQuad_ne_nil {free : List Nat} {b : Nat} (hb : b ∈ free) (hlt : b < 128) :
    inQuad free (fullestQuad free) ≠ [] := by
  refine List.ne_nil_of_length_pos (Nat.lt_of_lt_of_le ?_ (inQuad_length_le_fullestQuad free (quadOf_lt hlt)))
  exact List.length_pos_of_mem (mem_inQuad_quadOf hb)

theorem length_takeBlocks : ∀ (n k : Nat) (free : List Nat), (∀ b ∈ free, b < 128) → n ≤ free.length →
    (free ≠ [] → inQuad free k ≠ []) → (takeBlocks n k free).length = n
  | 0, _, _, _, _, _ => rfl
  | n + 1, k, free, hlt, hn, hk => by
    unfold takeBlocks
    cases hq : inQuad free k with
    | nil => exact absurd hq (hk (List.ne_nil_of_length_pos (by omega)))
    | cons b _ =>
      have left : (free.erase b).length = free.length - 1 := List.length_erase_of_mem (inQuad_mem hq)
      have bounded : ∀ c ∈ free.erase b, c < 128 := fun c hc => hlt c (List.mem_of_mem_erase hc)
      refine congrArg (· + 1) (length_takeBlocks n _ _ bounded (by omega) fun hne => ?_)
      obtain ⟨c, hc⟩ := List.exists_mem_of_ne_nil _ hne
      exact inQuad_nextQuad_ne_nil hc (bounded c hc) k

theorem length_allocBlocks {q : Pens} (hn : n ≤ (freeBlocks q).length) : (allocBlocks q n).length = n := by
  have bounded : ∀ b ∈ freeBlocks q, b < 128 := fun b hb => (freeBlocks_unused hb).1
  refine length_takeBlocks _ _ _ bounded hn fun hne => ?_
  obtain ⟨b, hb⟩ := List.exists_mem_of_ne_nil _ hne
  exact inQuad_fullestQuad_ne_nil hb (bounded b hb)

theorem allocBlocks_free {q : Pens} {b : Nat} (hb : b ∈ allocBlocks q n) : b ∈ freeBlocks q :=
  (takeBlocks_spec n _ _ (freeBlocks_nodup q)).2 b hb

/-! A job's pen. -/

/-- A pen that is added under a number not in use is found under it. -/
theorem penOf_addPen (hi : penOf s s.pens.next = none) (q : Pen) : penOf (addPen q s).2 s.pens.next = some q := by
  have absent : s.pens.list.find? (·.1 == s.pens.next) = none := by simpa [penOf] using hi
  simp [penOf, addPen, absent]

/-- The pen that a job which holds none fills. -/
def jobPen (blocks : List Nat) (j : Job) : Pen :=
  { kind := penKindOf j.kind, state := .filling, blocks, crc := j.crc
    leafLength := if isCalJob j then j.leaf else j.leafLength, leafKind := j.kind }

theorem allocateJob_pattern (hq : j.requester = .pattern) (n : Nat) (s : State) :
    allocateJob n j s =
      setRunning { j with pen := some s.pens.next, started := true } (addPen (jobPen (allocBlocks s.pens n) j) s).2 := by
  simp only [allocateJob, hq]
  rfl

/-! Room (09 R212). -/

theorem reclaim_of_room (hn : n ≤ roomBlocks s.pens) (l : List (Nat × Pen)) : reclaim n l s = s := by
  cases l with
  | nil => rfl
  | cons e l => rw [reclaim, if_pos hn]

/-- A pattern job that finds its blocks FREE gets its pen. -/
theorem placeJob_fits (hq : j.requester = .pattern) (hn : n ≤ (freeBlocks s.pens).length) :
    placeJob n j s = allocateJob n j s := by
  have room : n ≤ roomBlocks s.pens := Nat.le_add_right_of_le hn
  simp [placeJob, hq, mayReclaim, reclaim_of_room room, Nat.not_lt.mpr room, Nat.not_lt.mpr hn]

/-- The lane as it reports that a job of n blocks has no room. -/
def roomLacking (n : Nat) (j : Job) (s : State) : State :=
  report evNoRoom 0 (n - roomBlocks s.pens) (setRunning { j with pen := none } s)

/-- A pattern job without room and with nothing to reclaim is refused. -/
theorem placeJob_refused (hq : j.requester = .pattern) (hn : roomBlocks s.pens < n) (hl : reclaimable s = []) :
    placeJob n j s = jobFails .noRoom j (roomLacking n j s) := by
  simp [placeJob, hq, mayReclaim, hl, reclaim, hn, roomLacking]

/-- A job that holds no pen frees none as it leaves the lane. -/
theorem endRunning_eff_penless (hr : s.codec.running = some j) (hp : j.pen = none) : Eff [.codec] s (endRunning s) := by
  simp only [endRunning, hr, Option.bind_some, hp]
  exact (Eff.set_codec (Eff.refl _ _) rfl).comp (promote_eff _) rfl

theorem jobFails_noRoom_pattern (hq : j.requester = .pattern) (hj : j.joined = []) (s : State) :
    jobFails .noRoom j s = refusePending j.entry (endedJob (some .pattern) j.leaf 0 (endRunning s)) := by
  simp [jobFails, hq, hj, requesterFails]

/-- 09 R212: a job refused for room leaves the lane with no pen taken, is reported, and drops its selection. -/
theorem jobFails_roomLacking (hq : j.requester = .pattern) (hj : j.joined = []) (n : Nat) (s : State) :
    let t := jobFails .noRoom j (roomLacking n j s)
    t.codec.running = none ∧ t.pens = s.pens ∧ t.select = (refusePending j.entry s).select ∧
      Reported evNoRoom (n - roomBlocks s.pens) t := by
  have lacking : Eff [.codec, .beacon] s (roomLacking n j s) :=
    ((setRunning_eff _ _).mono rfl).comp (report_eff _ _ _ _) rfl
  have refused : (roomLacking n j s).codec.running = some { j with pen := none } := by
    rw [roomLacking, report_codec, setRunning_codec]
  have ended : Eff [.codec] (roomLacking n j s) (endedJob (some .pattern) j.leaf 0 (endRunning (roomLacking n j s))) :=
    (endRunning_eff_penless refused rfl).comp (endedJob_eff _ _ _ _) rfl
  have dropped := refusePending_eff j.entry (endedJob (some .pattern) j.leaf 0 (endRunning (roomLacking n j s)))
  dsimp only
  rw [jobFails_noRoom_pattern hq hj, dropped.codec_eq rfl, dropped.pens_eq rfl, ended.pens_eq rfl, lacking.pens_eq rfl]
  exact ⟨endRunning_idle (roomLacking n j s), rfl,
    refusePending_select ((ended.select_eq rfl).trans (lacking.select_eq rfl)),
    reported_of_eff (reported_of_eff (report_reported _ _ _ _) ended rfl) dropped rfl⟩

/-! The start of a job (08 R200). -/

/-- A leaf that a pen holds is given at once (08 R203). -/
theorem startJob_held (hk : j.kind < 3) (hq : j.requester = .pattern) (hj : j.joined = [])
    (hp : penWith s (jobKey j) = some i) : startJob header j s = promote s := by
  simp [startJob, isCalJob_leaf hk, hq, hp, jobGains_alone (.inl hq) hj]

/-- A leaf that no pen holds, with a header that passes, asks for its blocks. -/
theorem startJob_placed (hk : j.kind < 3) (hq : j.requester = .pattern) (hp : penWith s (jobKey j) = none)
    (he : leafHeaderError (limitsOf s j) header j.leafLength = none) :
    startJob header j s = placeJob (leafOutSpace header) j s := by
  simp [startJob, isCalJob_leaf hk, hq, hp, he]

/-- The lane has taken a job from the queue, and the job's reads are issued. -/
def jobTaken (j : Job) (rest : List Job) (s : State) : State :=
  issueReads (jobSpans s j) { s with codec := takeCodec (live s) true { s.codec with running := none, queue := rest } }

theorem jobTaken_eff (j : Job) (rest : List Job) (s : State) : Eff [.mem, .codec] s (jobTaken j rest s) :=
  (Eff.set_codec (Eff.refl _ _) rfl).comp (issueReads_eff _ _) rfl

theorem jobTaken_issued (j : Job) (rest : List Job) (s : State) :
    (jobTaken j rest s).mem.issued = readCommands s.mem.mode (fnat (live s) memportReadChunk) (jobSpans s j) := rfl

theorem exec_leafJobStart (hs : sysRuns s = true) (hb : busFree s = true) (hr : s.codec.running = none)
    (hl : s.codec.queue = j :: rest) (hf : j.fromTwin = false) (header : List Byte) :
    exec (.leafJobStart header) s = .next (promote (startJob header j (jobTaken j rest s))) := by
  simp only [exec, execLeafJobStart, nextJob, hr, hl]
  exact guarded_of (by simp [hs, hb, hf]) _ _

theorem exec_leafJobStart_idle (h : nextJob s = none) (header : List Byte) : exec (.leafJobStart header) s = .next s := by
  simp [exec, execLeafJobStart, h]

/-! The end of a pen (09 R211). -/

/-- Bringing the reserve to its size moves no pen. -/
theorem fitReserve_list (s : State) : (fitReserve s).pens.list = s.pens.list := by
  unfold fitReserve
  dsimp only
  split <;> rfl

theorem freePen_list {q : Pen} (hp : penOf s i = some q) : (freePen i s).pens.list = s.pens.list.filter (·.1 != i) := by
  simp only [freePen, hp, fitReserve_list]
  split <;> rfl

theorem exec_penFreed {q : Pen} (hr : running s = true) (hp : penOf s i = some q) (hq : freeable s q = true) :
    exec (.penFreed i) s = .next (freePen i s) :=
  guarded_of (by simp [hr, hp, hq]) _ _

/-- Settles O38: a held leaf, a leaf with its blocks FREE, one without room, an idle lane, and a retired pen. -/
theorem leafJobsStart : Obligations.LeafJobsStart := by
  refine ⟨fun header j rest s hs hb hr hl hq hj hk hf => ?_, fun header s h => exec_leafJobStart_idle h header,
    fun i q s hr hp hst ha hb hm hbusy => ?_⟩
  · have starts := exec_leafJobStart hs hb hr hl hf header
    have taken := jobTaken_eff j rest s
    have idle : (jobTaken j rest s).codec.running = none := rfl
    refine ⟨fun i hp => ?_, fun hp he => ⟨fun hn hi => ?_, fun hn hc => ?_⟩⟩
    · rw [startJob_held (s := jobTaken j rest s) hk hq hj hp] at starts
      have kept := (taken.comp (promote_eff _) rfl).comp (promote_eff _) rfl
      exact ⟨_, starts, idle, kept.pens_eq rfl, kept.select_eq rfl⟩
    · rw [startJob_placed (s := jobTaken j rest s) hk hq hp he, placeJob_fits (s := jobTaken j rest s) hq hn,
        allocateJob_pattern hq] at starts
      exact ⟨_, _, starts, rfl, penOf_addPen (s := jobTaken j rest s) hi _, rfl, rfl, length_allocBlocks hn,
        fun b => allocBlocks_free, (allocBlocks_spec s.pens _).1, jobTaken_issued j rest s, rfl⟩
    · rw [startJob_placed (s := jobTaken j rest s) hk hq hp he, placeJob_refused (s := jobTaken j rest s) hq hn hc] at starts
      obtain ⟨idle, pens, select, reported⟩ := jobFails_roomLacking hq hj (leafOutSpace header) (jobTaken j rest s)
      have promoted := promote_eff (jobFails .noRoom j (roomLacking (leafOutSpace header) j (jobTaken j rest s)))
      exact ⟨_, starts, idle, pens, select.trans (refusePending_select (taken.select_eq rfl)),
        reported_of_eff reported promoted rfl⟩
  · exact ⟨_, exec_penFreed hr hp (by simp [freeable, hst, ha, hb, hm, hbusy]), freePen_list hp⟩

end Sys2Proof.Proofs
end

section
/-! SUPPORT. Pulses and the outcomes of a gathering (07 R150 to R154, R171): what is seen of a level, how a gathering closes; and O31,
O32 and O33. -/

namespace Sys2Proof.Proofs

open Sys2Proof Machine Laws

variable {s t : State} {n a : Nat}

/-! A level behind its filter (07 R150). -/

/-- What a command that a filtered level brings comes to: f where the level is seen. -/
def filtered (len always : Nat) (f : State → State) (s : State) : State :=
  if (pulse s len 0 always).1 then f (pulse s len 0 always).2 else (pulse s len 0 always).2

theorem filtered_seen (h : a ≤ n) (f : State → State) (s : State) : filtered n a f s = f s := by
  simp [filtered, pulse, h]

/-- The state with its next free value drawn. -/
def drawn (s : State) : State := { s with free := s.free + 1 }

theorem filtered_short (h : n < a) (f : State → State) (s : State) :
    filtered n a f s = f (drawn s) ∨ filtered n a f s = drawn s := by
  have draws : pulse s n 0 a = (Config.pulseSeen s.free, drawn s) := by simp [pulse, Nat.not_le.mpr h, drawn]
  rw [filtered, draws]
  cases Config.pulseSeen s.free
  · exact .inr rfl
  · exact .inl rfl

/-- 07 R150: a level too short to be always seen is seen as one that is, or not at all. -/
theorem guarded_filtered_short (h : n < a) {c : State → Bool} (hs : c s = true) (hu : c (drawn s) = true) (f : State → State) :
    guarded (c s) s (filtered n a f s) = guarded (c (drawn s)) (drawn s) (filtered a a f (drawn s)) ∨
      guarded (c s) s (filtered n a f s) = .next (drawn s) := by
  rw [guarded_of hs, guarded_of hu, filtered_seen (Nat.le_refl a)]
  rcases filtered_short h f s with seen | missed
  · exact .inl (by rw [seen])
  · exact .inr (by rw [missed])

/-! The four edges. -/

/-- A gathering is open (07 R151, R152). -/
def gatherOpened (s : State) : State :=
  { s with gather := { s.gather with state := .opened, latched := none }, binding := { s.binding with twin := false } }

/-- A falling edge of `CFG_OPEN_N` that is seen. -/
def openEdge (s : State) : State :=
  if stat s == 0 || stat s == 7 then s
  else if s.pins.abortLow then refuseOpen 0x4A s
  else if (domainOf s .mem).quarantined then refuseOpen 0x49 s
  else gatherOpened s

theorem exec_gatheringOpen (n : Nat) (s : State) :
    exec (.gatheringOpen n) s = guarded (sysRuns s && s.gather.state == .closed) s (filtered n 50 openEdge s) := by
  refine congrArg (guarded _ s) ?_
  unfold filtered openEdge gatherOpened
  cases (pulse s n 0 50).1
  · rfl
  · simp

theorem exec_gatheringCancel (n : Nat) (s : State) :
    exec (.gatheringCancel n) s = guarded (sysRuns s && s.gather.state == .opened) s (filtered n 50 (closeGather 4 0x40) s) := rfl

/-- A stitch request (07 R153). -/
def stitchRequested (s : State) : State :=
  beginSelection true { s with gather := { s.gather with state := .validate, pendingAt := s.select.pending } }

/-- A rising edge of `CFG_STITCH` that is ignored (07 R153). -/
def stitchIgnored (s : State) : State := { s with beacon := { s.beacon with stitchIgnored := satInc s.beacon.stitchIgnored } }

/-- A rising edge of `CFG_STITCH` that is seen. -/
def stitchEdge (s : State) : State := if s.gather.state == .opened then stitchRequested s else stitchIgnored s

theorem exec_stitchRequest (n : Nat) (s : State) :
    exec (.stitchRequest n) s = guarded (sysRuns s) s (filtered n 50 stitchEdge s) := by
  refine congrArg (guarded _ s) ?_
  unfold filtered
  cases (pulse s n 0 50).1 <;> rfl

/-- The abort begins: the transfer under way ends with what the flash has given (07 R176, 06 R121). -/
def abortBegun (read : Nat) (s : State) : State :=
  { s with pins := { s.pins with abortLow := true }, gather := { s.gather with aborting := true }
           mem := { s.mem with unread := dropSpans read s.mem.unread } }

/-- An abort apart from the gathering: both lanes stop (07 R176). -/
def lanesAborted (read : Nat) (s : State) : State := abortFrame (discardCanvas 0x81 (abortJobs (abortBursts (abortBegun read s))))

/-- A falling edge of `ABORT_N` that is seen. -/
def abortEdge (read : Nat) (s : State) : State := resumeRead (coverFault 25 255 (rollback 0x42 (lanesAborted read s)))

theorem exec_abort (n r : Nat) (s : State) :
    exec (.abort ⟨n, r⟩) s = guarded (sysRuns s && !s.pins.abortLow) s (filtered n 40 (abortEdge r) s) := rfl

/-- Settles O32, edge by edge: each command is its edge behind a filter. -/
theorem shortLevelsAreWholeOrNothing : Obligations.ShortLevelsAreWholeOrNothing := by
  intro n s hs
  refine ⟨fun hn hg => ?_, fun hn hg => ?_, fun hn => ?_, fun hn ha r => ?_⟩
  · have closed : (sysRuns s && s.gather.state == .closed) = true := by simp [hs, hg]
    rw [exec_gatheringOpen, exec_gatheringOpen]
    exact guarded_filtered_short (c := fun s => sysRuns s && s.gather.state == .closed) hn closed closed openEdge
  · have opened : (sysRuns s && s.gather.state == .opened) = true := by simp [hs, hg]
    exact guarded_filtered_short (c := fun s => sysRuns s && s.gather.state == .opened) hn opened opened (closeGather 4 0x40)
  · rw [exec_stitchRequest, exec_stitchRequest]
    exact guarded_filtered_short hn hs hs stitchEdge
  · have high : (sysRuns s && !s.pins.abortLow) = true := by simp [hs, ha]
    exact guarded_filtered_short (c := fun s => sysRuns s && !s.pins.abortLow) hn high high (abortEdge r)

/-! Outcomes (07 R171). -/

/-- A gathering has closed with an outcome and a reason, and it is reported. -/
structure ClosedWith (outcome reason : Nat) (t : State) : Prop where
  closed : t.gather.state = .closed
  outcome_eq : t.gather.outcome = outcome
  reason_eq : t.gather.reason = reason
  reported : Reported evGathering outcome t

theorem closedWith_of_eff {o r : Nat} {l : List Part} (h : ClosedWith o r s) (e : Eff l s t) (hg : l.contains .gather = false)
    (hb : l.contains .beacon = false) : ClosedWith o r t := by
  have gather := e.gather_eq hg
  exact ⟨by rw [gather, h.closed], by rw [gather, h.outcome_eq], by rw [gather, h.reason_eq], reported_of_eff h.reported e hb⟩

/-- What leaves the queue of events alone drops no event. -/
theorem reported_of_queue {c j : Nat} (h : Reported c j s) (e : t.beacon.queue = s.beacon.queue) : Reported c j t := by
  unfold Reported at *
  rwa [e]

/-- A pending selection that ends loses no event reported. -/
theorem reported_resolvePending {c j : Nat} (h : Reported c j s) : Reported c j (resolvePending s) := by
  unfold resolvePending
  split
  · exact h
  split
  · refine reported_report ?_ _ _ _
    exact reported_of_queue h rfl
  split
  · exact h
  · exact reported_of_eff h (requestEntry_eff _ _ _ _ _) rfl

/-- The gathering is over and its outcome reported: the part of a closing that speaks of the gathering. -/
def outcomeReported (outcome reason : Nat) (s : State) : State :=
  report evGathering reason outcome
    { s with
      gather := { outcome, reason, restoreFailed := s.gather.restoreFailed, reshowDue := s.gather.reshowDue
                  retryDue := s.gather.retryDue, aborting := s.gather.aborting
                  relight := s.gather.bridge && s.gather.state == .restore && (leadPort s).isSome }
      binding := { s.binding with reader := {} } }

/-- What follows in a closing: pens, the pending selection and the twin's check. -/
theorem closeGather_behind (outcome reason : Nat) (s : State) :
    Eff [.mem, .pens] (resolvePending (outcomeReported outcome reason s)) (closeGather outcome reason s) := by
  have unwanted := dropUnwanted_eff (resolvePending (outcomeReported outcome reason s))
  refine Eff.ite (fun _ => unwanted.mono rfl) fun _ => ?_
  exact (Eff.set_mem (unwanted.mono rfl) rfl).comp (pumpReads_eff _) rfl

theorem closeGather_gather (outcome reason : Nat) (s : State) :
    (closeGather outcome reason s).gather = (outcomeReported outcome reason s).gather := by
  rw [(closeGather_behind _ _ _).gather_eq rfl, (resolvePending_eff _).gather_eq rfl]

theorem closeGather_binding (outcome reason : Nat) (s : State) :
    (closeGather outcome reason s).binding = { s.binding with reader := {} } := by
  rw [(closeGather_behind _ _ _).binding_eq rfl, (resolvePending_eff _).binding_eq rfl, outcomeReported, report_binding]

/-- A gathering closes with its outcome and reason, and leaves nothing of itself but an abort that goes on. -/
theorem closeGather_closedWith (outcome reason : Nat) (s : State) : ClosedWith outcome reason (closeGather outcome reason s) := by
  have gather := closeGather_gather outcome reason s
  refine ⟨by simp [gather, outcomeReported], by simp [gather, outcomeReported], by simp [gather, outcomeReported], ?_⟩
  exact reported_of_eff (reported_resolvePending (report_reported _ _ _ _)) (closeGather_behind _ _ _) rfl

theorem closeGather_live (outcome reason : Nat) (s : State) :
    (closeGather outcome reason s).binding.live = s.binding.live := by rw [closeGather_binding]

theorem closeGather_shadow (outcome reason : Nat) (s : State) : (closeGather outcome reason s).gather.shadow = none := by
  simp [closeGather_gather, outcomeReported]

theorem closeGather_aborting (outcome reason : Nat) (s : State) :
    (closeGather outcome reason s).gather.aborting = s.gather.aborting := by
  simp [closeGather_gather, outcomeReported]

/-! Opening (07 R151, R152, R154). -/

/-- 07 R151: a refusal keeps the gathering closed and gives its reason; that it is reported as REJECTED is the model's (log 108). -/
theorem refuseOpen_refuses (reason : Nat) (s : State) :
    (refuseOpen reason s).gather = { s.gather with outcome := 2, reason } ∧ (refuseOpen reason s).binding = s.binding ∧
      Reported evGathering 2 (refuseOpen reason s) := by
  unfold refuseOpen
  exact ⟨report_gather _ _ _ _, report_binding _ _ _ _, report_reported _ _ _ _⟩

theorem openEdge_ignored (h : stat s = 0 ∨ stat s = 7) : openEdge s = s := by
  have ignored : (stat s == 0 || stat s == 7) = true := by simpa using h
  exact if_pos ignored

theorem openEdge_refused (h0 : stat s ≠ 0) (h7 : stat s ≠ 7) (ha : s.pins.abortLow = true) : openEdge s = refuseOpen 0x4A s := by
  simp [openEdge, h0, h7, ha]

theorem openEdge_quarantined (h0 : stat s ≠ 0) (h7 : stat s ≠ 7) (ha : s.pins.abortLow = false)
    (hq : (domainOf s .mem).quarantined = true) : openEdge s = refuseOpen 0x49 s := by
  simp [openEdge, h0, h7, ha, hq]

theorem openEdge_opens (h0 : stat s ≠ 0) (h7 : stat s ≠ 7) (ha : s.pins.abortLow = false)
    (hq : (domainOf s .mem).quarantined = false) : openEdge s = gatherOpened s := by
  simp [openEdge, h0, h7, ha, hq]

theorem exec_gatheringTimeout (hs : sysRuns s = true) (hg : s.gather.state = .opened) :
    exec .gatheringTimeout s = .next (closeGather 3 0x41 s) := guarded_of (by simp [hs, hg]) _ _

/-- Settles O31: the four answers to the falling edge, and the two ends of an open gathering. -/
theorem gatheringsOpenAndClose : Obligations.GatheringsOpenAndClose := by
  refine ⟨fun n s hs hg hn => ?_, fun n s hs hg hn => ?_, fun s hs hg => ?_⟩
  · have edge : exec (.gatheringOpen n) s = .next (openEdge s) := by
      rw [exec_gatheringOpen, filtered_seen hn, guarded_of (by simp [hs, hg])]
    refine ⟨fun h0 h7 ha hq => ?_, fun h0 h7 ha => ?_, fun h0 h7 ha hq => ?_, fun h => ?_⟩
    · rw [edge, openEdge_opens h0 h7 ha hq]
      rfl
    · exact ⟨_, edge, openEdge_refused h0 h7 ha ▸ refuseOpen_refuses 0x4A s⟩
    · exact ⟨_, edge, openEdge_quarantined h0 h7 ha hq ▸ refuseOpen_refuses 0x49 s⟩
    · rw [edge, openEdge_ignored h]
  · have cancels : exec (.gatheringCancel n) s = .next (closeGather 4 0x40 s) := by
      rw [exec_gatheringCancel, filtered_seen hn, guarded_of (by simp [hs, hg])]
    obtain ⟨closed, outcome, reason, reported⟩ := closeGather_closedWith 4 0x40 s
    exact ⟨_, cancels, closed, outcome, reason, closeGather_live 4 0x40 s, reported⟩
  · obtain ⟨closed, outcome, reason, reported⟩ := closeGather_closedWith 3 0x41 s
    exact ⟨_, exec_gatheringTimeout hs hg, closed, outcome, reason, closeGather_live 3 0x41 s, reported⟩

/-! The stitch request (07 R153). -/

/-- 07 R153, R159: a stitch request begins a selection that a stitch asks for. -/
theorem stitchRequested_begins (s : State) :
    (stitchRequested s).gather = { s.gather with state := .validate, pendingAt := s.select.pending } ∧
      (stitchRequested s).binding = { s.binding with reader := { phase := .spines, stitch := true, n := toolCode s } } ∧
      (stitchRequested s).beacon = s.beacon := by
  have asks := askReads_eff [.spine (copyPref s), .spine (otherCopy (copyPref s))] (updReader
    (fun _ => { phase := .spines, stitch := true, n := toolCode s })
    { s with gather := { s.gather with state := .validate, pendingAt := s.select.pending } })
  exact ⟨asks.gather_eq rfl, asks.binding_eq rfl, asks.beacon_eq rfl⟩

/-- Without an open gathering no timeout runs. -/
theorem exec_gatheringTimeout_notOpen (h : s.gather.state ≠ .opened) : exec .gatheringTimeout s = .next s :=
  guarded_not (by simp [h]) _ _

/-- Settles O33: the first edge of an open gathering, and every other. -/
theorem stitchRequestsBeginAValidation : Obligations.StitchRequestsBeginAValidation := by
  refine ⟨fun n s hs hg hn => ?_, fun n s hs hg hn => ?_⟩
  · have requested : stitchEdge s = stitchRequested s := if_pos (beq_iff_eq.mpr hg)
    have edge : exec (.stitchRequest n) s = .next (stitchRequested s) := by
      rw [exec_stitchRequest, filtered_seen hn, guarded_of hs, requested]
    obtain ⟨gather, binding, beacon⟩ := stitchRequested_begins s
    refine ⟨_, edge, gather, ?_, ?_, ?_, ?_, beacon, exec_gatheringTimeout_notOpen (by simp [gather])⟩ <;> rw [binding]
  · have ignored : stitchEdge s = stitchIgnored s := if_neg (mt beq_iff_eq.mp hg)
    rw [exec_stitchRequest, filtered_seen hn, guarded_of hs, ignored]
    rfl

end Sys2Proof.Proofs
end

section
/-! SUPPORT. Requests of the leaf lane (08 R181, R203): a pen that holds a leaf is given, and a leaf that no pen holds is asked of the lane;
strobes (10 R242, R243), and O42. -/

namespace Sys2Proof.Proofs

open Sys2Proof Machine Laws

variable {s : State} {c : Settings} {r : Requester} {i n : Nat} {shadow : Bool}

/-! Which pens hold leaves. -/

/-- A pen held for a stitch holds the leaf that it held. -/
theorem penWith_holdPen (r : Requester) (i : Nat) (s : State) (e : LeafEntry) : penWith (holdPen r i s) e = penWith s e := by
  unfold holdPen
  split
  · have same : ∀ q : Nat × Pen, holdsLeaf e (if q.1 == i then (q.1, { q.2 with stitch := true }) else q).2 = holdsLeaf e q.2 := by
      intro q
      split <;> rfl
    have number : ∀ q : Nat × Pen, (if q.1 == i then (q.1, { q.2 with stitch := true }) else q).1 = q.1 := by
      intro q
      split <;> rfl
    simp only [penWith, updPen, List.filter_map, Function.comp_def, same, List.getLast?_map, Option.map_map, number]
  · rfl

/-- What leaves the pens alone leaves every leaf held as it is. -/
theorem penWith_of_pens {t : State} (h : t.pens = s.pens) (e : LeafEntry) : penWith t e = penWith s e := by rw [penWith, h, penWith]

/-- The job of a request for a leaf. -/
def leafJob (shadow : Bool) (c : Settings) (r : Requester) (n i : Nat) : Job :=
  { leaf := i, leafLength := (leafOf c i).length, crc := (leafOf c i).crc, kind := (leafOf c i).kind, requester := r, entry := n
    shadow, src := c }

theorem requestLeaf_held {p : Nat} (hr : r ≠ .recheck) (h : penWith s (leafOf c i) = some p) :
    requestLeaf shadow c r n i s = holdPen r p s := by
  simp [requestLeaf, h, hr]

/-- A request for a leaf that no pen holds changes the lane's queues alone. -/
theorem requestLeaf_missing_eff (h : penWith s (leafOf c i) = none) : Eff [.codec] s (requestLeaf shadow c r n i s) := by
  simp only [requestLeaf, h]
  exact Eff.ite (fun _ => Eff.set_codec (Eff.refl _ _) rfl) fun _ => Eff.ite
    (fun _ => (Eff.set_codec (Eff.refl _ _) rfl).comp (enqueue_eff _ _) rfl) fun _ => enqueue_eff _ _

theorem penWith_requestLeaf (hr : r ≠ .recheck) (e : LeafEntry) : penWith (requestLeaf shadow c r n i s) e = penWith s e := by
  cases h : penWith s (leafOf c i) with
  | none => exact penWith_of_pens ((requestLeaf_missing_eff h).pens_eq rfl) e
  | some p => rw [requestLeaf_held hr h, penWith_holdPen]

/-! The jobs of the lane. -/

theorem laneJobs_promote (s : State) : laneJobs (promote s) = laneJobs s := by
  simp [laneJobs, promote, List.append_assoc]

theorem laneJobs_enqueue (j : Job) (s : State) : laneJobs (enqueue j s) = laneJobs s ++ [j] := by
  rw [enqueue, laneJobs_promote]
  simp [laneJobs, List.append_assoc]

/-- A request for a leaf that no pen holds joins the jobs for it, or is a job of its own. -/
theorem laneJobs_requestLeaf (h : penWith s (leafOf c i) = none) :
    laneJobs (requestLeaf shadow c r n i s) =
      if (laneJobs s).any (sameLeaf (leafJob shadow c r n i)) then (laneJobs s).map (joinJob (leafJob shadow c r n i) r n)
      else laneJobs s ++ [leafJob shadow c r n i] := by
  simp only [requestLeaf, h]
  change laneJobs (if (laneJobs s).any (sameLeaf (leafJob shadow c r n i)) = true then _ else _) = _
  split
  · simp [laneJobs, leafJob]
    cases s.codec.running <;> rfl
  split
  · exact laneJobs_enqueue _ _
  · exact laneJobs_enqueue _ _

/-- A job decodes the leaf of a table entry, for a requester among others. -/
structure Serves (k : LeafEntry) (r : Requester) (j : Job) : Prop where
  length : j.leafLength = k.length
  crc : j.crc = k.crc
  kind : j.kind = k.kind
  asked : j.requester = r ∨ ∃ q ∈ j.joined, q.1 = r

theorem serves_leafJob : Serves (leafOf c i) r (leafJob shadow c r n i) := ⟨rfl, rfl, rfl, .inl rfl⟩

theorem serves_joinJob {k : LeafEntry} {q : Requester} {j : Job} (h : Serves k q j) (g : Job) (r : Requester) (n : Nat) :
    Serves k q (joinJob g r n j) := by
  unfold joinJob
  split
  · refine ⟨h.length, h.crc, h.kind, h.asked.imp id ?_⟩
    rintro ⟨p, hp, rfl⟩
    exact ⟨p, List.mem_append_left _ hp, rfl⟩
  · exact h

/-- A request for a leaf that a job decodes joins that job. -/
theorem serves_joined {j : Job} (h : sameLeaf (leafJob shadow c r n i) j = true) :
    Serves (leafOf c i) r (joinJob (leafJob shadow c r n i) r n j) := by
  have same := h
  simp only [sameLeaf, Bool.and_eq_true, beq_iff_eq] at same
  obtain ⟨⟨⟨-, length⟩, crc⟩, kind⟩ := same
  rw [joinJob, if_pos h]
  exact ⟨length.symm, crc.symm, kind.symm, .inr ⟨(r, n), List.mem_append_right _ (List.mem_singleton.mpr rfl), rfl⟩⟩

/-- A job of the lane that decodes a leaf for a requester. -/
def LaneServes (s : State) (k : LeafEntry) (r : Requester) : Prop := ∃ j ∈ laneJobs s, Serves k r j

/-- A leaf that no pen holds is asked of the lane. -/
theorem requestLeaf_laneServes (h : penWith s (leafOf c i) = none) :
    LaneServes (requestLeaf shadow c r n i s) (leafOf c i) r := by
  unfold LaneServes
  rw [laneJobs_requestLeaf h]
  split
  next joins =>
    obtain ⟨j, hj, same⟩ := List.any_eq_true.mp joins
    exact ⟨_, List.mem_map_of_mem hj, serves_joined same⟩
  next => exact ⟨_, List.mem_append_right _ (List.mem_singleton.mpr rfl), serves_leafJob⟩

/-- A later request leaves the earlier ones. -/
theorem laneServes_requestLeaf {k : LeafEntry} {q : Requester} (hr : r ≠ .recheck) (h : LaneServes s k q) :
    LaneServes (requestLeaf shadow c r n i s) k q := by
  obtain ⟨j, hj, serves⟩ := h
  unfold LaneServes
  cases held : penWith s (leafOf c i) with
  | some p =>
    rw [requestLeaf_held hr held, laneJobs, (holdPen_eff r p s).codec_eq rfl]
    exact ⟨j, hj, serves⟩
  | none =>
    rw [laneJobs_requestLeaf held]
    split
    · exact ⟨_, List.mem_map_of_mem hj, serves_joinJob serves _ _ _⟩
    · exact ⟨j, List.mem_append_left _ hj, serves⟩

/-! The requests for several leaves (08 R203). -/

/-- The requests for the leaves of a list. -/
def requestLeaves (shadow : Bool) (c : Settings) (r : Requester) (n : Nat) (l : List Nat) (s : State) : State :=
  l.foldl (fun t i => requestLeaf shadow c r n i t) s

theorem penWith_requestLeaves (hr : r ≠ .recheck) (l : List Nat) (s : State) (e : LeafEntry) :
    penWith (requestLeaves shadow c r n l s) e = penWith s e := by
  induction l generalizing s with
  | nil => rfl
  | cons i l ih => exact (ih _).trans (penWith_requestLeaf hr e)

theorem laneServes_requestLeaves {k : LeafEntry} {q : Requester} (hr : r ≠ .recheck) (l : List Nat) {s : State}
    (h : LaneServes s k q) : LaneServes (requestLeaves shadow c r n l s) k q := by
  induction l generalizing s with
  | nil => exact h
  | cons i l ih => exact ih (laneServes_requestLeaf hr h)

/-- Every leaf of the list that no pen holds is asked of the lane. -/
theorem requestLeaves_laneServes (hr : r ≠ .recheck) {l : List Nat} (hi : i ∈ l) (h : penWith s (leafOf c i) = none) :
    LaneServes (requestLeaves shadow c r n l s) (leafOf c i) r := by
  induction l generalizing s with
  | nil => exact absurd hi List.not_mem_nil
  | cons k l ih =>
    rcases List.mem_cons.mp hi with rfl | later
    · exact laneServes_requestLeaves hr l (requestLeaf_laneServes h)
    · exact ih later (by rw [penWith_requestLeaf hr, h])

/-- A selection's request holds no pen. -/
theorem requestLeaf_pattern_pens (s : State) : (requestLeaf shadow c .pattern n i s).pens = s.pens := by
  cases h : penWith s (leafOf c i) with
  | none => exact (requestLeaf_missing_eff h).pens_eq rfl
  | some p =>
    rw [requestLeaf_held (by decide) h]
    rfl

theorem requestLeaves_pattern_pens (l : List Nat) (s : State) : (requestLeaves shadow c .pattern n l s).pens = s.pens := by
  induction l generalizing s with
  | nil => rfl
  | cons i l ih => exact (ih _).trans (requestLeaf_pattern_pens s)

/-! Strobes (10 R242, R243). -/

/-- With no RESTORE to try again, a strobe is a selection seen. -/
theorem exec_patternSelect (hr : running s = true) (hk : domainHeld s .sys = false) (hn : 50 ≤ n) (hf : s.gather.restoreFailed = false)
    (e : BitVec 6) : exec (.patternSelect e n) s = .next (seeSelection e.toNat s) := by
  have long : pulse s n 0 50 = (true, s) := if_pos hn
  have none : (seeSelection e.toNat s).gather.restoreFailed = false := by rw [(seeSelection_eff _ _).gather_eq rfl, hf]
  have seen : exec (.patternSelect e n) s = guarded (running s && !domainHeld s .sys) s
      (if (pulse s n 0 50).1 then
        if (seeSelection e.toNat (pulse s n 0 50).2).gather.restoreFailed &&
            (seeSelection e.toNat (pulse s n 0 50).2).gather.state == .closed &&
            !(seeSelection e.toNat (pulse s n 0 50).2).pins.abortLow then
          retryRestore (seeSelection e.toNat (pulse s n 0 50).2)
        else seeSelection e.toNat (pulse s n 0 50).2
      else (pulse s n 0 50).2) := rfl
  rw [seen, long, guarded_of (by simp [hr, hk])]
  simp [none]

theorem seeSelection_halted (h : s.core.halted = true) (n : Nat) : seeSelection n s = s := if_pos h

theorem seeSelection_unserved (hh : s.core.halted = false) (h : s.core.service = false) (n : Nat) :
    seeSelection n s = countStrobe s := by
  simp [seeSelection, hh, h]

/-- An unused entry is counted. -/
def emptyCounted (s : State) : State := { s with beacon := { s.beacon with patternEmpty := satInc s.beacon.patternEmpty } }

theorem seeSelection_unused (hh : s.core.halted = false) (hs : s.core.service = true) (h : entryUsed s.binding.live n = false) :
    seeSelection n s = report evPatternEmpty 0 n (emptyCounted s) := by
  simp [seeSelection, hh, hs, h, emptyCounted]

theorem reportX_patternEmpty (c a j : Nat) (x : Option Nat) (s : State) :
    (reportX c a j x s).beacon.patternEmpty = s.beacon.patternEmpty := by
  unfold reportX
  dsimp only
  split <;> rfl

theorem seeSelection_shown (hh : s.core.halted = false) (hs : s.core.service = true) (hu : entryUsed s.binding.live n = true)
    (h : shownEntry s = some n) :
    seeSelection n s = { s with select := { s.select with pending := if stitchSeen s then some n else none } } := by
  simp [seeSelection, hh, hs, hu, h]

theorem seeSelection_refused (hh : s.core.halted = false) (hs : s.core.service = true) (hu : entryUsed s.binding.live n = true)
    (h : shownEntry s ≠ some n) (hl : missingLeaves s (entryLeaves s s.binding.live n) ≠ []) (hd : decodeRefused s = true) :
    seeSelection n s = countStrobe s := by
  simp [seeSelection, hh, hs, hu, h, hl, hd]

theorem seeSelection_selects (hh : s.core.halted = false) (hs : s.core.service = true) (hu : entryUsed s.binding.live n = true)
    (h : shownEntry s ≠ some n) (hd : missingLeaves s (entryLeaves s s.binding.live n) = [] ∨ decodeRefused s = false) :
    seeSelection n s = selectEntry n s := by
  rcases hd with hd | hd <;> simp [seeSelection, hh, hs, hu, h, hd]

/-- An entry selected. -/
def pendingSet (n : Nat) (s : State) : State := { s with select := { s.select with pending := some n } }

/-- A selection asks the lane for every leaf that no pen holds, and holds no pen for them. -/
theorem selectEntry_eq (n : Nat) (s : State) :
    selectEntry n s = requestLeaves false s.binding.live .pattern n (entryLeaves s s.binding.live n) (pendingSet n s) := rfl

/-- Settles O42, strobe by strobe. -/
theorem selectionsBecomePending : Obligations.SelectionsBecomePending := by
  intro n e s hr hk hn hf
  have sees := exec_patternSelect hr hk hn hf e
  refine ⟨fun hh => ?_, fun hs hh => ?_, fun hs hh => ⟨fun hu => ?_, fun hu => ⟨fun h => ?_, fun h hl hd => ?_, fun h hd => ?_⟩⟩⟩
  · rw [sees, seeSelection_halted hh]
  · rw [sees, seeSelection_unserved hh hs]
    rfl
  · rw [seeSelection_unused hh hs hu] at sees
    refine ⟨_, sees, report_select _ _ _ _, report_codec _ _ _ _, ?_, report_reported _ _ _ _⟩
    exact reportX_patternEmpty _ _ _ _ _
  · rw [sees, seeSelection_shown hh hs hu h]
  · rw [sees, seeSelection_refused hh hs hu h hl hd]
    rfl
  · rw [seeSelection_selects hh hs hu h hd] at sees
    have asked := requestEntry_eff false s.binding.live .pattern e.toNat (pendingSet e.toNat s)
    refine ⟨_, sees, asked.select_eq rfl, ?_, asked.portA_eq rfl, asked.portB_eq rfl, fun i hi => ?_⟩
    · rw [selectEntry_eq, requestLeaves_pattern_pens]
      rfl
    · obtain ⟨listed, lacking⟩ := List.mem_filter.mp hi
      obtain ⟨j, hj, serves⟩ := requestLeaves_laneServes (s := pendingSet e.toNat s) (shadow := false) (n := e.toNat) (r := .pattern)
        (by decide) listed (Option.isNone_iff_eq_none.mp lacking)
      exact ⟨j, hj, serves.length, serves.crc, serves.kind⟩

end Sys2Proof.Proofs
end

section
/-! SUPPORT. The decode step, the ramps, the rollback and RESTORE (07 R162 to R169, R171), and O35 and O36. -/

namespace Sys2Proof.Proofs

open Sys2Proof Machine Laws

variable {s t : State} {i : SItem}

/-! What a rollback drops (07 R162). -/

theorem stopStitchReads_live (s : State) : (stopStitchReads s).binding.live = s.binding.live := by
  unfold stopStitchReads
  split <;> rfl

theorem dropStitch_live (s : State) : (dropStitch s).binding.live = s.binding.live := by
  rw [dropStitch, (freeStitch_eff _).binding_eq rfl, stopStitchReads_live, (dropJobs_eff _ _).binding_eq rfl]

theorem dropStitch_gather (s : State) : (dropStitch s).gather = s.gather := (dropStitch_eff s).gather_eq rfl

/-! The end of a RESTORE (07 R167, R169). -/

/-- The dropped leaves are shown again once they are all held. -/
def shownAgain (s : State) : State :=
  if s.gather.restoring && leavesHeld s s.binding.live (shownLeaves s) then
    reshow { s with gather := { s.gather with restoring := false } }
  else s

theorem restoreProgress_eq (s : State) : restoreProgress s =
    if (shownAgain s).gather.state == .restore && (leftToRamp (shownAgain s)).isEmpty && !(shownAgain s).gather.restoring &&
        !(shownAgain s).gather.restoreDue then
      closeGather 3 (shownAgain s).gather.backReason (shownAgain s)
    else shownAgain s := rfl

theorem shownAgain_gather (s : State) : ∃ b, (shownAgain s).gather = { s.gather with restoring := b } := by
  unfold shownAgain
  split
  · exact ⟨false, (reshow_eff _).gather_eq rfl⟩
  · exact ⟨s.gather.restoring, rfl⟩

theorem shownAgain_binding (s : State) : (shownAgain s).binding = s.binding := by
  unfold shownAgain
  split
  · exact (reshow_eff _).binding_eq rfl
  · rfl

theorem shownAgain_of_not_restoring (h : s.gather.restoring = false) : shownAgain s = s := by simp [shownAgain, h]

theorem restoreProgress_live (s : State) : (restoreProgress s).binding.live = s.binding.live := by
  rw [restoreProgress_eq]
  split
  · rw [closeGather_live, shownAgain_binding]
  · rw [shownAgain_binding]

/-- Either the gathering goes on, or its RESTORE ends with the reason that began it. -/
theorem restoreProgress_cases (s : State) :
    (∃ b, (restoreProgress s).gather = { s.gather with restoring := b }) ∨
      ClosedWith 3 s.gather.backReason (restoreProgress s) ∧ (restoreProgress s).gather.aborting = s.gather.aborting := by
  obtain ⟨b, gather⟩ := shownAgain_gather s
  rw [restoreProgress_eq]
  split
  · refine .inr ⟨?_, by rw [closeGather_aborting, gather]⟩
    have reason : (shownAgain s).gather.backReason = s.gather.backReason := by rw [gather]
    exact reason ▸ closeGather_closedWith 3 _ (shownAgain s)
  · exact .inl ⟨b, gather⟩

/-- With no leaves to show again, only a RESTORE ends. -/
theorem restoreProgress_of_not_restore (hr : s.gather.restoring = false) (hs : s.gather.state ≠ .restore) :
    restoreProgress s = s := by
  rw [restoreProgress_eq, shownAgain_of_not_restoring hr]
  exact if_neg (by simp [hs])

/-- A RESTORE with nothing left to ramp, decode or show again ends. -/
theorem restoreProgress_ends (hr : s.gather.restoring = false) (hs : s.gather.state = .restore) (hd : s.gather.restoreDue = false)
    (hi : s.gather.ramping = []) : restoreProgress s = closeGather 3 s.gather.backReason s := by
  rw [restoreProgress_eq, shownAgain_of_not_restoring hr]
  exact if_pos (by simp [hs, hd, hr, leftToRamp, hi])

/-! A rollback inside a bridge (07 R167, R169). -/

/-- A gathering rolls back through RESTORE, or is over already, with the reason. -/
def RollsBack (reason : Nat) (t : State) : Prop :=
  t.gather.state = .restore ∧ t.gather.backReason = reason ∨ ClosedWith 3 reason t

/-- A RESTORE that begins from a state: its reason, and what it keeps. -/
structure Restoring (reason : Nat) (s u : State) : Prop where
  state : u.gather.state = .restore
  reason : u.gather.backReason = reason
  aborting : u.gather.aborting = s.gather.aborting
  ramping : ∀ i ∈ u.gather.ramping, i ∈ s.gather.changed
  live : u.binding.live = s.binding.live

/-- The leaves that a dark decode has dropped. -/
def leavesLost (s : State) : Bool := s.gather.dark && !leavesHeld s s.binding.live (shownLeaves s)

/-- The items that ramp back: those of a stitch that was ramping. -/
def rampsBack (g : Gather) (s : State) : List SItem :=
  if g.state == .ramp then s.gather.changed.filter fun i => !atOnce s (live s) i else []

/-- The gathering in RESTORE. -/
def restoreGather (reason : Nat) (g : Gather) (s : State) : Gather :=
  { s.gather with state := .restore, ramping := rampsBack g s, backReason := reason, latched := none, calDue := false
                  restoring := leavesLost s, restoreDue := leavesLost s && s.pins.abortLow }

/-- The items and the set-points turn back. -/
def turnedBack (reason : Nat) (s : State) : State :=
  restartConv (followVertical (live (dropStitch s))
    { dropStitch s with gather := restoreGather reason s.gather (dropStitch s) })

/-- The dropped leaves are asked for, unless an abort holds. -/
def restoreAsked (reason : Nat) (s : State) : State :=
  if leavesLost (dropStitch s) && !(turnedBack reason s).pins.abortLow then requestRestore (turnedBack reason s)
  else turnedBack reason s

theorem beginRestore_eq (reason : Nat) (s : State) : beginRestore reason s = restoreProgress (restoreAsked reason s) := rfl

theorem restoreAsked_eff (reason : Nat) (s : State) : Eff [.codec, .pens, .portA, .portB, .engine]
    { dropStitch s with gather := restoreGather reason s.gather (dropStitch s) } (restoreAsked reason s) := by
  have turns : Eff [.codec, .pens, .portA, .portB, .engine]
      { dropStitch s with gather := restoreGather reason s.gather (dropStitch s) } (turnedBack reason s) :=
    ((followVertical_eff _ _).mono rfl).comp (restartConv_eff _) rfl
  exact Eff.ite (fun _ => turns.comp (requestRestore_eff _) rfl) fun _ => turns

theorem restoreAsked_restoring (reason : Nat) (s : State) : Restoring reason s (restoreAsked reason s) := by
  have gather := (restoreAsked_eff reason s).gather_eq rfl
  have kept := dropStitch_gather s
  refine ⟨by rw [gather]; rfl, by rw [gather]; rfl, ?_, fun i hi => ?_, ?_⟩
  · rw [gather, ← kept]
    rfl
  · have back : i ∈ rampsBack s.gather (dropStitch s) := by rwa [gather] at hi
    unfold rampsBack at back
    split at back
    · exact kept ▸ (List.mem_filter.mp back).1
    · exact absurd back List.not_mem_nil
  · rw [(restoreAsked_eff reason s).binding_eq rfl]
    exact dropStitch_live s

theorem beginRestore_live (reason : Nat) (s : State) : (beginRestore reason s).binding.live = s.binding.live := by
  rw [beginRestore_eq, restoreProgress_live, (restoreAsked_restoring reason s).live]

/-- 07 R167: a rollback inside a bridge ramps back what the stitch had changed, unless there is nothing left to restore. -/
theorem beginRestore_cases (reason : Nat) (s : State) :
    (beginRestore reason s).gather.state = .restore ∧ (beginRestore reason s).gather.backReason = reason ∧
        (∀ i ∈ (beginRestore reason s).gather.ramping, i ∈ s.gather.changed) ∨
      ClosedWith 3 reason (beginRestore reason s) := by
  have begun := restoreAsked_restoring reason s
  rw [beginRestore_eq]
  rcases restoreProgress_cases (restoreAsked reason s) with ⟨b, gather⟩ | ⟨closed, -⟩
  · exact .inl ⟨by rw [gather, begun.state], by rw [gather, begun.reason], by rw [gather]; exact begun.ramping⟩
  · rw [begun.reason] at closed
    exact .inr closed

theorem beginRestore_rollsBack (reason : Nat) (s : State) : RollsBack reason (beginRestore reason s) :=
  (beginRestore_cases reason s).imp (fun h => ⟨h.1, h.2.1⟩) id

theorem beginRestore_aborting (reason : Nat) (s : State) : (beginRestore reason s).gather.aborting = s.gather.aborting := by
  have begun := restoreAsked_restoring reason s
  rw [beginRestore_eq]
  rcases restoreProgress_cases (restoreAsked reason s) with ⟨b, gather⟩ | ⟨-, aborting⟩
  · rw [gather, begun.aborting]
  · rw [aborting, begun.aborting]

/-! Rollback by state (07 R171). -/

/-- The states in which a rollback closes the gathering at once. -/
def outsideBridge (g : GatherState) : Prop := g = .opened ∨ g = .validate ∨ g = .decode ∨ g = .swapWait

theorem rollback_closed (h : s.gather.state = .closed) (reason : Nat) : rollback reason s = s := by simp [rollback, h]

theorem rollback_outside (h : outsideBridge s.gather.state) (reason : Nat) :
    rollback reason s = closeGather 3 reason (dropStitch s) := by
  rcases h with h | h | h | h <;> simp [rollback, h]

theorem rollback_bridge (h : s.gather.state = .ramp ∨ s.gather.state = .darkDecode) (reason : Nat) :
    rollback reason s = beginRestore reason s := by
  rcases h with h | h <;> simp [rollback, h]

theorem rollback_restore (h : s.gather.state = .restore) (reason : Nat) : rollback reason s = redirect reason s := by
  simp [rollback, h]

/-- 07 R171: outside a bridge the gathering closes at once, with the committed settings kept. -/
theorem rollback_closes (h : outsideBridge s.gather.state) (reason : Nat) :
    ClosedWith 3 reason (rollback reason s) ∧ (rollback reason s).gather.shadow = none ∧
      (rollback reason s).gather.aborting = s.gather.aborting ∧ (rollback reason s).binding.live = s.binding.live := by
  rw [rollback_outside h]
  exact ⟨closeGather_closedWith _ _ _, closeGather_shadow _ _ _, by rw [closeGather_aborting, dropStitch_gather],
    by rw [closeGather_live, dropStitch_live]⟩

/-! The decode step's end (07 R162, R164, R165). -/

/-- The ramps begin with the items that do not converge at once. -/
theorem startRamp_behind (s : State) : Eff [.portA, .portB, .engine, .beacon]
    { s with gather := { s.gather with
      state := .ramp, ramping := s.gather.changed.filter fun i => !atOnce s ((s.gather.shadow.map (·.folios)).getD (live s)) i
      latched := none } } (startRamp s) :=
  (((followVertical_eff _ _).mono rfl).comp (restartConv_eff _) rfl).comp (rampClamps_eff _ _) rfl

/-- Settles O35: the three ends of a decode step that is complete, and its limit outside a bridge and inside one. -/
theorem decodeStepEnds : Obligations.DecodeStepEnds := by
  refine ⟨fun s hs hc => ?_, fun s hs hb => ?_⟩
  · have done := guarded_of (c := sysRuns s && decodeComplete s) (by simp [hs, hc]) s
    refine ⟨fun hg hn => ?_, fun hg hn => ?_, fun hg c hsh => ?_⟩
    · refine (done _).trans ?_
      simp [hg, hn]
    · refine (done _).trans ?_
      simp [hg, hn]
    · have ramps : exec .stitchDecodeDone s = .next (startRamp s) := (done _).trans (by simp [hg])
      have behind := startRamp_behind s
      refine ⟨_, ramps, ?_, behind.binding_eq rfl, behind.codec_eq rfl, behind.pens_eq rfl⟩
      rw [behind.gather_eq rfl]
      simp [hsh]
  · refine ⟨fun hg => ?_, fun hg => ?_⟩
    · have limit : exec .decodeLimitExpired s = .next (rollback 0x45 s) := guarded_of (by simp [hs, hg, hb]) _ _
      obtain ⟨⟨closed, outcome, reason, reported⟩, shadow, -, live⟩ := rollback_closes (s := s) (.inr (.inr (.inl hg))) 0x45
      exact ⟨_, limit, closed, outcome, reason, shadow, live, reported⟩
    · have limit : exec .decodeLimitExpired s = .next (beginRestore 0x45 s) := by
        rw [← rollback_bridge (.inr hg)]
        exact guarded_of (by simp [hs, hg, hb]) _ _
      refine ⟨_, limit, beginRestore_live _ _, (beginRestore_rollsBack 0x45 s).imp id ?_⟩
      rintro ⟨closed, outcome, reason, reported⟩
      exact ⟨closed, outcome, reason, reported⟩

/-! Convergence (07 R165, 12 R287). -/

/-- An item leaves the ramps. -/
def converged (i : SItem) (s : State) : State :=
  { s with gather := { s.gather with ramping := s.gather.ramping.filter (· != i) } }

theorem exec_sItemConverged {xs : List Int} (hr : running s = true) (hi : i ∈ s.gather.ramping)
    (hc : itemConverges s xs i = true) (hg : s.gather.state = .ramp ∨ s.gather.state = .restore) :
    exec (.sItemConverged ⟨i, xs⟩) s = .next (restoreProgress (converged i s)) := by
  have ramping : s.gather.ramping.contains i = true := by simpa using hi
  have state : (s.gather.state == .ramp || s.gather.state == .restore) = true := by simpa using hg
  have holds : (running s && s.gather.ramping.contains i && itemConverges s xs i &&
      (s.gather.state == .ramp || s.gather.state == .restore)) = true := by
    simp only [hr, ramping, hc, state, Bool.and_self]
  exact guarded_of holds _ _

/-! A restore that is tried again (07 R169). -/

theorem geometry_of_core (h : t.core = s.core) (st : Store) : geometry t st = geometry s st := by
  simp only [geometry, meaningCode, heldCode, h]

theorem portsOf_of_core (h : t.core = s.core) (c : Settings) : portsOf t c = portsOf s c := by
  have straps : ∀ k, strap t k = strap s k := fun k => by rw [strap, h, strap]
  unfold portsOf portBEn
  rw [straps, straps]

theorem maskLeaf_of_core (h : t.core = s.core) (c : Settings) (n : Nat) : maskLeaf t c n = maskLeaf s c n := by
  simp only [maskLeaf, geometry_of_core h]

theorem entryLeaves_of_core (h : t.core = s.core) (c : Settings) (n : Nat) : entryLeaves t c n = entryLeaves s c n := by
  simp only [entryLeaves, portsOf_of_core h, maskLeaf_of_core h]

theorem requestRestore_eq (s : State) : requestRestore s =
    (shownOrLast s).elim s fun n => requestLeaves false s.binding.live .restore n (entryLeaves s s.binding.live n) s := by
  unfold requestRestore
  cases shownOrLast s <;> rfl

theorem penWith_requestRestore (s : State) (e : LeafEntry) : penWith (requestRestore s) e = penWith s e := by
  rw [requestRestore_eq]
  cases shownOrLast s with
  | none => rfl
  | some n => exact penWith_requestLeaves (by decide) _ _ _

/-- What asks for leaves leaves the shown entry as it is. -/
theorem shownLeaves_requestRestore (s : State) : shownLeaves (requestRestore s) = shownLeaves s := by
  have asks := requestRestore_eff s
  have leaves : entryLeaves (requestRestore s) = entryLeaves s := by
    funext c n
    exact entryLeaves_of_core (asks.core_eq rfl) c n
  have shown : shownOrLast (requestRestore s) = shownOrLast s := by
    simp only [shownOrLast, leadPort, asks.portA_eq rfl, asks.portB_eq rfl, asks.select_eq rfl,
      portOf_of_eff asks rfl rfl]
  rw [shownLeaves, shown, leaves, asks.binding_eq rfl, shownLeaves]

theorem leavesHeld_requestRestore (s : State) (c : Settings) (l : List Nat) :
    leavesHeld (requestRestore s) c l = leavesHeld s c l := by
  simp only [leavesHeld, penWith_requestRestore]

/-- A leaf of the shown entry that no pen holds is asked of the lane. -/
theorem requestRestore_restoreJobs (h : leavesHeld s s.binding.live (shownLeaves s) = false) :
    restoreJobs (requestRestore s) = true := by
  obtain ⟨i, hi, missing⟩ := List.all_eq_false.mp h
  have missing : penWith s (leafOf s.binding.live i) = none := by simpa using missing
  rw [requestRestore_eq]
  unfold shownLeaves at hi
  cases shown : shownOrLast s with
  | none => simp [shown] at hi
  | some n =>
    rw [shown] at hi
    obtain ⟨j, hj, serves⟩ := requestLeaves_laneServes (shadow := false) (n := n) (r := .restore) (by decide) hi missing
    refine List.any_eq_true.mpr ⟨j, hj, ?_⟩
    rcases serves.asked with asked | ⟨q, hq, asked⟩
    · simp [asked]
    · have joined : j.joined.any (fun q => q.1 == .restore) = true := List.any_eq_true.mpr ⟨q, hq, by simp [asked]⟩
      simp [joined]

theorem retryRestore_waits (h : restoreJobs s = true) : retryRestore s = s := if_pos h

theorem retryRestore_asks (h : restoreJobs s = false) : retryRestore s = restoreGains (requestRestore s) := by
  simp [retryRestore, h]

/-- 07 R169: a retry whose leaves are held ends, and the content lights at the next boundary. -/
theorem restoreGains_held (hc : s.gather.state = .closed) (hf : s.gather.restoreFailed = true)
    (h : leavesHeld s s.binding.live (shownLeaves s) = true) :
    restoreGains s = { s with gather := { s.gather with restoreFailed := false, reshowDue := (leadPort s).isSome } } := by
  simp [restoreGains, hc, hf, h]

theorem restoreGains_lacking (hc : s.gather.state = .closed) (hf : s.gather.restoreFailed = true)
    (h : leavesHeld s s.binding.live (shownLeaves s) = false) : restoreGains s = s := by
  simp [restoreGains, hc, hf, h]

theorem exec_restoreRetry_aborted (hs : sysRuns s = true) (hf : s.gather.restoreFailed = true) (hc : s.gather.state = .closed)
    (ha : s.pins.abortLow = true) :
    exec .restoreRetry s = .next { s with gather := { s.gather with retryDue := true } } :=
  (guarded_of (c := sysRuns s && s.gather.restoreFailed && s.gather.state == .closed) (by simp [hs, hf, hc]) _ _).trans
    (congrArg _ (if_pos ha))

theorem exec_restoreRetry (hs : sysRuns s = true) (hf : s.gather.restoreFailed = true) (hc : s.gather.state = .closed)
    (ha : s.pins.abortLow = false) : exec .restoreRetry s = .next (retryRestore s) :=
  (guarded_of (c := sysRuns s && s.gather.restoreFailed && s.gather.state == .closed) (by simp [hs, hf, hc]) _ _).trans
    (congrArg _ (if_neg (ne_true_of_eq_false ha)))

/-- Settles O36: an item that converges, ramps past their limit, and a retry by what the lane and the pens hold. -/
theorem rampsConvergeOrReturn : Obligations.RampsConvergeOrReturn := by
  refine ⟨fun i xs s hr hi hc hn => ⟨fun hg => ?_, fun hg hd hl => ?_⟩, fun s hs hg => ?_, fun s hs hf hc => ?_⟩
  · rw [exec_sItemConverged hr hi hc (.inl hg), restoreProgress_of_not_restore (s := converged i s) hn (by simp [converged, hg])]
    rfl
  · have last : (converged i s).gather.ramping = [] := by simp [converged, hl]
    have ends := exec_sItemConverged hr hi hc (.inr hg)
    rw [restoreProgress_ends (s := converged i s) hn hg hd last] at ends
    obtain ⟨closed, outcome, reason, reported⟩ := closeGather_closedWith 3 (converged i s).gather.backReason (converged i s)
    exact ⟨_, ends, closed, outcome, reason, closeGather_live _ _ _, reported⟩
  · have limit : exec .bridgeLimitExpired s = .next (beginRestore 0x46 s) := guarded_of (by simp [hs, hg]) _ _
    refine ⟨_, limit, beginRestore_live _ _, (beginRestore_cases 0x46 s).imp id ?_⟩
    rintro ⟨closed, outcome, reason, reported⟩
    exact ⟨closed, outcome, reason, reported⟩
  · have retry := exec_restoreRetry hs hf hc
    have asks := requestRestore_eff s
    have gather := asks.gather_eq rfl
    have held : leavesHeld (requestRestore s) (requestRestore s).binding.live (shownLeaves (requestRestore s)) =
        leavesHeld s s.binding.live (shownLeaves s) := by
      rw [shownLeaves_requestRestore, leavesHeld_requestRestore, asks.binding_eq rfl]
    refine ⟨exec_restoreRetry_aborted hs hf hc, fun ha hj => ?_, fun ha hj hl => ?_, fun ha hj hl => ?_⟩
    · rw [retry ha, retryRestore_waits hj]
    · have tried := retry ha
      rw [retryRestore_asks hj, restoreGains_held (by rw [gather, hc]) (by rw [gather, hf]) (held.trans hl)] at tried
      have lead : leadPort (requestRestore s) = leadPort s := by
        simp only [leadPort, asks.portA_eq rfl, asks.portB_eq rfl]
      exact ⟨_, tried, by rw [lead, gather]⟩
    · have tried := retry ha
      rw [retryRestore_asks hj, restoreGains_lacking (by rw [gather, hc]) (by rw [gather, hf]) (held.trans hl)] at tried
      exact ⟨_, tried, gather, requestRestore_restoreJobs hl⟩

end Sys2Proof.Proofs
end

section
/-! SUPPORT. The judgement of a stitch (07 R157 to R164, 08 R202), and O34. -/

namespace Sys2Proof.Proofs

open Sys2Proof Machine Laws

variable {s u : State} {c : Settings} {k : Nat}

/-! Rejection (07 R159). -/

/-- A stitch is rejected with a reason, and the committed configuration stays. -/
def RejectedWith (k : Nat) (s t : State) : Prop :=
  t.gather.state = .closed ∧ t.gather.outcome = 2 ∧ t.gather.reason = k ∧ t.gather.shadow = none ∧
    t.binding.live = s.binding.live ∧ Reported evGathering 2 t

theorem rejectStitch_rejects (k : Nat) (s : State) : RejectedWith k s (rejectStitch k s) := by
  obtain ⟨closed, outcome, reason, reported⟩ := closeGather_closedWith 2 k (dropStitch s)
  have live := (closeGather_live 2 k (dropStitch s)).trans (dropStitch_live s)
  unfold RejectedWith rejectStitch
  exact ⟨closed, outcome, reason, closeGather_shadow _ _ _, live, reported⟩

theorem exec_stitchValidated (hs : sysRuns s = true) (hg : s.gather.state = .validate) (hr : s.binding.reader.stitch = true)
    (hp : s.binding.reader.phase = .done) (hb : s.gather.bridgeDue = false) :
    exec .stitchValidated s = .next (judgeStitch s) := guarded_of (by simp [hs, hg, hr, hp, hb]) _ _

/-! The checks in their order (07 R157, R159). -/

theorem judgeStitch_notFound (h : s.binding.reader.found = none) : judgeStitch s = rejectStitch s.binding.reader.firstReason s := by
  simp [judgeStitch, h]

theorem judgeStitch_boot (hf : s.binding.reader.found = some c) (hb : bootChanged (live s) c.folios = true) :
    judgeStitch s = rejectStitch 0x43 s := by
  simp [judgeStitch, hf, hb]

theorem judgeStitch_leafFailed (hf : s.binding.reader.found = some c) (hb : bootChanged (live s) c.folios = false)
    (hl : s.binding.reader.leafFailed = some k) : judgeStitch s = rejectStitch k s := by
  simp [judgeStitch, hf, hb, hl]

/-- A leaf header that fails is reported before its stitch is rejected (08 R202). -/
def headerReported (i : Nat) (e : CodecError) (s : State) : State :=
  reportX evCodecError e.1 i (some e.2) { s with codec := { s.codec with lastError := e.1 } }

theorem headerReported_rejects (i : Nat) (e : CodecError) (s : State) : RejectedWith k s (rejectStitch k (headerReported i e s)) := by
  have kept : (headerReported i e s).binding = s.binding := reportX_binding _ _ _ _ _
  have rejects := rejectStitch_rejects k (headerReported i e s)
  unfold RejectedWith at *
  rwa [kept] at rejects

section
variable (hf : s.binding.reader.found = some c) (hb : bootChanged (live s) c.folios = false) (hl : s.binding.reader.leafFailed = none)
include hf hb hl

theorem judgeStitch_badHeader {i : Nat} {e : CodecError} (hh : badHeader s c (s.gather.entry.getD 0) = some (i, e)) :
    judgeStitch s = rejectStitch 0x47 (headerReported i e s) := by
  simp [judgeStitch, hf, hb, hl, hh, headerReported]

theorem judgeStitch_cal (hh : badHeader s c (s.gather.entry.getD 0) = none) (hc : s.binding.reader.calReason ≠ 0) :
    judgeStitch s = rejectStitch s.binding.reader.calReason s := by
  simp [judgeStitch, hf, hb, hl, hh, hc]

theorem judgeStitch_unfit (hh : badHeader s c (s.gather.entry.getD 0) = none) (hc : s.binding.reader.calReason = 0)
    (hu : calUnfit s c = true) : judgeStitch s = rejectStitch rConsistency s := by
  simp [judgeStitch, hf, hb, hl, hh, hc, hu]

theorem judgeStitch_accepts (hh : badHeader s c (s.gather.entry.getD 0) = none) (hc : s.binding.reader.calReason = 0)
    (hu : calUnfit s c = false) : judgeStitch s = acceptStitch c s := by
  simp [judgeStitch, hf, hb, hl, hh, hc, hu]
end

/-! Pens held for the stitch (07 R161). -/

/-- A leaf's pen, if it has one, is held for the stitch. -/
def leafKept (c : Settings) (s : State) (i : Nat) : State :=
  match penWith s (leafOf c i) with
  | some p => holdPen .stitch p s
  | none => s

theorem holdStitch_eq (c : Settings) (n : Option Nat) (s : State) :
    holdStitch c n s = (n.elim [] fun k => entryLeaves s c k).foldl (leafKept c) s := rfl

/-- Holding pens does not depend on the gathering. -/
theorem leafKept_withGather (g : Gather) (s : State) (i : Nat) :
    leafKept c { s with gather := g } i = { leafKept c s i with gather := g } := by
  have pens : penWith { s with gather := g } (leafOf c i) = penWith s (leafOf c i) := rfl
  unfold leafKept
  rw [pens]
  cases penWith s (leafOf c i) <;> rfl

theorem holdStitch_withGather (g : Gather) (n : Option Nat) (s : State) :
    holdStitch c n { s with gather := g } = { holdStitch c n s with gather := g } := by
  have leaves : ∀ (l : List Nat) (s : State),
      l.foldl (leafKept c) { s with gather := g } = { l.foldl (leafKept c) s with gather := g } := by
    intro l
    induction l with
    | nil => exact fun _ => rfl
    | cons i l ih =>
      intro s
      rw [List.foldl_cons, leafKept_withGather, ih, List.foldl_cons]
  exact leaves _ s

/-- A held pen counts in a room test as before. -/
theorem roomBlocks_holdPen (r : Requester) (i : Nat) (s : State) : roomBlocks (holdPen r i s).pens = roomBlocks s.pens := by
  unfold holdPen
  split
  · have same : ∀ {β : Type} (f : Pen → β) (_ : ∀ q : Pen, f { q with stitch := true } = f q) (q : Nat × Pen),
        f (if q.1 == i then (q.1, { q.2 with stitch := true }) else q).2 = f q.2 := by
      intro β f hf q
      split
      · exact hf q.2
      · rfl
    have blocks := same (fun q => q.blocks) fun _ => rfl
    have retiring := same (fun q => q.state == .retiring && q.kind != .live) fun _ => rfl
    have used : usedBlocks (updPen s i fun q => { q with stitch := true }).pens = usedBlocks s.pens := by
      simp only [usedBlocks, updPen, List.flatMap_map, blocks]
    have counted : retiringBlocks (updPen s i fun q => { q with stitch := true }).pens = retiringBlocks s.pens := by
      simp only [retiringBlocks, updPen, List.filter_map, Function.comp_def, retiring, List.map_map, blocks]
    rw [roomBlocks, counted, freeBlocks, used, roomBlocks, freeBlocks]
  · rfl

theorem roomBlocks_holdStitch (c : Settings) (n : Option Nat) (s : State) :
    roomBlocks (holdStitch c n s).pens = roomBlocks s.pens := by
  rw [holdStitch_eq]
  refine List.foldlRecOn (motive := fun t : State => roomBlocks t.pens = roomBlocks s.pens) _ _ rfl fun t ht i _ => ?_
  unfold leafKept
  split
  · exact (roomBlocks_holdPen _ _ _).trans ht
  · exact ht

/-! The decode step begins (07 R161, R164). -/

/-- What a stitch that passes its checks leaves in the gathering. -/
def gatherPassed (c : Settings) (s : State) : Gather :=
  { s.gather with
    shadow := some c, shadowTwin := s.binding.reader.foundTwin, shadowSpine := chosenSpine s
    shadowSpineFailed := spineLost s, shadowLaterFailed := laterLost s c.gen, shadowFailed := rejectedCopies s
    need := stitchNeed s c, calDue := (stitchCal s c).isSome, changed := changedItems (live s) c.folios }

/-- The stitch's configuration is in the shadow halves, and the pens that it has are held. -/
def stitchPassed (c : Settings) (s : State) : State := holdStitch c s.gather.entry { s with gather := gatherPassed c s }

theorem acceptStitch_eq (c : Settings) (s : State) : acceptStitch c s =
    if stitchNeed s c ≤ roomBlocks (stitchPassed c s).pens then
      requestStitch { stitchPassed c s with gather := { (stitchPassed c s).gather with state := .decode } }
    else if fbit (live s) gatherNoDark ||
        roomBlocks (stitchPassed c s).pens + droppableBlocks (stitchPassed c s) < stitchNeed s c then
      rejectStitch 0x44 (stitchPassed c s)
    else { stitchPassed c s with gather := { (stitchPassed c s).gather with dark := true, bridgeDue := true } } := rfl

theorem stitchPassed_eff (c : Settings) (s : State) : Eff [.pens] { s with gather := gatherPassed c s } (stitchPassed c s) :=
  holdStitch_eff _ _ _

theorem stitchPassed_gather (c : Settings) (s : State) : (stitchPassed c s).gather = gatherPassed c s :=
  (stitchPassed_eff c s).gather_eq rfl

theorem stitchPassed_binding (c : Settings) (s : State) : (stitchPassed c s).binding = s.binding :=
  (stitchPassed_eff c s).binding_eq rfl

theorem stitchPassed_room (c : Settings) (s : State) : roomBlocks (stitchPassed c s).pens = roomBlocks s.pens :=
  roomBlocks_holdStitch _ _ _

/-- What a dark decode may drop is what the stitch does not hold. -/
theorem stitchPassed_droppable (c : Settings) (s : State) :
    droppableBlocks (stitchPassed c s) = droppableBlocks (holdStitch c s.gather.entry s) := by
  rw [stitchPassed, holdStitch_withGather]
  rfl

theorem acceptStitch_decodes (h : stitchNeed s c ≤ roomBlocks s.pens) : acceptStitch c s =
    requestStitch { stitchPassed c s with gather := { (stitchPassed c s).gather with state := .decode } } := by
  rw [acceptStitch_eq, stitchPassed_room, if_pos h]

theorem acceptStitch_noRoom (h : roomBlocks s.pens < stitchNeed s c) (hd : fbit (live s) gatherNoDark = true ∨
      roomBlocks s.pens + droppableBlocks (holdStitch c s.gather.entry s) < stitchNeed s c) :
    acceptStitch c s = rejectStitch 0x44 (stitchPassed c s) := by
  have lacks : (fbit (live s) gatherNoDark ||
      decide (roomBlocks s.pens + droppableBlocks (holdStitch c s.gather.entry s) < stitchNeed s c)) = true := by simpa using hd
  rw [acceptStitch_eq, stitchPassed_room, stitchPassed_droppable, if_neg (Nat.not_le.mpr h), if_pos lacks]

theorem acceptStitch_dark (h : roomBlocks s.pens < stitchNeed s c) (hn : fbit (live s) gatherNoDark = false)
    (hd : stitchNeed s c ≤ roomBlocks s.pens + droppableBlocks (holdStitch c s.gather.entry s)) : acceptStitch c s =
      { stitchPassed c s with gather := { (stitchPassed c s).gather with dark := true, bridgeDue := true } } := by
  rw [acceptStitch_eq, stitchPassed_room, stitchPassed_droppable, if_neg (Nat.not_le.mpr h), if_neg (by simpa [hn] using hd)]

theorem stitchPassed_rejects (k : Nat) (c : Settings) (s : State) : RejectedWith k s (rejectStitch k (stitchPassed c s)) := by
  have rejects := rejectStitch_rejects k (stitchPassed c s)
  unfold RejectedWith at *
  rwa [stitchPassed_binding] at rejects

/-- Settles O34: each check in its order, and the room of a stitch that passes them. -/
theorem stitchesAreJudged : Obligations.StitchesAreJudged := by
  intro s hs hg hr hp hb
  have judged := exec_stitchValidated hs hg hr hp hb
  refine ⟨fun hf => ?_, fun c hf => ⟨fun hboot => ?_, fun hboot k hl => ?_, fun hboot hl => ⟨fun i e hh => ?_, fun hh => ⟨fun hc => ?_,
    fun hc hu => ?_, fun hc hu => ⟨fun hroom => ?_, fun hroom hd => ?_, fun hroom hn hd => ?_⟩⟩⟩⟩⟩
  · exact ⟨_, judged, judgeStitch_notFound hf ▸ rejectStitch_rejects _ s⟩
  · exact ⟨_, judged, judgeStitch_boot hf hboot ▸ rejectStitch_rejects _ s⟩
  · exact ⟨_, judged, judgeStitch_leafFailed hf hboot hl ▸ rejectStitch_rejects _ s⟩
  · exact ⟨_, judged, judgeStitch_badHeader hf hboot hl hh ▸ headerReported_rejects i e s⟩
  · exact ⟨_, judged, judgeStitch_cal hf hboot hl hh hc ▸ rejectStitch_rejects _ s⟩
  · exact ⟨_, judged, judgeStitch_unfit hf hboot hl hh hc hu ▸ rejectStitch_rejects _ s⟩
  all_goals rw [judgeStitch_accepts hf hboot hl hh hc hu] at judged
  · rw [acceptStitch_decodes hroom] at judged
    have asks := requestStitch_eff { stitchPassed c s with gather := { (stitchPassed c s).gather with state := .decode } }
    have gather := (asks.gather_eq rfl).trans (congrArg (fun g : Gather => { g with state := .decode }) (stitchPassed_gather c s))
    exact ⟨_, judged, by rw [gather], by rw [gather]; rfl, by rw [gather]; rfl, by rw [gather]; rfl, by rw [gather]; rfl,
      (asks.binding_eq rfl).trans (stitchPassed_binding c s)⟩
  · exact ⟨_, judged, acceptStitch_noRoom hroom hd ▸ stitchPassed_rejects _ c s⟩
  · rw [acceptStitch_dark hroom hn hd] at judged
    refine ⟨_, judged, ?_, ?_, rfl, rfl, stitchPassed_binding c s⟩ <;> dsimp only <;> rw [stitchPassed_gather]
    · exact hg
    · rfl

end Sys2Proof.Proofs
end

section
/-! SUPPORT. The abort: both lanes stop, the gathering rolls back, and what was put off takes place at the release (07 R171, R176 to R178,
08 R201, 10 R253), and O37. -/

namespace Sys2Proof.Proofs

open Sys2Proof Machine Laws

variable {s t : State}

/-! The leaf lane stops (08 R201). -/

/-- The leaf lane has no job, running, queued, at its requester or of a preload round. -/
structure LaneEmpty (c : Codec) : Prop where
  running : c.running = none
  queue : c.queue = []
  atRequester : c.atRequester = []
  preload : c.preload = []

/-- Nothing is dropped from an empty lane, and nothing begins afresh. -/
theorem dropJobs_laneEmpty (h : LaneEmpty s.codec) (r : Requester → Bool) : LaneEmpty (dropJobs r s).codec := by
  have none : laneJobs s = [] := by simp [laneJobs, h.running, h.queue, h.atRequester]
  unfold dropJobs
  simp only [none]
  exact ⟨by simp [promote, h.running], by simp [promote, h.queue, h.atRequester], by simp [promote, h.atRequester], h.preload⟩

theorem laneEmpty_of_eff {l : List Part} (h : LaneEmpty s.codec) (e : Eff l s t) (hl : l.contains .codec = false) :
    LaneEmpty t.codec := e.codec_eq hl ▸ h

theorem failQual_laneEmpty (h : LaneEmpty s.codec) (counted : Bool) : LaneEmpty (failQual counted s).codec := by
  have coasted : LaneEmpty (coastBoth (qualEnded counted s)).codec := laneEmpty_of_eff (s := qualEnded counted s) h (coastBoth_eff _) rfl
  have reported : LaneEmpty (qualReported counted s).codec :=
    laneEmpty_of_eff (dropJobs_laneEmpty coasted _) (report_eff _ _ _ _) rfl
  rcases failQual_cases counted s with e | e <;> rw [e]
  · exact laneEmpty_of_eff reported (startRetry_eff _) rfl
  · exact reported

/-- The lane's jobs are gone, and a preload round is due afresh. -/
def laneCleared (s : State) : State :=
  { dropAllJobs s with codec := { (dropAllJobs s).codec with preloadDue := (dropAllJobs s).core.service } }

/-- The selection that the lane was decoding for ends. -/
def selectionEnded (s : State) : State :=
  if s.select.pending.any (laneDecodes s) then { laneCleared s with select := { (laneCleared s).select with pending := none } }
  else laneCleared s

/-- The qualification that the lane was loading for ends. -/
def decodesEnded (s : State) : State :=
  if laneServes s .calibration then failQual false (selectionEnded s) else selectionEnded s

theorem abortJobs_eq (s : State) : abortJobs s =
    if !laneServes s .restore then decodesEnded s
    else if (decodesEnded s).gather.state == .restore then
      { decodesEnded s with gather := { (decodesEnded s).gather with restoreDue := true } }
    else restoreFails (decodesEnded s) := rfl

theorem selectionEnded_eff (s : State) : Eff [.codec, .pens, .select] s (selectionEnded s) := by
  have cleared : Eff [.codec, .pens, .select] s (laneCleared s) := Eff.set_codec ((dropAllJobs_eff s).mono rfl) rfl
  exact Eff.ite (fun _ => Eff.set_select cleared rfl) fun _ => cleared

theorem decodesEnded_eff (s : State) : Eff [.cart, .codec, .pens, .select, .portA, .portB, .emit, .beacon] s (decodesEnded s) := by
  have ended := selectionEnded_eff s
  exact Eff.ite (fun _ => (ended.mono rfl).comp (failQual_eff _ _) rfl) fun _ => ended.mono rfl

theorem decodesEnded_laneEmpty (s : State) : LaneEmpty (decodesEnded s).codec := by
  have ended : LaneEmpty (selectionEnded s).codec := by
    unfold selectionEnded
    split <;> exact ⟨rfl, rfl, rfl, rfl⟩
  exact ite_pred (P := fun t => LaneEmpty t.codec) (failQual_laneEmpty ended false) ended

/-- Outside a RESTORE a failed restore ends its jobs alone. -/
theorem restoreFails_outside (h : s.gather.state ≠ .restore) : restoreFails s = dropJobs (fun r => r == .restore) s := by
  have kept : (dropJobs (fun r => r == .restore) s).gather.state ≠ .restore := by rwa [(dropJobs_eff _ _).gather_eq rfl]
  exact if_neg (mt beq_iff_eq.mp kept)

/-- An abort empties the leaf lane; of the gathering it puts off a RESTORE's decode alone. -/
theorem abortJobs_stops (s : State) : LaneEmpty (abortJobs s).codec ∧ (abortJobs s).binding = s.binding ∧
    ∃ b, (abortJobs s).gather = { s.gather with restoreDue := b } := by
  have ended := decodesEnded_eff s
  have gather := ended.gather_eq rfl
  have empty := decodesEnded_laneEmpty s
  rw [abortJobs_eq]
  split
  · exact ⟨empty, ended.binding_eq rfl, s.gather.restoreDue, gather⟩
  split
  · exact ⟨empty, ended.binding_eq rfl, true, by rw [gather]⟩
  next h =>
    have drops := dropJobs_eff (fun r => r == .restore) (decodesEnded s)
    rw [restoreFails_outside (mt beq_iff_eq.mpr h)]
    exact ⟨dropJobs_laneEmpty empty _, (drops.binding_eq rfl).trans (ended.binding_eq rfl), s.gather.restoreDue,
      (drops.gather_eq rfl).trans gather⟩

/-! The canvas lane stops (10 R253). -/

theorem cvsDiscard_canvas (reason : Nat) (pens : List Nat) (seq : Nat) (s : State) :
    (cvsDiscard reason pens seq s).canvas.job = s.canvas.job ∧ (cvsDiscard reason pens seq s).canvas.frame = s.canvas.frame := by
  have frees : Eff [.pens] s (pens.foldl (fun u i => freePen i u) s) := Eff.foldl (fun _ _ => freePen_eff _ _) _ (Eff.refl _ s)
  unfold cvsDiscard
  rw [report_canvas]
  dsimp only
  rw [frees.canvas_eq rfl]
  exact ⟨rfl, rfl⟩

theorem discardCanvas_canvas (reason : Nat) (s : State) :
    (discardCanvas reason s).canvas.job = none ∧ (discardCanvas reason s).canvas.frame = s.canvas.frame := by
  unfold discardCanvas
  split
  next h => exact ⟨h, rfl⟩
  next => exact cvsDiscard_canvas _ _ _ _

theorem discardCanvas_laneEmpty (h : LaneEmpty s.codec) (reason : Nat) : LaneEmpty (discardCanvas reason s).codec := by
  unfold discardCanvas
  split
  · exact h
  · rw [(cvsDiscard_eff _ _ _ _).codec_eq rfl]
    exact ⟨h.running, h.queue, h.atRequester, h.preload⟩

/-- 10 R253: the frame under way will be discarded, and the pens that it fills are freed. -/
theorem abortFrame_canvas (s : State) : (abortFrame s).canvas.job = s.canvas.job ∧
    (abortFrame s).canvas.frame = s.canvas.frame.map fun f => { f with pens := [], aborted := true } := by
  unfold abortFrame
  split
  next h => exact ⟨rfl, by rw [h]; rfl⟩
  next r h =>
    have frees : Eff [.pens] s (r.pens.foldl (fun u i => freePen i u) s) := Eff.foldl (fun _ _ => freePen_eff _ _) _ (Eff.refl _ s)
    rw [h]
    dsimp only
    rw [frees.canvas_eq rfl]
    exact ⟨rfl, rfl⟩

/-! Both lanes stopped. -/

/-- What an abort has done before the gathering rolls back. -/
structure LanesStopped (s t : State) : Prop where
  pins : t.pins = { s.pins with abortLow := true }
  gather : ∃ b, t.gather = { s.gather with aborting := true, restoreDue := b }
  live : t.binding.live = s.binding.live
  lane : LaneEmpty t.codec
  job : t.canvas.job = none
  frame : t.canvas.frame = s.canvas.frame.map fun f => { f with pens := [], aborted := true }

theorem lanesAborted_stopped (read : Nat) (s : State) : LanesStopped s (lanesAborted read s) := by
  have bursts := abortBursts_eff (abortBegun read s)
  have jobs := abortJobs_eff (abortBursts (abortBegun read s))
  have discards := discardCanvas_eff 0x81 (abortJobs (abortBursts (abortBegun read s)))
  have frames := abortFrame_eff (discardCanvas 0x81 (abortJobs (abortBursts (abortBegun read s))))
  obtain ⟨empty, binding, b, gather⟩ := abortJobs_stops (abortBursts (abortBegun read s))
  obtain ⟨noJob, discarded⟩ := discardCanvas_canvas 0x81 (abortJobs (abortBursts (abortBegun read s)))
  obtain ⟨job, frame⟩ := abortFrame_canvas (discardCanvas 0x81 (abortJobs (abortBursts (abortBegun read s))))
  refine ⟨?_, ⟨b, ?_⟩, ?_, ?_, job.trans noJob, ?_⟩
  · exact (frames.pins_eq rfl).trans ((discards.pins_eq rfl).trans ((jobs.pins_eq rfl).trans (bursts.pins_eq rfl)))
  · rw [lanesAborted, frames.gather_eq rfl, discards.gather_eq rfl, gather, bursts.gather_eq rfl]
    rfl
  · rw [lanesAborted, frames.binding_eq rfl, discards.binding_eq rfl, binding, bursts.binding_eq rfl]
    rfl
  · exact laneEmpty_of_eff (discardCanvas_laneEmpty empty _) frames rfl
  · rw [lanesAborted, frame, discarded, jobs.canvas_eq rfl, bursts.canvas_eq rfl]
    rfl

/-! The rollback of an abort (07 R171, R176). -/

theorem redirect_aborted (s : State) : redirect 0x42 s = { s with gather := { s.gather with
    backReason := 0x42, restoreDue := s.gather.restoreDue || (s.gather.restoring && s.pins.abortLow) } } := rfl

/-- A rollback keeps an abort under way, and the committed settings. -/
theorem rollback_keeps (s : State) : (rollback 0x42 s).gather.aborting = s.gather.aborting ∧
    (rollback 0x42 s).binding.live = s.binding.live := by
  have outside : outsideBridge s.gather.state → (rollback 0x42 s).gather.aborting = s.gather.aborting ∧
      (rollback 0x42 s).binding.live = s.binding.live := fun h => (rollback_closes h 0x42).2.2
  have bridge : s.gather.state = .ramp ∨ s.gather.state = .darkDecode → (rollback 0x42 s).gather.aborting = s.gather.aborting ∧
      (rollback 0x42 s).binding.live = s.binding.live := fun h => by
    rw [rollback_bridge h]
    exact ⟨beginRestore_aborting _ _, beginRestore_live _ _⟩
  cases h : s.gather.state with
  | closed =>
    rw [rollback_closed h]
    exact ⟨rfl, rfl⟩
  | opened => exact outside (.inl h)
  | validate => exact outside (.inr (.inl h))
  | decode => exact outside (.inr (.inr (.inl h)))
  | darkDecode => exact bridge (.inr h)
  | ramp => exact bridge (.inl h)
  | swapWait => exact outside (.inr (.inr (.inr h)))
  | restore =>
    rw [rollback_restore h, redirect_aborted]
    exact ⟨rfl, rfl⟩

/-- What follows the rollback: the recovery interval, and the read that goes on. -/
theorem abortEdge_behind (read : Nat) (s : State) :
    Eff [.keeper, .mem, .beacon] (rollback 0x42 (lanesAborted read s)) (abortEdge read s) :=
  ((coverFault_eff _ _ _).mono rfl).comp (resumeRead_eff _) rfl

theorem abortEdge_closedWith {o k read : Nat} (h : ClosedWith o k (rollback 0x42 (lanesAborted read s))) :
    ClosedWith o k (abortEdge read s) := by
  have covered : ClosedWith o k (coverFault 25 255 (rollback 0x42 (lanesAborted read s))) := by
    have gather := (coverFault_eff 25 255 (rollback 0x42 (lanesAborted read s))).gather_eq rfl
    exact ⟨by rw [gather, h.closed], by rw [gather, h.outcome_eq], by rw [gather, h.reason_eq], reported_coverFault h.reported _ _⟩
  exact closedWith_of_eff covered (resumeRead_eff _) rfl rfl

/-- `READY` waits for an abort (07 R177). -/
theorem ready_aborting (h : s.gather.aborting = true) : ready s = false := by simp [ready, h]

/-- What an abort does whatever the state of the gathering. -/
theorem abortEdge_stops (read : Nat) (s : State) :
    let t := abortEdge read s
    t.pins = { s.pins with abortLow := true } ∧ t.gather.aborting = true ∧ ready t = false ∧ t.canvas.job = none ∧
      t.canvas.frame = s.canvas.frame.map (fun f => { f with pens := [], aborted := true }) ∧ t.binding.live = s.binding.live := by
  have behind := abortEdge_behind read s
  have rolls := rollback_eff 0x42 (lanesAborted read s)
  have stopped := lanesAborted_stopped read s
  obtain ⟨b, gather⟩ := stopped.gather
  obtain ⟨keepsAborting, keepsLive⟩ := rollback_keeps (lanesAborted read s)
  have canvas := (behind.canvas_eq rfl).trans (rolls.canvas_eq rfl)
  have aborting : (abortEdge read s).gather.aborting = true := by rw [behind.gather_eq rfl, keepsAborting, gather]
  refine ⟨(behind.pins_eq rfl).trans ((rolls.pins_eq rfl).trans stopped.pins), aborting, ready_aborting aborting, ?_, ?_, ?_⟩
  · rw [canvas, stopped.job]
  · rw [canvas, stopped.frame]
  · rw [behind.binding_eq rfl, keepsLive, stopped.live]

section
variable (read : Nat)

theorem lanesAborted_state (s : State) : (lanesAborted read s).gather.state = s.gather.state := by
  obtain ⟨b, gather⟩ := (lanesAborted_stopped read s).gather
  rw [gather]

/-- 07 R171: a RESTORE goes on with the abort as its reason. -/
theorem abortEdge_restore (h : s.gather.state = .restore) :
    (abortEdge read s).gather.state = .restore ∧ (abortEdge read s).gather.backReason = 0x42 := by
  have state := (lanesAborted_state read s).trans h
  rw [(abortEdge_behind read s).gather_eq rfl, rollback_restore state, redirect_aborted]
  exact ⟨state, rfl⟩

/-- Without a gathering an abort leaves its last outcome, and the lane empty. -/
theorem abortEdge_closed (h : s.gather.state = .closed) : (abortEdge read s).gather.state = .closed ∧
    (abortEdge read s).gather.outcome = s.gather.outcome ∧ LaneEmpty (abortEdge read s).codec := by
  have behind := abortEdge_behind read s
  have stopped := lanesAborted_stopped read s
  obtain ⟨b, gather⟩ := stopped.gather
  rw [rollback_closed ((lanesAborted_state read s).trans h)] at behind
  refine ⟨?_, ?_, laneEmpty_of_eff stopped.lane behind rfl⟩
  · rw [behind.gather_eq rfl, gather, h]
  · rw [behind.gather_eq rfl, gather]

/-- Outside a bridge an abort closes the gathering. -/
theorem abortEdge_outside (h : outsideBridge s.gather.state) : ClosedWith 3 0x42 (abortEdge read s) :=
  abortEdge_closedWith (rollback_closes ((lanesAborted_state read s).symm ▸ h) 0x42).1

/-- Inside a bridge an abort rolls back through RESTORE. -/
theorem abortEdge_bridge (h : s.gather.state = .ramp ∨ s.gather.state = .darkDecode) : RollsBack 0x42 (abortEdge read s) := by
  have state := lanesAborted_state read s
  have rolls := beginRestore_rollsBack 0x42 (lanesAborted read s)
  rw [← rollback_bridge (state.symm ▸ h)] at rolls
  refine rolls.imp (fun restores => ?_) abortEdge_closedWith
  rwa [(abortEdge_behind read s).gather_eq rfl]
end

/-! The release (07 R178). -/

/-- `ABORT_N` is high. -/
def abortReleased (s : State) : State := { s with pins := { s.pins with abortLow := false } }

/-- The cartridge's retry timer begins where an abort put it off. -/
def cartRetryReleased (s : State) : State :=
  if s.cart.retryDue then startRetry { s with cart := { s.cart with retryDue := false } } else s

/-- The cartridge's retry takes place where an abort put its end off. -/
def cartReleased (s : State) : State := if s.cart.expiredDue then retryEnds s else s

/-- The pack's retry that was put off. -/
def packReleased (s : State) : State := if s.pack.expiredDue then packRetryEnds s else s

/-- The RESTORE decode that was put off. -/
def restoreReleased (s : State) : State :=
  if s.gather.restoreDue then restoreProgress (requestRestore { s with gather := { s.gather with restoreDue := false } }) else s

/-- The retry of a restore that was put off. -/
def retryReleased (s : State) : State := if s.gather.retryDue then retryDueNow s else s

/-- The preload round that was put off. -/
def preloadReleased (s : State) : State := if s.codec.preloadDue then preloadRound s else s

/-- What follows the cartridge at a release. -/
def restReleased (s : State) : State := preloadReleased (retryReleased (restoreReleased (packReleased s)))

theorem exec_abortRelease (hr : running s = true) (ha : s.pins.abortLow = true) :
    exec .abortRelease s = .next (restReleased (cartReleased (cartRetryReleased (abortReleased s)))) :=
  guarded_of (by simp [hr, ha]) _ _

theorem packReleased_eff (s : State) : Eff [.aon, .pack, .beacon] s (packReleased s) :=
  Eff.ite (fun _ => packRetryEnds_eff _) fun _ => Eff.refl _ _

theorem restoreReleased_eff (s : State) :
    Eff [.mem, .binding, .gather, .codec, .pens, .select, .portA, .portB, .beacon] s (restoreReleased s) :=
  Eff.ite (fun _ => ((Eff.set_gather (Eff.refl _ s) rfl).comp (requestRestore_eff _) rfl).comp (restoreProgress_eff _) rfl)
    fun _ => Eff.refl _ _

theorem retryReleased_eff (s : State) :
    Eff [.mem, .binding, .gather, .codec, .pens, .select, .portA, .portB, .beacon] s (retryReleased s) :=
  Eff.ite (fun _ => retryDueNow_eff _) fun _ => Eff.refl _ _

theorem preloadReleased_eff (s : State) : Eff [.codec, .pens] s (preloadReleased s) :=
  Eff.ite (fun _ => preloadRound_eff _) fun _ => Eff.refl _ _

theorem restReleased_eff (s : State) :
    Eff [.aon, .pack, .mem, .binding, .gather, .codec, .pens, .select, .portA, .portB, .beacon] s (restReleased s) :=
  ((((packReleased_eff s).mono rfl).comp (restoreReleased_eff _) rfl).comp (retryReleased_eff _) rfl).comp
    (preloadReleased_eff _) rfl

/-- With nothing put off, a release does no more. -/
theorem restReleased_nothing (hp : s.pack.expiredDue = false) (hd : s.gather.restoreDue = false) (hr : s.gather.retryDue = false)
    (hl : s.codec.preloadDue = false) : restReleased s = s := by
  simp [restReleased, packReleased, restoreReleased, retryReleased, preloadReleased, hp, hd, hr, hl]

theorem cartRetryReleased_none (h : s.cart.retryDue = false) : cartRetryReleased s = s := by simp [cartRetryReleased, h]

theorem cartReleased_none (h : s.cart.expiredDue = false) : cartReleased s = s := by simp [cartReleased, h]

/-- The cartridge's retry timer runs, which an abort had put off. -/
def retryStarted (s : State) : State := { s with cart := { s.cart with retryDue := false, retry := true } }

theorem cartRetryReleased_starts (h : s.cart.retryDue = true) (hc : s.cart.chatter = false) :
    cartRetryReleased s = retryStarted s := by
  simp [cartRetryReleased, startRetry, retryStarted, h, hc]

/-- 07 R178: the qualification that an abort put off begins. -/
theorem cartReleased_begins (h : s.cart.expiredDue = true) (hp : s.cart.present = true) (hq : mayQualify s = true) :
    cartReleased s = beginQual { s with cart := { s.cart with retry := false, expiredDue := false } } := by
  rw [cartReleased, if_pos h, retryEnds_begins hp hq]

/-- Settles O37: the abort by the state of the gathering, its completion, and the release by what was put off. -/
theorem abortStopsAndReleases : Obligations.AbortStopsAndReleases := by
  refine ⟨fun n r s hs ha hn => ?_, fun s hs ha => guarded_of (by simp [hs, ha]) _ _, fun s hr ha => ⟨fun hd he hp hg ht hl => ?_,
    fun hd he hc => ?_, fun hd he hp hq => ?_⟩⟩
  · have aborts : exec (.abort ⟨n, r⟩) s = .next (abortEdge r s) := by
      rw [exec_abort, filtered_seen hn, guarded_of (by simp [hs, ha])]
    obtain ⟨pins, aborting, notReady, job, frame, live⟩ := abortEdge_stops r s
    refine ⟨_, aborts, pins, aborting, notReady, job, frame, live, abortEdge_restore r, fun h => ?_, fun h => ?_, fun h => ?_⟩
    · obtain ⟨closed, outcome, lane⟩ := abortEdge_closed r h
      exact ⟨closed, outcome, lane.running, lane.queue, lane.atRequester, lane.preload⟩
    · obtain ⟨closed, outcome, reason, reported⟩ := abortEdge_outside r h
      exact ⟨closed, outcome, reason, reported⟩
    · refine (abortEdge_bridge r h).imp id ?_
      rintro ⟨closed, outcome, reason, reported⟩
      exact ⟨closed, outcome, reason, reported⟩
  all_goals have releases := exec_abortRelease hr ha
  · rw [cartRetryReleased_none (s := abortReleased s) hd, cartReleased_none (s := abortReleased s) he,
      restReleased_nothing (s := abortReleased s) hp hg ht hl] at releases
    exact releases
  · rw [cartRetryReleased_starts (s := abortReleased s) hd hc,
      cartReleased_none (s := retryStarted (abortReleased s)) he] at releases
    have rest := restReleased_eff (retryStarted (abortReleased s))
    exact ⟨_, releases, rest.pins_eq rfl, rest.cart_eq rfl⟩
  · rw [cartRetryReleased_none (s := abortReleased s) hd, cartReleased_begins (s := abortReleased s) he hp hq] at releases
    have cart := (restReleased_eff (beginQual
      { abortReleased s with cart := { s.cart with retry := false, expiredDue := false } })).cart_eq rfl
    exact ⟨_, releases, congrArg Cart.step cart, congrArg Cart.expiredDue cart⟩

end Sys2Proof.Proofs
end

section
/-! SUPPORT. The lamp field's row-frames and probes (14 R342 to R357), the swap of a ready stitch (07 R163, R168), and O55. -/

namespace Sys2Proof.Proofs

open Sys2Proof Machine Laws

variable {s t : State} {c : Settings}

/-! The swap (07 R168). -/

/-- 07 R168: after a swap the stitch's configuration is in force, and the gathering is COMMITTED. -/
theorem swap_commits (h : s.gather.shadow = some c) : ClosedWith 1 0 (swap s) ∧ (swap s).binding.live = c := by
  have closes : ∃ u, swap s = closeGather 1 0 u ∧ u.binding.live = c := by
    unfold swap
    rw [h]
    refine ⟨_, rfl, ?_⟩
    rw [(preloadRound_eff _).binding_eq rfl, (swapStandby_eff _).binding_eq rfl, (swapRetries_eff _ _).binding_eq rfl,
      (swapCanvas_eff _ _).binding_eq rfl, (followVertical_eff _ _).binding_eq rfl, (assignChannels_eff _).binding_eq rfl]
    dsimp only
    rw [(showAll_eff _ _).binding_eq rfl, (holdOther_eff _).binding_eq rfl, (swapLampOnly_eff _).binding_eq rfl,
      (swapCalibration_eff _ _).binding_eq rfl, (clearLatches_eff _).binding_eq rfl]
  obtain ⟨u, swaps, live⟩ := closes
  rw [swaps]
  exact ⟨closeGather_closedWith 1 0 u, (closeGather_live 1 0 u).trans live⟩

/-- Without a port that runs, a tick at which the stitch is ready swaps it in (07 R163). -/
theorem stitchAtTick_swaps (hl : leadPort s = none) (h : swapReady s = true) : stitchAtTick s = swap s := by
  simp [stitchAtTick, hl, h]

theorem stitchAtTick_closed (hc : s.gather.state = .closed) (hb : s.gather.bridgeDue = false) : stitchAtTick s = s := by
  simp [stitchAtTick, swapReady_closed hc, hb]

/-! What every row-frame start does (14 R354, R355, R357). -/

/-- The row-frame has turned. -/
def frameTurned (s : State) : State := lampHeadroomEvent (turnFrame s)

/-- The row-frame is shown again, and counted (14 R350). -/
def frameRepeated (s : State) : State := report evLampRepeat 0 0 (updLamps (fun f => { f with repeats := satInc f.repeats }) s)

/-- A new row-frame's fields, mask, scales and codes. -/
def codesTaken (s : State) : State := takeScales (takeMask (passRowFrame (takeLampFields s)))

theorem exec_rowFrameStart_held (hr : lampRuns s = true) (hk : domainHeld s .sys = true) (ready : Bool) :
    exec (.rowFrameStart ready) s = .next (frameRepeated (frameTurned s)) := by
  refine (guarded_of hr _ _).trans ?_
  simp [hk, frameRepeated, frameTurned]

theorem exec_rowFrameStart_ready (hr : lampRuns s = true) (hk : domainHeld s .sys = false) :
    exec (.rowFrameStart true) s = .next (stitchAtTick (restoreProgress (computeCodes (codesTaken (frameTurned s))))) := by
  refine (guarded_of hr _ _).trans ?_
  simp [hk, codesTaken, frameTurned]

theorem exec_rowFrameStart_late (hr : lampRuns s = true) (hk : domainHeld s .sys = false) :
    exec (.rowFrameStart false) s = .next (stitchAtTick (restoreProgress (frameRepeated (frameTurned s)))) := by
  refine (guarded_of hr _ _).trans ?_
  simp [hk, frameRepeated, frameTurned]

theorem frameTurned_eff (s : State) : Eff [.lamp, .beacon] s (frameTurned s) :=
  ((turnFrame_eff s).mono rfl).comp (lampHeadroomEvent_eff _) rfl

theorem lampHeadroomEvent_lamp (s : State) : ∃ n, (lampHeadroomEvent s).lamp = { s.lamp with sinceHeadroom := n } := by
  unfold lampHeadroomEvent
  split
  · exact ⟨0, report_lamp _ _ _ _⟩
  · exact ⟨s.lamp.sinceHeadroom, rfl⟩

theorem frameTurned_lamp (s : State) : ∃ n, (frameTurned s).lamp = { s.lamp with
    dark := s.pins.killLow || s.jtag.instr == .extest, cut := false, hot := [], litLast := s.lamp.litNow, litNow := []
    sinceHeadroom := n } := lampHeadroomEvent_lamp (turnFrame s)

/-! A row-frame shown again (14 R350). -/

theorem frameRepeated_eff (s : State) : Eff [.lamp, .beacon] s (frameRepeated s) :=
  ((updLamps_eff _ s).mono rfl).comp (report_eff _ _ _ _) rfl

/-- 14 R350: a row-frame shown again keeps its codes and its mask, and is counted and reported, with subject 0 (log 30). -/
theorem frameRepeated_repeats (s : State) :
    let t := frameRepeated (frameTurned s)
    t.lamp.lamps = s.lamp.lamps ∧ t.lamp.mask = s.lamp.mask ∧ t.lamp.repeats = satInc s.lamp.repeats ∧
      Reported evLampRepeat 0 t := by
  obtain ⟨n, turned⟩ := frameTurned_lamp s
  have lamp : (frameRepeated (frameTurned s)).lamp =
      { (frameTurned s).lamp with repeats := satInc (frameTurned s).lamp.repeats } := report_lamp _ _ _ _
  rw [turned] at lamp
  exact ⟨by rw [lamp], by rw [lamp], by rw [lamp], report_reported _ _ _ _⟩

theorem repeated_eff (s : State) : Eff [.lamp, .beacon] s (frameRepeated (frameTurned s)) :=
  (frameTurned_eff s).trans (frameRepeated_eff _)

/-- A state apart from its lamps and its beacon. -/
theorem eq_of_lampBeacon_eff (h : Eff [.lamp, .beacon] s t) : t = { s with lamp := t.lamp, beacon := t.beacon } := by
  cases t
  simp only [State.mk.injEq]
  exact ⟨h.fuses_eq rfl, h.supply_eq rfl, h.pins_eq rfl, h.aon_eq rfl, h.pack_eq rfl, h.safety_eq rfl, h.jtag_eq rfl, h.core_eq rfl,
    h.cart_eq rfl, h.keeper_eq rfl, h.clocks_eq rfl, h.mem_eq rfl, h.binding_eq rfl, h.gather_eq rfl, h.codec_eq rfl, h.pens_eq rfl,
    h.matrix_eq rfl, h.select_eq rfl, h.canvas_eq rfl, h.portA_eq rfl, h.portB_eq rfl, h.engine_eq rfl, h.bright_eq rfl,
    h.emit_eq rfl, trivial, h.yard_eq rfl, h.integrity_eq rfl, trivial, h.free_eq rfl, h.pending_eq rfl⟩

/-- The lamps and the beacon have no part in what a swap waits for. -/
theorem swapReady_of_lampBeacon (h : Eff [.lamp, .beacon] s t) : swapReady t = swapReady s := by
  rw [eq_of_lampBeacon_eff h]
  rfl

/-- 07 R163: with no port running, the start of a row-frame swaps in a stitch that is ready, whatever becomes of its codes. -/
theorem rowFrameStart_swaps (hr : lampRuns s = true) (hk : domainHeld s .sys = false) (hl : leadPort s = none)
    (hn : s.gather.restoring = false) (h : swapReady s = true) :
    exec (.rowFrameStart false) s = .next (swap (frameRepeated (frameTurned s))) := by
  have repeats := repeated_eff s
  have gather := repeats.gather_eq rfl
  have outside : s.gather.state ≠ .restore := by
    intro restore
    simp [swapReady, restore] at h
  have lead : leadPort (frameRepeated (frameTurned s)) = none := by
    rw [leadPort, repeats.portA_eq rfl, repeats.portB_eq rfl]
    exact hl
  rw [exec_rowFrameStart_late hr hk, restoreProgress_of_not_restore (by rw [gather, hn]) (by rw [gather]; exact outside),
    stitchAtTick_swaps lead ((swapReady_of_lampBeacon repeats).trans h)]

/-! A new row-frame (14 R342, R348, R356). -/

theorem takeLampFields_lamp (s : State) : ∃ l, l.length = s.lamp.lamps.length ∧
    (takeLampFields s).lamp = { s.lamp with fields := live s, lamps := l } := by
  refine ⟨_, ?_, rfl⟩
  split
  · rfl
  · simp

/-- The entry that the lamp engine takes becomes the current one. -/
def entryTaken (s : State) : State :=
  if (lampChoice s).2 then (lampChoice s).1.elim s fun e => takeLampEntry e s else s

theorem entryTaken_lamp (s : State) : (entryTaken s).lamp = s.lamp :=
  (Eff.ite (fun _ => Eff.elim (Eff.refl [.select] s) (fun e => takeLampEntry_eff e s) _) fun _ => Eff.refl _ _ :
    Eff [.select] s (entryTaken s)).lamp_eq rfl

theorem lamp_updLamps_mask (h : t.lamp = s.lamp) (m : Option Nat) :
    (updLamps (fun f => { f with mask := m }) t).lamp = { s.lamp with mask := m } := by
  unfold updLamps
  dsimp only
  rw [h]

/-- Of the lamp field a mask taken changes the mask alone. -/
theorem takeMask_lamp (s : State) : ∃ m, (takeMask s).lamp = { s.lamp with mask := m } := by
  have taken := entryTaken_lamp s
  unfold takeMask
  split
  · exact ⟨_, rfl⟩
  · refine ite_pred (P := fun u => ∃ m, u.lamp = { s.lamp with mask := m }) ⟨s.lamp.mask, taken⟩ ?_
    exact ⟨_, ((retirePens_eff _ _).lamp_eq rfl).trans (((markShown_eff _ _).lamp_eq rfl).trans
      (lamp_updLamps_mask taken _))⟩

/-- The lamp field of a row-frame before its codes: the fields, the mask and the scales. -/
theorem codesTaken_lamp (s : State) : ∃ l m, l.length = s.lamp.lamps.length ∧ (codesTaken s).lamp =
    { s.lamp with fields := live s, lamps := l, mask := m, fWork := s.yard.fWork, qWork := s.yard.qWork, fSignal := s.yard.fSignal } := by
  have kept : Eff [.pens, .select, .lamp] s (takeMask (passRowFrame (takeLampFields s))) :=
    (((takeLampFields_eff s).mono rfl).comp (passRowFrame_eff _) rfl).comp (takeMask_eff _) rfl
  obtain ⟨l, length, fields⟩ := takeLampFields_lamp s
  obtain ⟨m, mask⟩ := takeMask_lamp (passRowFrame (takeLampFields s))
  rw [(passRowFrame_eff _).lamp_eq rfl, fields] at mask
  refine ⟨l, m, length, ?_⟩
  unfold codesTaken takeScales updLamps
  dsimp only
  rw [mask, kept.yard_eq rfl]

theorem codesTaken_eff (s : State) : Eff [.pens, .select, .lamp] s (codesTaken s) :=
  ((((takeLampFields_eff s).mono rfl).comp (passRowFrame_eff _) rfl).comp (takeMask_eff _) rfl).comp (takeScales_eff _) rfl

theorem shownCode_lt (st : Store) (a f q : Nat) : shownCode st a f q < 2 ^ fnat st lampPlanes := by
  have planes : 2 ^ (fnat st lampPlanes - q) ≤ 2 ^ fnat st lampPlanes := Nat.pow_le_pow_right (by decide) (Nat.sub_le _ _)
  have positive : 0 < 2 ^ (fnat st lampPlanes - q) := Nat.pow_pos (by decide)
  have least : shownCode st a f q ≤ 2 ^ (fnat st lampPlanes - q) - 1 := Nat.min_le_left _ _
  omega

/-- 14 R353: a dead lamp has code 0. -/
theorem lampCodes_dead (f : LampField) (codes : List Nat) (i : Nat) (l : Lamp)
    (h : (lampCodes f codes i l).latched = true ∨ (lampCodes f codes i l).eccDark = true) : (lampCodes f codes i l).code = 0 := by
  unfold lampCodes at *
  split
  · rfl
  next alive =>
    rw [if_neg alive] at h
    exact absurd (by simpa [deadLamp] using h) alive

theorem lampCodes_lt (f : LampField) (codes : List Nat) (i : Nat) (l : Lamp) :
    (lampCodes f codes i l).code < 2 ^ fnat f.fields lampPlanes := by
  unfold lampCodes
  split
  · exact Nat.pow_pos (by decide)
  · dsimp only
    split
    · exact shownCode_lt _ _ _ _
    · exact shownCode_lt _ _ _ _

/-- The codes of a row-frame are those of its lamps, one each. -/
theorem computeCodes_lamp (s : State) : ∃ codes, (computeCodes s).lamp =
    { s.lamp with lamps := s.lamp.lamps.zipIdx.map fun e => lampCodes s.lamp codes e.2 e.1 } := ⟨_, rfl⟩

/-- 14 R342, R348, R353: a new row-frame. -/
theorem rowFrame_codes (s : State) :
    let t := computeCodes (codesTaken (frameTurned s))
    t.lamp.fields = live s ∧ t.lamp.fWork = s.yard.fWork ∧ t.lamp.qWork = s.yard.qWork ∧ t.lamp.fSignal = s.yard.fSignal ∧
      t.lamp.litLast = s.lamp.litNow ∧ t.lamp.dark = (s.pins.killLow || s.jtag.instr == .extest) ∧
      t.lamp.lamps.length = s.lamp.lamps.length ∧ (∀ l ∈ t.lamp.lamps, l.latched = true ∨ l.eccDark = true → l.code = 0) ∧
      ∀ l ∈ t.lamp.lamps, l.code < 2 ^ fnat t.lamp.fields lampPlanes := by
  obtain ⟨n, turned⟩ := frameTurned_lamp s
  obtain ⟨l, m, length, taken⟩ := codesTaken_lamp (frameTurned s)
  obtain ⟨codes, computed⟩ := computeCodes_lamp (codesTaken (frameTurned s))
  have live : live (frameTurned s) = live s := live_of_eff (frameTurned_eff s) rfl
  have yard := (frameTurned_eff s).yard_eq rfl
  rw [turned] at length taken
  dsimp only
  have coded : ∀ k ∈ (computeCodes (codesTaken (frameTurned s))).lamp.lamps,
      ∃ i g, k = lampCodes (codesTaken (frameTurned s)).lamp codes i g := by
    intro k hk
    rw [computed] at hk
    obtain ⟨e, -, rfl⟩ := List.mem_map.mp hk
    exact ⟨_, _, rfl⟩
  have fields : (computeCodes (codesTaken (frameTurned s))).lamp.fields = (codesTaken (frameTurned s)).lamp.fields := by
    rw [computed]
  refine ⟨?_, ?_, ?_, ?_, ?_, ?_, ?_, fun k hk hd => ?_, fun k hk => ?_⟩
  · rw [fields, taken, live]
  · rw [computed, taken, yard]
  · rw [computed, taken, yard]
  · rw [computed, taken, yard]
  · rw [computed, taken]
  · rw [computed, taken]
  · rw [computed, List.length_map, List.length_zipIdx, taken]
    exact length
  · obtain ⟨i, g, rfl⟩ := coded k hk
    exact lampCodes_dead _ _ _ _ hd
  · obtain ⟨i, g, rfl⟩ := coded k hk
    rw [fields]
    exact lampCodes_lt _ _ _ _

/-! Lamp faults (14 R351, R352). -/

/-- Of a list of lamps only those in the set may have been latched, and nothing else has changed. -/
structure Latches (p : Nat → Prop) (ls ks : List Lamp) : Prop where
  length : ks.length = ls.length
  each : ∀ i l, ls[i]? = some l → ∃ k, ks[i]? = some k ∧ k.vf = l.vf ∧ (¬p i ∨ l.latched = true → k = l)

theorem latches_refl (p : Nat → Prop) (ls : List Lamp) : Latches p ls ls := ⟨rfl, fun _ l h => ⟨l, h, rfl, fun _ => rfl⟩⟩

theorem latches_trans {p : Nat → Prop} {ls ks js : List Lamp} (h : Latches p ls ks) (g : Latches p ks js) : Latches p ls js := by
  refine ⟨g.length.trans h.length, fun i l hl => ?_⟩
  obtain ⟨k, hk, vf, kept⟩ := h.each i l hl
  obtain ⟨j, hj, vf', kept'⟩ := g.each i k hk
  refine ⟨j, hj, vf'.trans vf, fun hp => ?_⟩
  rw [kept hp] at kept'
  exact kept' hp

/-- A lamp of the set is latched. -/
theorem latchLamp_latches {p : Nat → Prop} {i : Nat} (hi : p i) (s : State) :
    Latches p s.lamp.lamps (latchLamp i s).lamp.lamps := by
  unfold latchLamp updLamps modAt
  dsimp only
  split
  next g hg =>
    refine ⟨List.length_set, fun j l hl => ?_⟩
    by_cases same : i = j
    · subst same
      obtain rfl : g = l := Option.some.inj (hg.symm.trans hl)
      refine ⟨_, List.getElem?_set_self (List.getElem?_eq_some_iff.mp hg).1, rfl, fun h => ?_⟩
      rw [← h.resolve_left (not_not_intro hi)]
    · exact ⟨l, by rw [List.getElem?_set_ne same, hl], rfl, fun _ => rfl⟩
  next => exact latches_refl p _

theorem lampFault_latches {p : Nat → Prop} {i : Nat} (hi : p i) (s : State) : Latches p s.lamp.lamps (lampFault s i).lamp.lamps := by
  have latched := latchLamp_latches hi s
  unfold lampFault
  dsimp only
  split
  · exact latches_refl p _
  split
  · rwa [report_lamp]
  split
  · rwa [report_lamp]
  · exact latches_refl p _

/-- Operations on lamps of the set, one after the other. -/
theorem foldl_latches {p : Nat → Prop} {f : State → Nat → State}
    (hf : ∀ i, p i → ∀ s, Latches p s.lamp.lamps (f s i).lamp.lamps) {l : List Nat} (hl : ∀ i ∈ l, p i) {ls : List Lamp}
    (h : s.lamp.lamps = ls) : Latches p ls (l.foldl f s).lamp.lamps :=
  List.foldlRecOn (motive := fun t : State => Latches p ls t.lamp.lamps) _ _ (h ▸ latches_refl p _) fun _ ht i hi =>
    latches_trans ht (hf i (hl i hi) _)

/-- The lamps listed for a row are of that row. -/
theorem rowOf_of_mem_rowLamps {f : LampField} {row i : Nat} (h : i ∈ rowLamps f row) : rowOf f i = row := by
  obtain ⟨c, hc, rfl⟩ := List.mem_map.mp h
  have lt : c < f.cols := List.mem_range.mp hc
  have cols : max 1 f.cols = f.cols := Nat.max_eq_right (by omega)
  rw [rowOf, cols, Nat.add_comm, Nat.add_mul_div_right c row (by omega), Nat.div_eq_of_lt lt, Nat.zero_add]

/-! Probes (14 R346, R356). -/

/-- The lamps of a row after a probe of it, before the faults that it finds. -/
def probedLamps (f : LampField) (row rail : Nat) (sinks : List Nat) : List Lamp :=
  f.lamps.zipIdx.map fun e =>
    if rowOf f e.2 = row then probeLamp f.fields rail (nth sinks (e.2 % max 1 f.cols)) e.1 else e.1

theorem probeLamp_latched {l : Lamp} (h : l.latched = true) (st : Store) (rail sink : Nat) : probeLamp st rail sink l = l :=
  if_pos h

/-- 14 R356: a probe moves the estimate of a working lamp by 2 mV; which probes count is the model's (log 98). -/
theorem probeLamp_vf {l : Lamp} (h : l.latched = false) (st : Store) (rail sink : Nat) :
    (probeLamp st rail sink l).vf = l.vf + 2 ∨ (probeLamp st rail sink l).vf = l.vf - 2 := by
  rw [probeLamp, h, if_neg Bool.false_ne_true]
  dsimp only
  split
  · exact .inr rfl
  · exact .inl rfl

/-- A probe that counts, and then the faults of the row that it finds. -/
theorem probeRow_latches (row rail : Nat) (sinks : List Nat) (s : State) :
    Latches (fun i => rowOf s.lamp i = row) (probedLamps s.lamp row rail sinks) (probeRow row rail sinks s).lamp.lamps := by
  refine ite_pred (P := fun t : State => Latches _ (probedLamps s.lamp row rail sinks) t.lamp.lamps) ?_ ?_
  · rw [report_lamp]
    change Latches _ _ (List.foldl (fun u i => latchLamp i u) _ _).lamp.lamps
    exact foldl_latches (fun i hi => latchLamp_latches hi) (fun i hi => rowOf_of_mem_rowLamps (List.mem_filter.mp hi).1) rfl
  · exact foldl_latches (fun i hi t => lampFault_latches hi t) (fun i hi => rowOf_of_mem_rowLamps (f := s.lamp) hi) rfl

/-- 14 R351, R356: what a probe of a row makes of each lamp. -/
theorem probeRow_lamps (row rail : Nat) (sinks : List Nat) (s : State) :
    (probeRow row rail sinks s).lamp.lamps.length = s.lamp.lamps.length ∧
      ∀ i l, s.lamp.lamps[i]? = some l → ∃ k, (probeRow row rail sinks s).lamp.lamps[i]? = some k ∧
        (rowOf s.lamp i = row → l.latched = false → k.vf = l.vf + 2 ∨ k.vf = l.vf - 2) ∧
        (rowOf s.lamp i ≠ row ∨ l.latched = true → k = l) := by
  obtain ⟨length, each⟩ := probeRow_latches row rail sinks s
  refine ⟨by simpa [probedLamps] using length, fun i l hl => ?_⟩
  have probed : (probedLamps s.lamp row rail sinks)[i]? = some
      (if rowOf s.lamp i = row then probeLamp s.lamp.fields rail (nth sinks (i % max 1 s.lamp.cols)) l else l) := by
    simp [probedLamps, hl]
  obtain ⟨k, hk, vf, kept⟩ := each i _ probed
  refine ⟨k, hk, fun here alive => ?_, fun spared => ?_⟩
  · rw [vf, if_pos here]
    exact probeLamp_vf alive _ _ _
  · have same : (if rowOf s.lamp i = row then probeLamp s.lamp.fields rail (nth sinks (i % max 1 s.lamp.cols)) l else l) = l := by
      split
      next here => exact probeLamp_latched (spared.resolve_left (not_not_intro here)) _ _ _
      next => rfl
    rw [same] at kept
    exact kept spared

/-- The sinks that were hot are on again. -/
def sinksOn (s : State) : State := updLamps (fun f => { f with hot := [] }) s

theorem exec_probeSlotEnd {row : Nat} (hr : lampRuns s = true) (hrow : row < s.lamp.rows) (rail : Nat) (sinks : List Nat)
    (track : List (Nat × Bool)) : exec (.probeSlotEnd row rail sinks track) s = .next
      (if probeDiscarded (trackSinks track (sinksOn s)) then trackSinks track (sinksOn s)
        else probeRow row (min 24000 rail) sinks (trackSinks track (sinksOn s))) :=
  guarded_of (by simp [hr, hrow]) _ _

/-- 14 R354: a sink that is turned off is counted. -/
def sinkTurnedOff (k : Nat) (s : State) : State := updLamps (fun f => { f with hot := f.hot ++ [k], hotCount := satInc f.hotCount }) s

theorem exec_sinkHot {k : Nat} (hr : lampRuns s = true) (hd : s.lamp.dark = false) (hk : k < s.lamp.cols) (hh : k ∉ s.lamp.hot) :
    exec (.sinkHot k) s = .next (report evSinkHot 0 k (sinkTurnedOff k s)) :=
  guarded_of (by simp [hr, hd, hk, hh]) _ _

/-- Settles O55: a new row-frame, one that swaps, one shown again, a probe and a hot sink. -/
theorem lampRowsAreDriven : Obligations.LampRowsAreDriven := by
  refine ⟨fun s hr hc hb hn hk => ?_, fun s hr hk hl hn hw c hc => ?_, fun ready s hr h => ?_,
    fun row rail sinks track s hr hrow => ⟨fun hkill => ?_, fun hd => ?_⟩, fun k s hr hd hk hh => ?_⟩
  · have starts := exec_rowFrameStart_ready hr hk
    have gather : (computeCodes (codesTaken (frameTurned s))).gather = s.gather := by
      rw [(computeCodes_eff _).gather_eq rfl, (codesTaken_eff _).gather_eq rfl, (frameTurned_eff s).gather_eq rfl]
    rw [restoreProgress_of_not_restore (by rw [gather, hn]) (by simp [gather, hc]),
      stitchAtTick_closed (by rw [gather, hc]) (by rw [gather, hb])] at starts
    exact ⟨_, starts, rowFrame_codes s⟩
  · have shadow : (frameRepeated (frameTurned s)).gather.shadow = some c := by rw [(repeated_eff s).gather_eq rfl, hc]
    obtain ⟨⟨closed, outcome, -, reported⟩, live⟩ := swap_commits shadow
    exact ⟨_, rowFrameStart_swaps hr hk hl hn hw, live, closed, outcome, reported⟩
  · refine ⟨_, ?_, frameRepeated_repeats s⟩
    rcases h with held | ⟨rfl, hc, hb, hn⟩
    · exact exec_rowFrameStart_held hr held ready
    · cases hk : domainHeld s .sys with
      | true => exact exec_rowFrameStart_held hr hk false
      | false =>
        have gather := (repeated_eff s).gather_eq rfl
        rw [exec_rowFrameStart_late hr hk, restoreProgress_of_not_restore (by rw [gather, hn]) (by simp [gather, hc]),
          stitchAtTick_closed (by rw [gather, hc]) (by rw [gather, hb])]
  · have discarded : probeDiscarded (trackSinks track (sinksOn s)) = true := by
      have low : (trackSinks track (sinksOn s)).pins.killLow = true := hkill
      simp [probeDiscarded, low]
    have ends := exec_probeSlotEnd hr hrow rail sinks track
    rw [if_pos discarded] at ends
    exact ⟨_, ends, rfl⟩
  · have counts : probeDiscarded (trackSinks track (sinksOn s)) = false := hd
    have ends := exec_probeSlotEnd hr hrow rail sinks track
    rw [if_neg (ne_true_of_eq_false counts)] at ends
    exact ⟨_, ends, probeRow_lamps row (min 24000 rail) sinks (trackSinks track (sinksOn s))⟩
  · exact ⟨_, exec_sinkHot hr hd hk hh, report_lamp _ _ _ _, report_reported _ _ _ _⟩

end Sys2Proof.Proofs
end

section
/-! SUPPORT. The bytes of T0 to T5 (09 R208, R215, R219, R224): a byte written is read at its address, wherever the pen map or the memory
below it holds that address, and every other address reads as before. -/

namespace Sys2Proof.Proofs

open Sys2Proof Machine Laws

variable {s t : State}

/-! A byte of a sample. -/

/-- One byte of a sample of at most two bytes is replaced. -/
theorem byteOf_replaced {j : Nat} (hj : j < 2) (v : Nat) (b : Byte) :
    byteOf ((v - v / 256 ^ j % 256 * 256 ^ j + b.toNat * 256 ^ j) / 256 ^ j) = b := by
  have hb := b.isLt
  apply BitVec.eq_of_toNat_eq
  rw [BitVec.toNat_ofNat]
  interval_cases j <;> omega

/-- The other byte is not. -/
theorem byteOf_replaced_other {i j : Nat} (hi : i < 2) (hj : j < 2) (h : i ≠ j) (v : Nat) (b : Byte) :
    byteOf ((v - v / 256 ^ j % 256 * 256 ^ j + b.toNat * 256 ^ j) / 256 ^ i) = byteOf (v / 256 ^ i) := by
  have hb := b.isLt
  apply BitVec.eq_of_toNat_eq
  rw [BitVec.toNat_ofNat, BitVec.toNat_ofNat]
  interval_cases i <;> interval_cases j <;> omega

/-! A byte of a pen (09 R208). -/

theorem mod_formatBytes_lt (f off : Nat) : off % formatBytes f < 2 := by
  unfold formatBytes
  split <;> omega

/-- A byte written into a pen that has it is read there. -/
theorem penByte_setPenByte {q : Pen} {off : Nat} (h : (penByte q off).isSome = true) (b : Byte) :
    penByte (setPenByte off b q) off = some b := by
  unfold penByte at h
  unfold penByte setPenByte modAt setAt
  dsimp only at h ⊢
  cases hv : q.image.samples[off / formatBytes q.image.format]? with
  | some v =>
    obtain ⟨hl, -⟩ := List.getElem?_eq_some_iff.mp hv
    simp only [List.getElem?_set_self hl, byteOf_replaced (mod_formatBytes_lt _ _)]
  | none =>
    simp only [hv] at h ⊢
    obtain ⟨c, hc⟩ := Option.isSome_iff_exists.mp h
    obtain ⟨hl, -⟩ := List.getElem?_eq_some_iff.mp hc
    exact List.getElem?_set_self hl

/-- Every other byte of the pen is read as before. -/
theorem penByte_setPenByte_other {i off : Nat} (h : i ≠ off) (b : Byte) (q : Pen) : penByte (setPenByte off b q) i = penByte q i := by
  unfold penByte setPenByte modAt setAt
  dsimp only
  have block : (q.block.set off b)[i]? = q.block[i]? := List.getElem?_set_ne h.symm
  cases hv : q.image.samples[off / formatBytes q.image.format]? with
  | none => simp only [block]
  | some v =>
    dsimp only
    by_cases hq : off / formatBytes q.image.format = i / formatBytes q.image.format
    · have other : i % formatBytes q.image.format ≠ off % formatBytes q.image.format := fun hm =>
        h (by rw [← Nat.div_add_mod i (formatBytes q.image.format), ← Nat.div_add_mod off (formatBytes q.image.format), hq, hm])
      obtain ⟨hl, -⟩ := List.getElem?_eq_some_iff.mp hv
      rw [← hq, List.getElem?_set_self hl, hv]
      exact congrArg some (byteOf_replaced_other (mod_formatBytes_lt _ _) (mod_formatBytes_lt _ _) other v b)
    · rw [List.getElem?_set_ne hq, block]

/-! The pen map (09 R208). -/

/-- The pen found for an address is in the map, and holds the address at the offset found. -/
theorem penAt_spec {a i off : Nat} {q : Pen} (h : penAt s a = some (i, q, off)) : (i, q) ∈ s.pens.list ∧ penAddr q off = some a := by
  obtain ⟨e, he, found⟩ := List.exists_of_findSome?_eq_some h
  obtain ⟨k, hk, heq⟩ := Option.map_eq_some_iff.mp found
  obtain ⟨rfl, rfl, rfl⟩ : e.1 = i ∧ e.2 = q ∧ 16384 * k + a % 16384 = off := by simpa using heq
  obtain ⟨hl, hb, -⟩ := List.findIdx?_eq_some_iff_getElem.mp hk
  refine ⟨he, ?_⟩
  have block : (16384 * k + a % 16384) / 16384 = k := by omega
  have offset : (16384 * k + a % 16384) % 16384 = a % 16384 := by omega
  rw [penAddr, block, offset, List.getElem?_eq_getElem hl, Option.map_some, eq_of_beq hb, Nat.div_add_mod]

/-- A change of a pen that leaves its blocks alone leaves the map alone. -/
theorem penAt_updPen {f : Pen → Pen} (hf : ∀ q, (f q).blocks = q.blocks) (s : State) (i a : Nat) :
    penAt (updPen s i f) a = (penAt s a).map fun e => (e.1, if e.1 == i then f e.2.1 else e.2.1, e.2.2) := by
  unfold penAt updPen
  dsimp only
  rw [List.findSome?_map, List.map_findSome?]
  congr 1
  funext e
  by_cases h : e.1 = i
  · simp [h, hf, Function.comp_def]
  · simp [h, Function.comp_def]

/-- No two pens have one number, so that a number has one pen. -/
theorem pen_unique (hs : (s.pens.list.map (·.1)).Nodup) {i : Nat} {q r : Pen} (hq : (i, q) ∈ s.pens.list) (hr : (i, r) ∈ s.pens.list) :
    q = r :=
  congrArg Prod.snd (List.inj_on_of_nodup_map hs hq hr rfl)

/-! Writes (09 R219). -/

/-- A byte written to an address that a pen holds. -/
theorem storeByte_updPen (hs : (s.pens.list.map (·.1)).Nodup) {x i off : Nat} {q : Pen} (hp : penAt s x = some (i, q, off))
    (hb : (penByte q off).isSome = true) (b : Byte) (a : Nat) :
    storeByte (updPen s i (setPenByte off b)) a = if x = a then b else storeByte s a := by
  obtain ⟨hq, hx⟩ := penAt_spec hp
  unfold storeByte
  rw [penAt_updPen (by exact fun _ => rfl)]
  split
  next h =>
    subst h
    simp [hp, penByte_setPenByte hb]
  next h =>
    cases ha : penAt s a with
    | none => rfl
    | some e =>
      obtain ⟨j, r, k⟩ := e
      obtain ⟨hr, hk⟩ := penAt_spec ha
      by_cases hj : j = i
      · subst hj
        obtain rfl := pen_unique hs hq hr
        have apart : k ≠ off := fun hko => h (Option.some.inj (hx.symm.trans (hko ▸ hk)))
        simp [penByte_setPenByte_other apart, updPen]
      · simp [hj, updPen]

/-- A byte written below the pens. -/
theorem storeByte_putCell {c : Host.Cell} (hp : (penAt s c.1).bind (fun e => penByte e.2.1 e.2.2) = none) (a : Nat) :
    storeByte { s with matrix := { s.matrix with cells := putCell s.matrix.cells c } } a = if c.1 = a then c.2 else storeByte s a := by
  have pens : penAt { s with matrix := { s.matrix with cells := putCell s.matrix.cells c } } a = penAt s a := rfl
  unfold storeByte
  rw [pens]
  split
  next h =>
    subst h
    rw [hp]
    exact cellAt_putCell c _
  next h =>
    have cell : cellAt (putCell s.matrix.cells c) a = cellAt s.matrix.cells a := cellAt_putCell_other (Ne.symm h) _
    rw [← cell]

/-- A byte written to T4 or T5. -/
theorem tableByte_insertCell (s : State) (c : Host.Cell) (a : Nat) :
    tableByte { s with matrix := { s.matrix with tables := insertCell c s.matrix.tables } } a =
      if c.1 = a then c.2 else tableByte s a := by
  by_cases h : c.1 = a
  · subst h
    simp [tableByte, cellAt_insertCell]
  · have cell : cellAt (insertCell c s.matrix.tables) a = cellAt s.matrix.tables a := cellAt_insertCell_other (Ne.symm h) _
    simp [tableByte, cell, h, live]

theorem readByte_of_store {a : Nat} (h : targetOf a < 4) (s : State) : readByte s a = storeByte s a := if_pos h

theorem readByte_of_table {a : Nat} (h : ¬targetOf a < 4) (s : State) : readByte s a = tableByte s a := if_neg h

/-- A change of one byte of the frame store, seen at every address. -/
theorem readByte_of_storeByte {x : Nat} {b : Byte} (hx : targetOf x < 4) (hs : ∀ a, storeByte t a = if x = a then b else storeByte s a)
    (ht : ∀ a, tableByte t a = tableByte s a) (a : Nat) : readByte t a = if x = a then b else readByte s a := by
  by_cases ha : targetOf a < 4
  · rw [readByte_of_store ha, readByte_of_store ha, hs]
  · rw [readByte_of_table ha, readByte_of_table ha, ht, if_neg fun h : x = a => ha (h ▸ hx)]

/-- A change of one byte of T4 or T5, seen at every address. -/
theorem readByte_of_tableByte {x : Nat} {b : Byte} (hx : ¬targetOf x < 4) (hs : ∀ a, storeByte t a = storeByte s a)
    (ht : ∀ a, tableByte t a = if x = a then b else tableByte s a) (a : Nat) : readByte t a = if x = a then b else readByte s a := by
  by_cases ha : targetOf a < 4
  · rw [readByte_of_store ha, readByte_of_store ha, hs, if_neg fun h : x = a => hx (h ▸ ha)]
  · rw [readByte_of_table ha, readByte_of_table ha, ht]

/-- 09 R219: what every address of T0 to T5 reads after a byte is written. -/
theorem readByte_after_writeByte (hs : (s.pens.list.map (·.1)).Nodup) (c : Host.Cell) {a : Nat} (ha : targetOf a < 6) :
    readByte (writeByte s c) a = if c.1 = a then c.2 else readByte s a := by
  unfold writeByte
  split
  next hc =>
    split
    next i q off hp =>
      split
      next hb => exact readByte_of_storeByte hc (storeByte_updPen hs hp hb c.2) (fun _ => rfl) a
      next hb => exact readByte_of_storeByte hc (storeByte_putCell (by simpa [hp] using hb)) (fun _ => rfl) a
    next hp => exact readByte_of_storeByte hc (storeByte_putCell (by simp [hp])) (fun _ => rfl) a
  next hc =>
    split
    next => exact readByte_of_tableByte hc (by exact fun _ => rfl) (tableByte_insertCell s c) a
    next ht => rw [if_neg fun h : c.1 = a => ht (h ▸ ha)]

/-- A byte written renames no pen. -/
theorem writeByte_numbers (s : State) (c : Host.Cell) : (writeByte s c).pens.list.map (·.1) = s.pens.list.map (·.1) := by
  have renamed : ∀ i f, (updPen s i f).pens.list.map (·.1) = s.pens.list.map (·.1) := by
    intro i f
    unfold updPen
    rw [List.map_map]
    refine List.map_congr_left fun e _ => ?_
    dsimp only [Function.comp_apply]
    split <;> rfl
  unfold writeByte
  split
  · split
    · split
      · exact renamed _ _
      · rfl
    · rfl
  · split
    · rfl
    · rfl

/-- Nor do bytes written in order. -/
theorem writes_numbers (cells : List Host.Cell) (s : State) : (cells.foldl writeByte s).pens.list.map (·.1) = s.pens.list.map (·.1) :=
  List.foldlRecOn (motive := fun t : State => t.pens.list.map (·.1) = s.pens.list.map (·.1)) cells _ rfl fun t ht c _ =>
    (writeByte_numbers t c).trans ht

/-- The byte that a list of writes leaves at an address that held b: the latest write of the address wins. -/
def latestByte (cells : List Host.Cell) (a : Nat) (b : Byte) : Byte := ((cells.reverse.find? fun c => c.1 == a).map (·.2)).getD b

/-- A write before others: they win. -/
theorem latestByte_cons (c : Host.Cell) (cells : List Host.Cell) (a : Nat) (b : Byte) :
    latestByte (c :: cells) a b = latestByte cells a (if c.1 = a then c.2 else b) := by
  unfold latestByte
  rw [List.reverse_cons, List.find?_append]
  cases cells.reverse.find? fun c => c.1 == a with
  | some d => rfl
  | none => by_cases h : c.1 = a <;> simp [h]

/-- 09 R219, R224: what every address of T0 to T5 reads after bytes are written in order. -/
theorem readByte_after_writes (cells : List Host.Cell) {a : Nat} (ha : targetOf a < 6) :
    ∀ {s : State}, (s.pens.list.map (·.1)).Nodup → readByte (cells.foldl writeByte s) a = latestByte cells a (readByte s a) := by
  induction cells with
  | nil => exact fun _ => rfl
  | cons c cells ih =>
    intro s hs
    rw [List.foldl_cons, ih (by rwa [writeByte_numbers]), readByte_after_writeByte hs c ha, latestByte_cons]

/-- Of the matrix a byte written changes the memory alone. -/
theorem writeByte_matrix (s : State) (c : Host.Cell) :
    ∃ store tables, (writeByte s c).matrix = { s.matrix with cells := store, tables := tables } := by
  unfold writeByte
  split
  · split
    · split
      · exact ⟨_, _, rfl⟩
      · exact ⟨_, _, rfl⟩
    · exact ⟨_, _, rfl⟩
  · split
    · exact ⟨_, _, rfl⟩
    · exact ⟨_, _, rfl⟩

/-- As do bytes written in order. -/
theorem writes_matrix (cells : List Host.Cell) (s : State) :
    ∃ store tables, (cells.foldl writeByte s).matrix = { s.matrix with cells := store, tables := tables } :=
  List.foldlRecOn (motive := fun t : State => ∃ store tables, t.matrix = { s.matrix with cells := store, tables := tables }) cells _
    ⟨_, _, rfl⟩ fun t ⟨_, _, ht⟩ c _ => by
      obtain ⟨store, tables, written⟩ := writeByte_matrix t c
      exact ⟨store, tables, by rw [written, ht]⟩

end Sys2Proof.Proofs
end

section
/-! SUPPORT. The matrix between its bursts (09 R215 to R228): arbiters, responses, bursts that end and locked sequences; O5 and O41. -/

namespace Sys2Proof.Proofs

open Sys2Proof Machine Laws

variable {s t : State}

/-! The blocks and the memory's form (09 R208, R213). -/

/-- Settles O5: every step has an effect, and every effect keeps the blocks and the memory's form. -/
theorem everyStepKeepsTheBlocksDistinct : Obligations.EveryStepKeepsTheBlocksDistinct := by
  have effect : ∀ s t : State, step s = .next t → ∃ l, Eff l { s with pending := s.pending.tail } t := by
    intro s t ht
    obtain ⟨u, l, hu, heff⟩ := step_eff s
    obtain rfl : u = t := Host.Outcome.next.inj (hu.symm.trans ht)
    exact ⟨l, heff⟩
  refine ⟨fun s t hs ht => ?_, fun s t hs ht => ?_⟩
  · obtain ⟨l, heff⟩ := effect s t ht
    exact heff.blocks hs
  · obtain ⟨l, heff⟩ := effect s t ht
    exact heff.wf hs

/-! Arbiters (09 R221). -/

/-- An entry of a table that a change of another leaves alone. -/
theorem getD_modAt_other {α : Type} {l : List α} {i k : Nat} (h : k ≠ i) (f : α → α) (d : α) :
    (modAt l i f).getD k d = l.getD k d := by
  unfold modAt
  split
  · rw [List.getD_eq_getElem?_getD, List.getElem?_set_ne h.symm, List.getD_eq_getElem?_getD]
  · rfl

theorem length_modAt {α : Type} (l : List α) (i : Nat) (f : α → α) : (modAt l i f).length = l.length := by
  unfold modAt
  split <;> simp

theorem arbiterAt_updArbiter {k : Nat} (h : k < s.matrix.arbiters.length) (f : Arbiter → Arbiter) :
    arbiterAt (updArbiter k f s) k = f (arbiterAt s k) := getD_modAt h f _

theorem arbiterAt_updArbiter_other {k m : Nat} (h : m ≠ k) (f : Arbiter → Arbiter) (s : State) :
    arbiterAt (updArbiter k f s) m = arbiterAt s m := getD_modAt_other h f _

/-- A target without an arbiter reads as a free one. -/
theorem arbiterAt_beyond {k : Nat} (h : ¬k < s.matrix.arbiters.length) : arbiterAt s k = {} := by
  rw [arbiterAt, List.getD_eq_default _ _ (Nat.le_of_not_lt h)]

/-- What a change of an arbiter leaves alone is the same at every target. -/
theorem arbiterAt_updArbiter_same {α : Type} (g : Arbiter → α) {f : Arbiter → Arbiter} (hf : ∀ a, g (f a) = g a) (k m : Nat) (s : State) :
    g (arbiterAt (updArbiter k f s) m) = g (arbiterAt s m) := by
  by_cases h : m = k
  · subst h
    by_cases hm : m < s.matrix.arbiters.length
    · rw [arbiterAt_updArbiter hm, hf]
    · rw [arbiterAt_beyond hm, arbiterAt_beyond (by rwa [updArbiter, length_modAt])]
  · rw [arbiterAt_updArbiter_other h]

/-- Only a target with an arbiter holds a lock. -/
theorem lt_of_lockAt {k : Nat} {l : LockState} (h : lockAt s k = some l) : k < s.matrix.arbiters.length := by
  by_contra hk
  rw [lockAt, arbiterAt_beyond hk] at h
  cases h

/-- 09 R223: a lock that ends is held no more. -/
theorem lockAt_endLock (k : Nat) (s : State) : lockAt (endLock k s) k = none := by
  unfold lockAt endLock
  by_cases h : k < s.matrix.arbiters.length
  · rw [arbiterAt_updArbiter h]
  · rw [arbiterAt_beyond (by rwa [updArbiter, length_modAt])]

/-! Responses (09 R219). -/

theorem answers_answer {m : Nat} (h : m < s.matrix.answers.length) (a : Response) :
    (answer m a s).matrix.answers.getD m none = some a := by
  simp [answer, setAt, h]

/-! The end of a burst (09 R219). -/

/-- An arbiter whose path is free. -/
def freed (a : Arbiter) : Arbiter := { a with burst := none }

/-- The matrix with the path of a target free. -/
def pathFreed (k : Nat) (s : State) : State := updArbiter k freed s

theorem freed_free {a : Arbiter} (h : a.burst = none) : freed a = a := by
  rw [freed, ← h]

theorem pathFreed_free {k : Nat} (h : (arbiterAt s k).burst = none) : pathFreed k s = s := by
  have same : modAt s.matrix.arbiters k freed = s.matrix.arbiters := by
    unfold modAt
    split
    next v hv =>
      have free : v.burst = none := by rwa [arbiterAt, List.getD_eq_getElem?_getD, hv] at h
      obtain ⟨hk, rfl⟩ := List.getElem?_eq_some_iff.mp hv
      rw [freed_free free, List.set_getElem_self]
    next => rfl
  rw [pathFreed, updArbiter, same]

/-- The bytes that a burst writes as it ends: a write that no lock holds back and no abort has dropped. -/
def bytesAtEnd (b : Burst) : List Host.Cell := if b.request.write && !b.request.lock && !b.dropped then writeBytes b.request else []

theorem completeBurst_free {k : Nat} (h : (arbiterAt s k).burst = none) : completeBurst k s = s := by
  unfold completeBurst
  rw [h]

theorem completeBurst_burst {k : Nat} {b : Burst} (h : (arbiterAt s k).burst = some b) : completeBurst k s =
    if b.dropped then (bytesAtEnd b).foldl writeByte (pathFreed k s)
    else answer b.request.master { id := b.request.id, error := false, data := b.data }
      ((bytesAtEnd b).foldl writeByte (pathFreed k s)) := by
  unfold completeBurst bytesAtEnd
  rw [h]
  dsimp only
  cases b.request.write && !b.request.lock && !b.dropped <;> rfl

/-- The end of a burst frees the path; of the rest of the matrix only the memory and the responses may change. -/
theorem completeBurst_matrix (k : Nat) (s : State) :
    ∃ cells tables answers, (completeBurst k s).matrix =
      { (pathFreed k s).matrix with cells := cells, tables := tables, answers := answers } ∧
        answers.length = s.matrix.answers.length := by
  cases h : (arbiterAt s k).burst with
  | none => exact ⟨_, _, _, by rw [completeBurst_free h, pathFreed_free h], rfl⟩
  | some b =>
    obtain ⟨cells, tables, hm⟩ := writes_matrix (bytesAtEnd b) (pathFreed k s)
    rw [completeBurst_burst h]
    split
    · exact ⟨cells, tables, _, hm, rfl⟩
    · refine ⟨cells, tables, setAt s.matrix.answers b.request.master (some { id := b.request.id, error := false, data := b.data }), ?_,
        List.length_set⟩
      rw [answer, hm]
      rfl

theorem arbiterAt_completeBurst (k m : Nat) (s : State) : arbiterAt (completeBurst k s) m = arbiterAt (pathFreed k s) m := by
  obtain ⟨cells, tables, answers, hm, -⟩ := completeBurst_matrix k s
  rw [arbiterAt, hm, arbiterAt]

/-- 09 R223: the end of a burst ends no lock. -/
theorem lockAt_completeBurst (k m : Nat) (s : State) : lockAt (completeBurst k s) m = lockAt s m := by
  rw [lockAt, arbiterAt_completeBurst]
  exact arbiterAt_updArbiter_same Arbiter.lock (f := freed) (fun _ => rfl) k m s

theorem length_answers_completeBurst (k : Nat) (s : State) :
    (completeBurst k s).matrix.answers.length = s.matrix.answers.length := by
  obtain ⟨cells, tables, answers, hm, hl⟩ := completeBurst_matrix k s
  rw [hm, ← hl]

/-- The end of a burst renames no pen. -/
theorem completeBurst_numbers (k : Nat) (s : State) : (completeBurst k s).pens.list.map (·.1) = s.pens.list.map (·.1) := by
  cases h : (arbiterAt s k).burst with
  | none => rw [completeBurst_free h]
  | some b =>
    rw [completeBurst_burst h]
    exact ite_pred (P := fun t : State => t.pens.list.map (·.1) = s.pens.list.map (·.1)) (writes_numbers _ _) (writes_numbers _ _)

/-- 09 R219: what every address of T0 to T5 reads when a burst is over. -/
theorem readByte_completeBurst {k : Nat} {b : Burst} (h : (arbiterAt s k).burst = some b) (hs : (s.pens.list.map (·.1)).Nodup) {a : Nat}
    (ha : targetOf a < 6) : readByte (completeBurst k s) a = latestByte (bytesAtEnd b) a (readByte s a) := by
  have written := readByte_after_writes (bytesAtEnd b) ha (s := pathFreed k s) hs
  rw [completeBurst_burst h]
  exact ite_pred (P := fun t => readByte t a = latestByte (bytesAtEnd b) a (readByte s a)) written written

/-- 09 R224: with no write under way that no lock holds back, every address reads as before. -/
theorem readByte_completeBurst_locked {k : Nat}
    (h : ∀ b, (arbiterAt s k).burst = some b → b.request.write = true → b.request.lock = true)
    (hs : (s.pens.list.map (·.1)).Nodup) {a : Nat} (ha : targetOf a < 6) : readByte (completeBurst k s) a = readByte s a := by
  cases hb : (arbiterAt s k).burst with
  | none => rw [completeBurst_free hb]
  | some b =>
    have held : bytesAtEnd b = [] := by
      unfold bytesAtEnd
      cases hw : b.request.write with
      | false => rfl
      | true => rw [h b hb hw]; rfl
    rw [readByte_completeBurst hb hs ha, held]
    rfl

/-! Decisions (09 R221). -/

/-- What a decision starts from: the burst that held the path is over and the levels are sampled. -/
def decisionState (target : Nat) (levels : MatrixLevels) (s : State) : State := sampleLevels levels (completeBurst target s)

theorem exec_arbiterDecision {target : Nat} (hs : sysRuns s = true) (ht : target < 8) (hf : target ≠ 6 ∨ s.mem.ackLow = false)
    (levels : MatrixLevels) (reqs : List MatrixReq) :
    exec (.arbiterDecision target levels reqs) s = .next
      (decideFor target (eligible (decisionState target levels s) target (outstanding (decisionState target levels s) reqs))
        (decisionState target levels s)) :=
  guarded_of (by rcases hf with hf | hf <;> simp [hs, ht, hf]) _ _

/-- A decision without a request changes no more. -/
theorem decideFor_nil (target : Nat) (s : State) : decideFor target [] s = s := by
  have granted : grantFor target [] s = none := by
    unfold grantFor
    split <;> rfl
  unfold decideFor
  simp only [List.find?_nil, granted]

/-- 09 R219: a burst that is over has been answered, and its write is in the memory. -/
theorem arbiterDecision_answers {target : Nat} {b : Burst} (levels : MatrixLevels) (hs : sysRuns s = true) (ht : target < 6)
    (hl : s.matrix.arbiters.length = 8) (hn : s.matrix.answers.length = 8) (hm : b.request.master < 8) (hd : b.dropped = false)
    (hb : (arbiterAt s target).burst = some b) :
    ∃ t, exec (.arbiterDecision target levels []) s = .next t ∧ (arbiterAt t target).burst = none ∧
      t.matrix.answers.getD b.request.master none = some { id := b.request.id, error := false, data := b.data } ∧
      ((s.pens.list.map (·.1)).Nodup → ∀ a, targetOf a < 6 → readByte t a =
        if b.request.write && !b.request.lock then latestByte (writeBytes b.request) a (readByte s a) else readByte s a) := by
  refine ⟨decisionState target levels s, ?_, ?_, ?_, fun hp a ha => ?_⟩
  · rw [exec_arbiterDecision hs (by omega) (.inl (by omega))]
    exact congrArg _ (decideFor_nil _ _)
  · show (arbiterAt (completeBurst target s) target).burst = none
    rw [arbiterAt_completeBurst, pathFreed, arbiterAt_updArbiter (by omega)]
    rfl
  · show (completeBurst target s).matrix.answers.getD b.request.master none = _
    obtain ⟨cells, tables, hw⟩ := writes_matrix (bytesAtEnd b) (pathFreed target s)
    rw [completeBurst_burst hb, hd]
    refine answers_answer ?_ _
    rw [hw]
    exact hn ▸ hm
  · show readByte (completeBurst target s) a = _
    rw [readByte_completeBurst hb hp ha, bytesAtEnd, hd, Bool.not_false, Bool.and_true]
    split <;> rfl

/-! Locked sequences (09 R223 to R225). -/

/-- 09 R224: an unlock ends the lock, and the whole journal is in the memory. -/
theorem lockUnlock_writes {target : Nat} {l : LockState} (hs : sysRuns s = true) (hl : lockAt s target = some l) :
    ∃ t, exec (.lockUnlock target) s = .next t ∧ lockAt t target = none ∧
      ((s.pens.list.map (·.1)).Nodup →
        (∀ b, (arbiterAt s target).burst = some b → b.request.write = true → b.request.lock = true) →
          ∀ a, targetOf a < 6 → readByte t a = latestByte l.journal a (readByte s a)) := by
  refine ⟨l.journal.foldl writeByte (endLock target (completeBurst target s)), ?_, ?_, fun hp hb a ha => ?_⟩
  · show execLockUnlock target s = _
    rw [execLockUnlock, hl]
    exact guarded_of hs _ _
  · obtain ⟨cells, tables, hw⟩ := writes_matrix l.journal (endLock target (completeBurst target s))
    rw [lockAt, arbiterAt, hw]
    exact lockAt_endLock target _
  · rw [readByte_after_writes l.journal ha (by exact (completeBurst_numbers target s).symm ▸ hp)]
    exact congrArg _ (readByte_completeBurst_locked hb hp ha)

theorem lockBreach_matrix (target : Nat) (l : LockState) (s : State) :
    (lockBreach target l s).matrix = (answerError l.master l.id (endLock target s)).matrix := report_matrix _ _ _ _

/-- 09 R223: a breach ends the lock. -/
theorem lockAt_lockBreach (target : Nat) (l : LockState) (s : State) : lockAt (lockBreach target l s) target = none := by
  rw [lockAt, arbiterAt, lockBreach_matrix]
  exact lockAt_endLock target s

/-- 09 R223: a breach leaves the memory with the contents it found, gives the holder an error response and is reported. -/
theorem lockBreach_discards (target : Nat) (l : LockState) (s : State) :
    (lockBreach target l s).matrix.cells = s.matrix.cells ∧ (lockBreach target l s).matrix.tables = s.matrix.tables ∧
      (lockBreach target l s).pens = s.pens ∧ Reported evLockError (16 * l.master + target) (lockBreach target l s) ∧
      (l.master < s.matrix.answers.length →
        (lockBreach target l s).matrix.answers.getD l.master none = some { id := l.id, error := true, data := [] }) := by
  rw [lockBreach_matrix]
  exact ⟨rfl, rfl, report_pens _ _ _ _, report_reported _ _ _ _, fun h => answers_answer (s := endLock target s) h _⟩

theorem exec_lockError {target : Nat} {l : LockState} (hs : sysRuns s = true) (hl : lockAt s target = some l) (b : LockBreach) (m : Nat)
    (k : Lane) : exec (.lockError target b m k) s = .next (lockBreach target l s) := by
  show execLockError target b m k s = _
  rw [execLockError, hl]
  exact guarded_of hs _ _

/-- 09 R223: a lock request to T6 or T7 starts no lock. -/
theorem exec_lockError_badTarget {target m : Nat} (hs : sysRuns s = true) (hl : lockAt s target = none) (ht : target = 6 ∨ target = 7)
    (hm : m = 6 ∨ m = 7) (k : Lane) : exec (.lockError target .badTarget m k) s = .next
      (lockBreach target { master := m, lane := k, id := 0, beats := 0, journal := [] } s) := by
  show execLockError target .badTarget m k s = _
  rw [execLockError, hl]
  exact guarded_of (by rcases ht with rfl | rfl <;> rcases hm with rfl | rfl <;> simp [hs]) _ _

/-- Settles O41: the end of a burst, the two ends of a lock, and a lock that may not start. -/
theorem lockedWritesArriveWhole : Obligations.LockedWritesArriveWhole := by
  refine ⟨fun target levels b s hs ht hl hn hm hd hb => ?_, fun target l s hs hl hn hm hk => ⟨?_, fun b m k => ?_⟩,
    fun target m k s hs hl hn ht hm => ?_⟩
  · obtain ⟨t, hexec, free, answered, bytes⟩ := arbiterDecision_answers levels hs ht hl hn hm hd hb
    exact ⟨t, hexec, free, answered, fun hp => bytes hp.2⟩
  · obtain ⟨t, hexec, unlocked, bytes⟩ := lockUnlock_writes hs hk
    exact ⟨t, hexec, unlocked, fun hp => bytes hp.2⟩
  · obtain ⟨cells, tables, pens, reported, answered⟩ := lockBreach_discards target l s
    exact ⟨_, exec_lockError hs hk b m k, lockAt_lockBreach _ _ _, cells, tables, pens, reported, answered (hn ▸ hm)⟩
  · obtain ⟨cells, -, -, reported, answered⟩ :=
      lockBreach_discards target { master := m, lane := k, id := 0, beats := 0, journal := [] } s
    exact ⟨_, exec_lockError_badTarget hs hl ht hm k, cells, lockAt_lockBreach _ _ _,
      ⟨_, answered (show m < s.matrix.answers.length by omega), rfl⟩, reported⟩

end Sys2Proof.Proofs
end

section
/-! SUPPORT. The decisions of the matrix (09 R216 to R224, 13 R321): the request that is granted, what a grant does to the path, what T7
answers, and what a breach of a locked sequence ends; O40. -/

namespace Sys2Proof.Proofs

open Sys2Proof Machine Laws

variable {s t u : State}

/-! The turn of the masters (09 R221). -/

/-- What a search through the first numbers finds is found at the least of them that has it. -/
theorem findSome?_range_eq_some {α : Type} {f : Nat → Option α} {b : α} {n : Nat} (h : (List.range n).findSome? f = some b) :
    ∃ d < n, f d = some b ∧ ∀ e < d, f e = none := by
  induction n with
  | zero => cases h
  | succ n ih =>
    rw [List.range_succ, List.findSome?_append, Option.or_eq_some_iff] at h
    rcases h with h | ⟨hn, hb⟩
    · obtain ⟨d, hd, found⟩ := ih h
      exact ⟨d, by omega, found⟩
    · exact ⟨n, by omega, by simpa using hb, fun e he => List.findSome?_eq_none_iff.mp hn e (List.mem_range.mpr he)⟩

/-- The request found is the first in the order of its masters after the pointer. -/
theorem firstAfter_spec {ptr : Nat} {cand : List MatrixReq} {r : MatrixReq} (h : firstAfter ptr cand = some r) :
    r ∈ cand ∧ ∃ d < 8, r.master = (ptr + 1 + d) % 8 ∧ ∀ q ∈ cand, ∀ e < d, q.master ≠ (ptr + 1 + e) % 8 := by
  rw [firstAfter, List.findSome?_map] at h
  obtain ⟨d, hd, found, before⟩ := findSome?_range_eq_some h
  have turn : cand.find? (fun q => q.master == (ptr + 1 + d) % 8) = some r := found
  refine ⟨List.mem_of_find?_eq_some turn, d, hd, by simpa using List.find?_some turn, fun q hq e he hm => ?_⟩
  exact List.find?_eq_none.mp (before e he) q hq (beq_iff_eq.mpr hm)

/-- Every master has its turn. -/
theorem firstAfter_isSome (ptr : Nat) {cand : List MatrixReq} {q : MatrixReq} (hq : q ∈ cand) (hm : q.master < 8) :
    (firstAfter ptr cand).isSome = true := by
  have turn : (ptr + 1 + (q.master + 7 - ptr % 8) % 8) % 8 = q.master := by omega
  rw [firstAfter, List.findSome?_map, List.findSome?_isSome_iff]
  refine ⟨(q.master + 7 - ptr % 8) % 8, List.mem_range.mpr (Nat.mod_lt _ (by decide)), ?_⟩
  exact List.find?_isSome.mpr ⟨q, hq, beq_iff_eq.mpr turn.symm⟩

/-- The largest of some numbers is one of them. -/
theorem foldl_max_spec {l : List Nat} (h : l ≠ []) : l.foldl max 0 ∈ l ∧ ∀ b ∈ l, b ≤ l.foldl max 0 := by
  rw [List.foldl_max, Nat.zero_max]
  obtain ⟨m, hm⟩ := Option.isSome_iff_exists.mp (List.isSome_max?_of_ne_nil h)
  rw [hm]
  exact List.max?_eq_some_iff.mp hm

/-- Among the requests of the highest urgency, the first in round-robin order after the pointer, d places behind it. -/
structure TakesTurn (urgency : MatrixReq → Nat) (ptr : Nat) (reqs : List MatrixReq) (r : MatrixReq) (d : Nat) : Prop where
  waits : r ∈ reqs
  place : d < 8
  urgent : ∀ q ∈ reqs, urgency q ≤ urgency r
  turn : r.master = (ptr + 1 + d) % 8
  first : ∀ q ∈ reqs, ∀ e < d, q.master = (ptr + 1 + e) % 8 → urgency q < urgency r

/-- 09 R221: a decision with a request finds one whose turn it is. -/
theorem decide9_takesTurn (st : Store) (r0 r1 : Bool) (l : MatrixLevels) (ptr : Nat) {reqs : List MatrixReq} (hne : reqs ≠ [])
    (hm : ∀ q ∈ reqs, q.master < 8) :
    ∃ r d, decide9 st r0 r1 l ptr reqs = some r ∧ TakesTurn (urgencyOf st r0 r1 l) ptr reqs r d := by
  obtain ⟨attained, bound⟩ := foldl_max_spec (l := reqs.map (urgencyOf st r0 r1 l)) (by simpa using hne)
  obtain ⟨q, hq, top⟩ := List.mem_map.mp attained
  have most : ∀ p ∈ reqs, urgencyOf st r0 r1 l p ≤ (reqs.map (urgencyOf st r0 r1 l)).foldl max 0 := fun p hp =>
    bound _ (List.mem_map_of_mem hp)
  have found := firstAfter_isSome ptr
    (cand := reqs.filter fun r => urgencyOf st r0 r1 l r == (reqs.map (urgencyOf st r0 r1 l)).foldl max 0)
    (List.mem_filter.mpr ⟨hq, beq_iff_eq.mpr top⟩) (hm q hq)
  obtain ⟨r, hr⟩ := Option.isSome_iff_exists.mp found
  obtain ⟨hmem, d, hd, hturn, hfirst⟩ := firstAfter_spec hr
  obtain ⟨hin, heq⟩ := List.mem_filter.mp hmem
  have urgency : urgencyOf st r0 r1 l r = _ := eq_of_beq heq
  refine ⟨r, d, hr, hin, hd, fun p hp => urgency ▸ most p hp, hturn, fun p hp e he hpe => ?_⟩
  refine lt_of_le_of_ne (urgency ▸ most p hp) fun equal => hfirst p (List.mem_filter.mpr ⟨hp, ?_⟩) e he hpe
  exact beq_iff_eq.mpr (equal.trans urgency)

/-! What a decision does (09 R221 to R223). -/

/-- A decision without a breach follows the turn. -/
theorem decideFor_unbreached {target : Nat} {here : List MatrixReq} (hb : ∀ r ∈ here, breachAt target s r = none) :
    decideFor target here s = (grantFor target here s).elim s fun r => grant target r s := by
  have unbreached : (here.find? fun r => (breachAt target s r).isSome) = none := List.find?_eq_none.mpr fun r hr => by simp [hb r hr]
  unfold decideFor
  rw [unbreached]
  dsimp only
  cases grantFor target here s <;> rfl

theorem grantFor_free {target : Nat} (hl : lockAt s target = none) (here : List MatrixReq) :
    grantFor target here s =
      decide9 (live s) s.matrix.raised0 s.matrix.raised1 s.matrix.levels (arbiterAt s target).ptr here := by
  rw [grantFor, hl]

theorem grantFor_locked {target : Nat} {l : LockState} (hl : lockAt s target = some l) (here : List MatrixReq) :
    grantFor target here s = here.find? (ofLock l) := by
  rw [grantFor, hl]

/-- A breach ends its sequence, and its request gets an error response. -/
theorem decideFor_breach {target k : Nat} {here : List MatrixReq} {r : MatrixReq} (ht : target < 7)
    (hf : (here.find? fun q => (breachAt target s q).isSome) = some r) (hk : breachAt target s r = some k) :
    decideFor target here s = answerError r.master r.id (endBreach k r s) := by
  unfold decideFor
  rw [hf]
  dsimp only
  rw [hk, if_neg (by omega)]
  rfl

/-- A request that may be granted is one of those given. -/
theorem mem_of_mem_eligible {target : Nat} {reqs : List MatrixReq} {r : MatrixReq} (h : r ∈ eligible s target reqs) : r ∈ reqs := by
  obtain ⟨e, he, hr⟩ := List.mem_filterMap.mp h
  dsimp only at hr
  split at hr
  · exact Option.some.inj hr ▸ List.fst_mem_of_mem_zipIdx he
  · cases hr

theorem mem_of_mem_outstanding {reqs : List MatrixReq} {r : MatrixReq} (h : r ∈ outstanding s reqs) : r ∈ reqs := by
  obtain ⟨e, he, hr⟩ := List.mem_filterMap.mp h
  dsimp only at hr
  split at hr
  · exact Option.some.inj hr ▸ List.fst_mem_of_mem_zipIdx he
  · cases hr

/-! What a grant leaves standing behind it. -/

/-- The latest grant, the pointers and the latest decode error of the matrix. -/
def grantView (m : Matrix) : Option (Nat × Nat × Nat) × List Nat × Option (Nat × Nat × Nat) :=
  (m.granted, m.arbiters.map Arbiter.ptr, m.decodeError)

/-- An operation from s to t moves no pointer, and leaves the latest grant and the latest decode error alone. -/
def KeepsGrant (s t : State) : Prop := grantView t.matrix = grantView s.matrix

namespace KeepsGrant

theorem granted (h : KeepsGrant s t) : t.matrix.granted = s.matrix.granted := congrArg (·.1) h

theorem decodeError (h : KeepsGrant s t) : t.matrix.decodeError = s.matrix.decodeError := congrArg (·.2.2) h

theorem ptr (h : KeepsGrant s t) (k : Nat) : (arbiterAt t k).ptr = (arbiterAt s k).ptr := by
  have pointers : t.matrix.arbiters.map Arbiter.ptr = s.matrix.arbiters.map Arbiter.ptr := congrArg (·.2.1) h
  have at_k := congrArg (fun l : List Nat => l.getD k (Arbiter.ptr {})) pointers
  rwa [List.getD_map, List.getD_map] at at_k

theorem refl (s : State) : KeepsGrant s s := rfl

/-- One operation behind others. -/
theorem after (k : KeepsGrant t u) (h : KeepsGrant s t) : KeepsGrant s u := Eq.trans k h

/-- An operation that leaves the matrix alone, behind others. -/
theorem after_eff {l : List Part} (k : Eff l t u) (hl : l.contains .matrix = false) (h : KeepsGrant s t) : KeepsGrant s u :=
  .trans (congrArg grantView (k.matrix_eq hl)) h

theorem of_eff {l : List Part} (h : Eff l s t) (hl : l.contains .matrix = false) : KeepsGrant s t := after_eff h hl rfl

theorem ite {c : Prop} [Decidable c] (h : KeepsGrant s t) (k : KeepsGrant s u) : KeepsGrant s (if c then t else u) := ite_pred h k

theorem foldl {α : Type} {f : State → α → State} (hf : ∀ t x, KeepsGrant t (f t x)) (xs : List α) (s : State) :
    KeepsGrant s (xs.foldl f s) :=
  List.foldlRecOn (motive := KeepsGrant s) xs f (refl s) fun t ht x _ => (hf t x).after ht

end KeepsGrant

/-! Locks that break (09 R225). -/

theorem map_modAt_same {α β : Type} (g : α → β) {f : α → α} (hf : ∀ a, g (f a) = g a) (l : List α) (i : Nat) :
    (modAt l i f).map g = l.map g := by
  unfold modAt
  split
  next v hv =>
    obtain ⟨hi, rfl⟩ := List.getElem?_eq_some_iff.mp hv
    rw [List.map_set, hf, ← List.getElem_map g (h := by simpa using hi), List.set_getElem_self]
  next => rfl

theorem updArbiter_keepsGrant {f : Arbiter → Arbiter} (hf : ∀ a, (f a).ptr = a.ptr) (k : Nat) (s : State) :
    KeepsGrant s (updArbiter k f s) := by
  unfold KeepsGrant grantView updArbiter
  rw [map_modAt_same Arbiter.ptr hf]

theorem breakLock_keepsGrant (hit : LockState → Bool) (s : State) (k : Nat) : KeepsGrant s (breakLock hit s k) := by
  unfold breakLock
  split
  next => rfl
  next l _ =>
    refine .after_eff (coverFault_eff _ _ _) rfl (.after_eff (report_eff _ _ _ _) rfl ?_)
    exact updArbiter_keepsGrant (f := fun a => { a with lock := none, burst := a.burst.filter fun b => !holders l b }) (fun _ => rfl) k s

theorem loseLane_keepsGrant (l : Lane) (s : State) : KeepsGrant s (loseLane l s) := by
  have broken : KeepsGrant s (breakLocks (fun k => k.master == 6 && k.lane == l) s) := .foldl (breakLock_keepsGrant _) _ s
  unfold loseLane
  dsimp only
  exact .ite (.ite (.after_eff (laneTakeover_eff _) rfl broken) broken) (.after_eff (.set_engine (.refl [.engine] _) rfl) rfl broken)

/-! The reset of a lane of the control engine (13 R321, R323). -/

/-- The domain of a lane of the control engine. -/
def loopDomain (l : Lane) : Domain := if l = .a then .loopA else .loopB

theorem domainEffect_loop (l : Lane) (s : State) : domainEffect (loopDomain l) s = loseLane l s := by cases l <;> rfl

theorem loopErrs_eq (l : Lane) (s : State) :
    loopErrs l s = if domainHeld s (loopDomain l) then s else resetDomain (loopDomain l) s := by cases l <;> rfl

theorem loopReset_keepsGrant (l : Lane) (s : State) : KeepsGrant s (resetDomain (loopDomain l) s) := by
  have reset : KeepsGrant s (domainReset (loopDomain l) s) := by
    refine .after_eff (setRecovery_eff _ _ _) rfl (.after_eff (coverFault_eff _ _ _) rfl (.after_eff (setRecovery_eff _ _ _) rfl ?_))
    rw [domainEffect_loop]
    refine .after (loseLane_keepsGrant l _) (.after_eff (report_eff _ _ _ _) rfl (.after_eff (setRecovery_eff _ _ _) rfl ?_))
    exact .after_eff (updDomain_eff _ _ _) rfl (.ite rfl rfl)
  rw [resetDomain_eq]
  exact .ite (.after_eff (quarantineEffect_eff _ _) rfl reset) reset

theorem loopErrs_keepsGrant (l : Lane) (s : State) : KeepsGrant s (loopErrs l s) := by
  rw [loopErrs_eq]
  exact .ite rfl (loopReset_keepsGrant l s)

/-- 13 R321: the lane is held after its error response. -/
theorem loopErrs_held (hl : s.keeper.domains.length = 9) (l : Lane) : domainHeld (loopErrs l s) (loopDomain l) = true := by
  rw [loopErrs_eq]
  split
  next h => exact h
  next =>
    rw [domainHeld, domainOf_resetDomain hl]
    split <;> rfl

/-! T7 (09 R220). -/

/-- 09 R220: M0 to M2 get zeros, which are counted. -/
theorem defaultAnswer_zeros {r : MatrixReq} (h : r.master < 3) (s : State) : defaultAnswer r s =
    answer r.master { id := r.id, error := false, data := List.replicate r.beats 0 }
      { noteDecodeError r s with
        matrix := { (noteDecodeError r s).matrix with decodeErrors := modAt s.matrix.decodeErrors r.master satInc } } := by
  obtain h | h | h : r.master = 0 ∨ r.master = 1 ∨ r.master = 2 := by omega
  all_goals
    simp only [defaultAnswer, h]
    rfl

/-- 09 R220, 13 R321: a lane of M6 gets an error response and loses. -/
theorem defaultAnswer_loop {r : MatrixReq} (h : r.master = 6) (s : State) :
    defaultAnswer r s = loopErrs r.lane (answerError r.master r.id (noteDecodeError r s)) := by
  simp only [defaultAnswer, h]

/-- What T7 answers leaves the grant and the decode error noted. -/
theorem defaultAnswer_keepsGrant (r : MatrixReq) (s : State) : KeepsGrant (noteDecodeError r s) (defaultAnswer r s) := by
  have errs : KeepsGrant (noteDecodeError r s) (answerError r.master r.id (noteDecodeError r s)) := rfl
  unfold defaultAnswer
  dsimp only
  split
  · rfl
  · rfl
  · rfl
  · exact .after_eff (codecErrs_eff _ _) rfl errs
  · exact .after_eff (codecErrs_eff _ _) rfl errs
  · exact .after_eff (discardFrame_eff _ _) rfl errs
  · exact .after (loopErrs_keepsGrant _ _) errs
  · exact errs

/-! A read that meets an uncorrectable word (09 R220). -/

theorem zeroStored_keepsGrant (a : Nat) (s : State) : KeepsGrant s (zeroStored a s) := by
  obtain ⟨cells, tables, hm⟩ := writes_matrix ((List.range 8).map fun k => (8 * (a / 8) + k, (0 : Byte))) s
  unfold KeepsGrant zeroStored
  rw [hm]
  rfl

theorem frameStoreError_keepsGrant (a : Nat) (s : State) : KeepsGrant s (frameStoreError a s) := by
  unfold frameStoreError
  split
  · exact zeroStored_keepsGrant a s
  · split
    · rfl
    · exact .of_eff (restartFill_eff _ _) rfl
    · exact .of_eff (freeStandby_eff _ _ _) rfl
    · rfl
    · split <;> rfl

theorem tableStoreError_keepsGrant (a : Nat) (s : State) : KeepsGrant s (tableStoreError a s) := by
  unfold tableStoreError
  dsimp only
  refine .ite (.ite (.ite rfl ?_) (zeroStored_keepsGrant a s)) (.ite rfl (.of_eff (halt_eff s) rfl))
  exact .after_eff (pumpReads_eff _) rfl rfl

theorem uncorrectable_keepsGrant (a : Nat) (s : State) : KeepsGrant s (uncorrectable a s) := by
  have reported : KeepsGrant s (reportX evEccUncorrectable (regionRow s a) (targetOf a) (Option.some (a % 2 ^ 24)) s) :=
    .of_eff (reportX_eff _ _ _ _ _) rfl
  exact .ite (.after (frameStoreError_keepsGrant a _) reported) (.ite (.after (tableStoreError_keepsGrant a _) reported) rfl)

theorem meetBad_keepsGrant (r : MatrixReq) (s : State) : KeepsGrant s (meetBad r s) := by
  unfold meetBad
  split
  · rfl
  · exact .after (uncorrectable_keepsGrant _ _) (.ite rfl rfl)

/-! A grant (09 R221, R223). -/

/-- The arbiter of a target that grants a request: its pointer at the master, the lock that starts or goes on, and the burst. -/
def takenBy (target : Nat) (r : MatrixReq) (s : State) (a : Arbiter) : Arbiter :=
  { ptr := r.master, lock := if target < 6 then lockWith a.lock r else none
    burst := if target < 7 then some { request := r, data := if r.write then [] else readData target r s } else none }

/-- The matrix with the path of a target taken by a request. -/
def pathTaken (target : Nat) (r : MatrixReq) (s : State) : State :=
  { s with matrix :=
    { s.matrix with arbiters := modAt s.matrix.arbiters target (takenBy target r s), granted := some (r.master, target, r.addr) } }

theorem arbiterAt_pathTaken {target : Nat} (h : target < s.matrix.arbiters.length) (r : MatrixReq) :
    arbiterAt (pathTaken target r s) target = takenBy target r s (arbiterAt s target) := getD_modAt h _ _

theorem arbiterAt_pathTaken_other {target k : Nat} (h : k ≠ target) (r : MatrixReq) (s : State) :
    arbiterAt (pathTaken target r s) k = arbiterAt s k := getD_modAt_other h _ _

theorem grant_default (r : MatrixReq) (s : State) : grant 7 r s = defaultAnswer r (pathTaken 7 r s) := rfl

theorem grant_served {target : Nat} (h : target < 7) (r : MatrixReq) (s : State) :
    grant target r s =
      reachFlash target r (if r.write then pathTaken target r s else meetBad r (pathTaken target r s)) :=
  if_neg (by omega)

/-- What follows a grant leaves it standing. -/
theorem grant_keepsGrant {target : Nat} (h : target < 7) (r : MatrixReq) (s : State) :
    KeepsGrant (pathTaken target r s) (grant target r s) := by
  rw [grant_served h]
  exact .after_eff (reachFlash_eff _ _ _) rfl (.ite rfl (meetBad_keepsGrant _ _))

/-- 09 R221: a grant is the latest, and the pointer moves to its master. -/
theorem grant_granted {target : Nat} (ht : target < 8) (hl : s.matrix.arbiters.length = 8) (r : MatrixReq) :
    (grant target r s).matrix.granted = some (r.master, target, r.addr) ∧ (arbiterAt (grant target r s) target).ptr = r.master := by
  have pointer : (arbiterAt (pathTaken target r s) target).ptr = r.master := by
    rw [arbiterAt_pathTaken (by omega)]
    rfl
  rcases Nat.lt_or_ge target 7 with h | h
  · have kept := grant_keepsGrant h r s
    exact ⟨kept.granted, (kept.ptr target).trans pointer⟩
  · obtain rfl : target = 7 := by omega
    have kept := defaultAnswer_keepsGrant r (pathTaken 7 r s)
    exact ⟨kept.granted, (kept.ptr 7).trans pointer⟩

/-- 09 R223: at T0 to T5 a grant without an uncorrectable word takes the path, and does nothing else to the matrix. -/
theorem arbiterAt_grant {target : Nat} (ht : target < 6) {r : MatrixReq} (hb : r.bad = none) (k : Nat) :
    arbiterAt (grant target r s) k = arbiterAt (pathTaken target r s) k := by
  have whole : meetBad r (pathTaken target r s) = pathTaken target r s := by rw [meetBad, hb]
  have matrix : (grant target r s).matrix = (pathTaken target r s).matrix := by
    rw [grant_served (by omega), whole, ite_self, (reachFlash_eff _ _ _).matrix_eq rfl]
  rw [arbiterAt, matrix, arbiterAt]

theorem lockAt_grant {target : Nat} (ht : target < 6) (hl : s.matrix.arbiters.length = 8) {r : MatrixReq} (hb : r.bad = none) :
    lockAt (grant target r s) target = lockWith (lockAt s target) r := by
  rw [lockAt, arbiterAt_grant ht hb, arbiterAt_pathTaken (by omega), takenBy, if_pos ht, lockAt]

/-- 09 R224: a read takes the target's contents, with the journal of the lock over them. -/
theorem readData_contents {target : Nat} (ht : target < 6) {r : MatrixReq} (hb : r.bad = none) (s : State) :
    readData target r s = readBeats s (((lockAt s target).map (·.journal)).getD []) r := by
  rw [readData, if_neg (by omega), hb]
  exact List.zipIdx_map_fst 0 _

/-- 09 R221, R224: outside a lock the burst that holds the path carries the target's contents when it reads. -/
theorem burst_grant_free {target : Nat} (ht : target < 6) (hl : s.matrix.arbiters.length = 8) {r : MatrixReq} (hb : r.bad = none)
    (hf : lockAt s target = none) : (arbiterAt (grant target r s) target).burst =
      some { request := r, data := if r.write then [] else readBeats s [] r } := by
  rw [arbiterAt_grant ht hb, arbiterAt_pathTaken (by omega), takenBy, if_pos (by omega), readData_contents ht hb, hf]
  exact if_pos (by omega)

/-- 09 R220: the latest decode error names the master, the target addressed and the address. -/
theorem decodeError_grant (r : MatrixReq) (s : State) :
    (grant 7 r s).matrix.decodeError = some (r.master, targetOf r.addr, r.addr) :=
  (defaultAnswer_keepsGrant r (pathTaken 7 r s)).decodeError

/-- 09 R220: zeros for M0 to M2, counted. -/
theorem zeros_grant {r : MatrixReq} (h : r.master < 3) (hn : s.matrix.answers.length = 8) :
    (grant 7 r s).matrix.decodeErrors = modAt s.matrix.decodeErrors r.master satInc ∧
      (grant 7 r s).matrix.answers.getD r.master none =
        some { id := r.id, error := false, data := List.replicate r.beats 0 } := by
  rw [grant_default, defaultAnswer_zeros h]
  exact ⟨rfl, answers_answer (show r.master < s.matrix.answers.length by omega) _⟩

/-- 13 R321: the lane of the control engine whose request T7 answers is reset. -/
theorem laneHeld_grant {r : MatrixReq} (h : r.master = 6) (hd : s.keeper.domains.length = 9) :
    domainHeld (grant 7 r s) (loopDomain r.lane) = true := by
  rw [grant_default, defaultAnswer_loop h]
  exact loopErrs_held (s := answerError r.master r.id (noteDecodeError r (pathTaken 7 r s))) hd r.lane

/-! The three outcomes of a decision (09 R221, R223). -/

section
variable {target : Nat} {here : List MatrixReq} {l : LockState} (hb : ∀ r ∈ here, breachAt target s r = none)
include hb

/-- With no lock held, the request is granted whose turn it is. -/
theorem decideFor_free (hl : lockAt s target = none) (hne : here ≠ []) (hm : ∀ r ∈ here, r.master < 8) :
    ∃ r d, decideFor target here s = grant target r s ∧
      TakesTurn (urgencyOf (live s) s.matrix.raised0 s.matrix.raised1 s.matrix.levels) (arbiterAt s target).ptr here r d := by
  obtain ⟨r, d, hr, turn⟩ := decide9_takesTurn (live s) s.matrix.raised0 s.matrix.raised1 s.matrix.levels (arbiterAt s target).ptr hne hm
  refine ⟨r, d, ?_, turn⟩
  rw [decideFor_unbreached hb, grantFor_free hl, hr]
  rfl

/-- While a lock is held, nothing is granted that is not its holder's. -/
theorem decideFor_locked_waits (hl : lockAt s target = some l) (hh : ∀ r ∈ here, ofLock l r = false) : decideFor target here s = s := by
  have noHolder : here.find? (ofLock l) = none := List.find?_eq_none.mpr fun r hr => by simp [hh r hr]
  rw [decideFor_unbreached hb, grantFor_locked hl, noHolder]
  rfl

/-- The holder's next burst is granted. -/
theorem decideFor_locked_holder (hl : lockAt s target = some l) (hh : ∃ r ∈ here, ofLock l r = true) :
    ∃ r, decideFor target here s = grant target r s ∧ r ∈ here ∧ ofLock l r = true := by
  obtain ⟨r, hr⟩ := Option.isSome_iff_exists.mp (List.find?_isSome.mpr hh)
  refine ⟨r, ?_, List.mem_of_find?_eq_some hr, List.find?_some hr⟩
  rw [decideFor_unbreached hb, grantFor_locked hl, hr]
  rfl

end

/-- 09 R223: a breach ends the lock of its sequence with the contents it found, and both it and its request are answered by errors. -/
theorem endBreach_discards (k : Nat) {r : MatrixReq} (hm : r.master < s.matrix.answers.length) :
    lockAt (answerError r.master r.id (endBreach k r s)) k = none ∧
      (answerError r.master r.id (endBreach k r s)).matrix.cells = s.matrix.cells ∧
      (answerError r.master r.id (endBreach k r s)).matrix.tables = s.matrix.tables ∧
      (∃ n, Reported evLockError n (answerError r.master r.id (endBreach k r s))) ∧
      (answerError r.master r.id (endBreach k r s)).matrix.answers.getD r.master none =
        some { id := r.id, error := true, data := [] } := by
  have length : (endBreach k r s).matrix.answers.length = s.matrix.answers.length := by
    rw [endBreach, lockBreach_matrix]
    exact List.length_set
  obtain ⟨cells, tables, -, reported, -⟩ := lockBreach_discards k
    ((lockAt s k).getD { master := r.master, lane := r.lane, id := r.id, beats := 0, journal := [] }) s
  exact ⟨lockAt_lockBreach _ _ _, cells, tables, ⟨_, reported⟩, answers_answer (length ▸ hm) _⟩

/-! What a decision starts from (09 R219, R221). -/

section
variable (k : Nat) (levels : MatrixLevels) (s : State)

theorem decisionState_eff : Eff [.pens, .matrix] s (decisionState k levels s) :=
  (completeBurst_eff k s).comp (sampleLevels_eff levels _) rfl

theorem decisionState_live : live (decisionState k levels s) = live s :=
  congrArg (fun b : Binding => b.live.folios) ((decisionState_eff k levels s).binding_eq rfl)

theorem decisionState_arbiters : (decisionState k levels s).matrix.arbiters = modAt s.matrix.arbiters k freed := by
  obtain ⟨cells, tables, answers, hm, -⟩ := completeBurst_matrix k s
  show (completeBurst k s).matrix.arbiters = _
  rw [hm]
  rfl

theorem decisionState_decodeErrors : (decisionState k levels s).matrix.decodeErrors = s.matrix.decodeErrors := by
  obtain ⟨cells, tables, answers, hm, -⟩ := completeBurst_matrix k s
  show (completeBurst k s).matrix.decodeErrors = _
  rw [hm]
  rfl

theorem decisionState_lock : lockAt (decisionState k levels s) k = lockAt s k := lockAt_completeBurst k k s

theorem decisionState_ptr : (arbiterAt (decisionState k levels s) k).ptr = (arbiterAt s k).ptr := by
  show (arbiterAt (completeBurst k s) k).ptr = _
  rw [arbiterAt_completeBurst]
  exact arbiterAt_updArbiter_same Arbiter.ptr (f := freed) (fun _ => rfl) k k s

theorem decisionState_other {m : Nat} (h : m ≠ k) : arbiterAt (decisionState k levels s) m = arbiterAt s m :=
  (arbiterAt_completeBurst k m s).trans (arbiterAt_updArbiter_other h freed s)

end

/-- Settles O40: a decision without a request, without a lock, under a lock, and with a breach. -/
theorem arbiterGrantsTheUrgent : Obligations.ArbiterGrantsTheUrgent := by
  intro target levels reqs s hs ht hl hn hm u urgency here ptr
  have arbiters : u.matrix.arbiters.length = 8 := by
    rw [show u.matrix.arbiters = _ from decisionState_arbiters target levels s, length_modAt, hl]
  have answers : u.matrix.answers.length = 8 := (length_answers_completeBurst target s).trans hn
  have lock : lockAt u target = lockAt s target := decisionState_lock target levels s
  have masters : ∀ r ∈ here, r.master < 8 := fun r hr => hm r (mem_of_mem_outstanding (mem_of_mem_eligible hr))
  refine ⟨fun h6 ha => guarded_not (by simp [h6, ha]) _ _, fun hf => ?_⟩
  have hexec : exec (.arbiterDecision target levels reqs) s = .next (decideFor target here u) :=
    exec_arbiterDecision hs ht hf levels reqs
  refine ⟨fun he => ?_, fun hb => ⟨fun hfree hne => ?_, fun l hlock => ⟨fun hh => ?_, fun hh => ?_⟩⟩, fun r k hr hk h7 => ?_⟩
  · rw [hexec, he, decideFor_nil]
  · obtain ⟨r, d, granted, turn⟩ := decideFor_free hb (lock.trans hfree) hne masters
    rw [show live u = live s from decisionState_live target levels s,
      show (arbiterAt u target).ptr = ptr from decisionState_ptr target levels s] at turn
    obtain ⟨waits, place, urgent, order, first⟩ := turn
    obtain ⟨latest, pointer⟩ := grant_granted ht arbiters r
    refine ⟨grant target r u, r, d, granted ▸ hexec, waits, place, urgent, order, first, latest, pointer, fun h6 hbad => ?_, ?_, ?_, ?_⟩
    · have others : ∀ k, k ≠ target → arbiterAt (grant target r u) k = arbiterAt s k := fun k hk =>
        (arbiterAt_grant h6 hbad k).trans ((arbiterAt_pathTaken_other hk r u).trans (decisionState_other target levels s hk))
      exact ⟨by rw [lockAt_grant h6 arbiters hbad, lock, hfree], burst_grant_free h6 arbiters hbad (lock.trans hfree), others⟩
    · rintro rfl
      exact decodeError_grant r u
    · rintro rfl h3
      rw [← show u.matrix.decodeErrors = _ from decisionState_decodeErrors 7 levels s]
      exact zeros_grant h3 answers
    · rintro rfl h6 hd
      refine laneHeld_grant h6 ?_
      rwa [show u.keeper = s.keeper from (decisionState_eff 7 levels s).keeper_eq rfl]
  · rw [hexec, decideFor_locked_waits hb (lock.trans hlock) hh]
  · obtain ⟨r, granted, waits, holds⟩ := decideFor_locked_holder hb (lock.trans hlock) hh
    obtain ⟨latest, -⟩ := grant_granted ht arbiters r
    refine ⟨grant target r u, r, granted ▸ hexec, waits, holds, latest, fun h6 hbad => ?_⟩
    rw [lockAt_grant h6 arbiters hbad, lock, hlock]
  · have waits : r ∈ here := List.mem_of_find?_eq_some hr
    exact ⟨_, (decideFor_breach h7 hr hk) ▸ hexec, endBreach_discards k (answers ▸ masters r waits)⟩

end Sys2Proof.Proofs
end

section
/-! SUPPORT. A latch point: the live frame, then the selection (10 R244, R246, R251), and O43. -/

namespace Sys2Proof.Proofs

open Sys2Proof Machine Laws

variable {s : State} {p : Port} {e i : Nat} {l : List Nat}

/-! Live pens hold no leaf (09 R203). -/

/-- A change of a pen that neither gives it nor takes from it a leaf leaves the leaf's pen as it is. -/
theorem penWith_updPen {k : LeafEntry} {f : Pen → Pen} (hf : ∀ x ∈ s.pens.list, x.1 = i → holdsLeaf k (f x.2) = holdsLeaf k x.2) :
    penWith (updPen s i f) k = penWith s k := by
  have number : ∀ x : Nat × Pen, (if x.1 == i then (x.1, f x.2) else x).1 = x.1 := fun x => by split <;> rfl
  have same : s.pens.list.filter (fun x => holdsLeaf k (if x.1 == i then (x.1, f x.2) else x).2) =
      s.pens.list.filter fun x => holdsLeaf k x.2 :=
    List.filter_congr fun x hx => by
      split
      next h => exact hf x hx (beq_iff_eq.mp h)
      next => rfl
  simp only [penWith, updPen, List.filter_map, Function.comp_def, same, List.getLast?_map, Option.map_map, number]

/-- The numbers are those of live pens. -/
def NumbersLive (l : List Nat) (s : State) : Prop := ∀ x ∈ s.pens.list, x.1 ∈ l → x.2.kind = .live

theorem numbersLive_retirePen (h : NumbersLive l s) (i : Nat) : NumbersLive l (retirePen i s) := by
  intro x hx
  obtain ⟨y, hy, rfl⟩ := List.mem_map.mp hx
  split
  · exact h y hy
  · exact h y hy

theorem penWith_retirePen (h : NumbersLive l s) (hi : i ∈ l) (k : LeafEntry) : penWith (retirePen i s) k = penWith s k :=
  penWith_updPen fun x hx hn => by simp [holdsLeaf, leafPen, h x hx (hn ▸ hi)]

/-- The retirement of live pens takes no leaf away. -/
theorem penWith_retirePens (h : NumbersLive l s) (k : LeafEntry) : penWith (retirePens l s) k = penWith s k :=
  (List.foldlRecOn (motive := fun t => NumbersLive l t ∧ penWith t k = penWith s k) l _ ⟨h, rfl⟩ fun _ ht _ hi =>
    ⟨numbersLive_retirePen ht.1 _, (penWith_retirePen ht.1 hi k).trans ht.2⟩).2

/-! The live frame's part (R251). -/

/-- The live frames published for a port and not yet shown, the newest last. -/
def liveStandby (s : State) (p : Port) : List Nat :=
  (s.pens.list.filter fun e => e.2.kind == .live && e.2.port == p && e.2.state == .standby).map (·.1)

theorem numbersLive_liveStandby (hs : (s.pens.list.map (·.1)).Nodup) (p : Port) : NumbersLive (liveStandby s p) s := by
  intro x hx hn
  obtain ⟨y, hy, number⟩ := List.mem_map.mp hn
  obtain ⟨hy, live⟩ := List.mem_filter.mp hy
  obtain rfl : y = x := List.inj_on_of_nodup_map hs hy hx number
  simp only [Bool.and_eq_true, beq_iff_eq] at live
  exact live.1.1

theorem penWith_latchLive (hs : (s.pens.list.map (·.1)).Nodup) (p : Port) (k : LeafEntry) : penWith (latchLive p s) k = penWith s k := by
  have passedOver : NumbersLive (liveStandby s p).dropLast s := fun x hx hn =>
    numbersLive_liveStandby hs p x hx (List.mem_of_mem_dropLast hn)
  exact (penWith_of_pens (updPort_pens _ _ _) k).trans (penWith_retirePens passedOver k)

theorem liveTaken_latchLive (p : Port) (s : State) : (portOf (latchLive p s) p).liveTaken = (liveStandby s p).getLast? := by
  unfold latchLive
  rw [portOf_updPort]
  rfl

/-- The live frame's part changes nothing else in either port. -/
theorem portOf_latchLive_keeps {β : Type} (g : PortState → β) (hg : ∀ q a b, g { q with liveTaken := a, liveEmpty := b } = g q)
    (p r : Port) (s : State) : g (portOf (latchLive p s) r) = g (portOf s r) := by
  refine (portOf_updPort_keeps g (by exact fun _ => hg _ _ _) _ _ _).trans ?_
  rw [portOf_of_eff (retirePens_eff _ _) rfl rfl]

theorem takeable_latchLive (p : Port) (s : State) : takeable (latchLive p s) = takeable s := by
  simp only [takeable, (latchLive_eff p s).gather_eq rfl, (latchLive_eff p s).select_eq rfl]

theorem binding_latchLive (p : Port) (s : State) : (latchLive p s).binding = s.binding := (latchLive_eff p s).binding_eq rfl

theorem leavesHeld_latchLive (hs : (s.pens.list.map (·.1)).Nodup) (p : Port) (c : Settings) (l : List Nat) :
    leavesHeld (latchLive p s) c l = leavesHeld s c l := by
  simp only [leavesHeld, penWith_latchLive hs]

theorem livePenFor_latchLive (hs : (s.pens.list.map (·.1)).Nodup) (p : Port) (o : Option Nat) :
    livePenFor (latchLive p s) o = livePenFor s o := by
  simp only [livePenFor, penWith_latchLive hs, binding_latchLive]

/-! The selection's part (R244, R246). -/

/-- A selection that a latch point may take, and that the port does not show, is the port's choice. -/
theorem latchChoice_takeable (he : takeable s = some e) (hn : (portOf s p).shown ≠ some e) : latchChoice s p = some e := by
  unfold latchChoice
  split
  next shown =>
    rw [shown] at hn
    simpa [he] using fun h => hn (congrArg some h.symm)
  next => simp [he]

theorem mayTake_iff : mayTake s p e = true ↔ p = .a ∨ s.portA.raster = false ∨ s.portA.shown = some e := by
  simp [mayTake, or_assoc]

theorem latchSelection_takes (hc : latchChoice s p = some e) (hl : leavesHeld s s.binding.live (portLeaves s.binding.live e p) = true)
    (hm : mayTake s p e = true) : latchSelection p s = takeEntry p e s := by
  simp [latchSelection, hc, hl, hm]

/-- An entry without its leaves, or before its turn, leaves what the port took as it is; its leaves may be asked for. -/
theorem latchSelection_waits (hc : latchChoice s p = some e)
    (h : leavesHeld s s.binding.live (portLeaves s.binding.live e p) = false ∨ mayTake s p e = false) :
    Eff [.codec, .pens] s (latchSelection p s) := by
  simp only [latchSelection, hc]
  split
  next held =>
    rw [if_neg (by simpa [held] using h)]
    exact Eff.refl _ s
  · exact Eff.ite (fun _ => askLeaves_eff _ _ _) fun _ => Eff.refl _ s

/-- The selection's part takes an entry, or leaves the selection and the ports alone. -/
theorem latchSelection_cases (p : Port) (s : State) :
    (∃ e, latchSelection p s = takeEntry p e s) ∨ Eff [.codec, .pens] s (latchSelection p s) := by
  cases hc : latchChoice s p with
  | some e =>
    by_cases h : leavesHeld s s.binding.live (portLeaves s.binding.live e p) = true ∧ mayTake s p e = true
    · exact .inl ⟨e, latchSelection_takes hc h.1 h.2⟩
    · exact .inr (latchSelection_waits hc (by simpa [or_iff_not_imp_left] using h))
  | none =>
    simp only [latchSelection, hc]
    split
    next e _ =>
      split
      · exact .inl ⟨e, rfl⟩
      · exact .inr (Eff.refl _ s)
    next => exact .inr (Eff.refl _ s)

theorem portOf_takeEntry (p : Port) (e : Nat) (s : State) : portOf (takeEntry p e s) p =
    { portOf s p with
      taken := some e, guideTaken := livePenFor s (guideLeaf s.binding.live e p)
      signalTaken := livePenFor s (signalLeaf s.binding.live e p) } := by
  cases p <;> rfl

theorem select_takeEntry (p : Port) (e : Nat) (s : State) : (takeEntry p e s).select = { s.select with current := some e } := by
  cases p <;> rfl

/-- What the selection's part does not look at in its port stays as it is: what is shown among it, until the boundary. -/
theorem portOf_latchSelection_keeps {β : Type} (g : PortState → β)
    (hg : ∀ q a b c, g { q with taken := a, guideTaken := b, signalTaken := c } = g q) (p : Port) (s : State) :
    g (portOf (latchSelection p s) p) = g (portOf s p) := by
  rcases latchSelection_cases p s with ⟨e, taken⟩ | waits
  · rw [taken, portOf_takeEntry, hg]
  · rw [portOf_of_eff waits rfl rfl]

theorem pending_latchSelection (p : Port) (s : State) : (latchSelection p s).select.pending = s.select.pending := by
  rcases latchSelection_cases p s with ⟨e, taken⟩ | waits
  · rw [taken, select_takeEntry]
  · rw [waits.select_eq rfl]

/-! The steps of a latch point in their order. -/

/-- What a latch point has decided about frames and entries. -/
def latchChosen (p : Port) (s : State) : State := latchSelection p (latchLive p s)

theorem latchSteps_behind (p : Port) (s : State) : Eff [.gather, .emit] (latchChosen p s) (latchStitch p (latchTakeover p (latchChosen p s))) :=
  ((latchTakeover_eff p _).mono rfl).comp (latchStitch_eff p _) rfl

theorem latchSteps_eq (p : Port) (s : State) :
    latchSteps p s = updPort (latchStitch p (latchTakeover p (latchChosen p s))) p fun q => { q with pastLatch := true } := rfl

theorem portOf_latchSteps (p : Port) (s : State) :
    portOf (latchSteps p s) p = { portOf (latchChosen p s) p with pastLatch := true } := by
  rw [latchSteps_eq, portOf_updPort, portOf_of_eff (latchSteps_behind p s) rfl rfl]

theorem select_latchSteps (p : Port) (s : State) : (latchSteps p s).select = (latchChosen p s).select := by
  rw [latchSteps_eq, updPort_select, (latchSteps_behind p s).select_eq rfl]

theorem portOf_latchChosen_keeps {β : Type} (g : PortState → β)
    (hg : ∀ q a b c, g { q with taken := a, guideTaken := b, signalTaken := c } = g q)
    (hl : ∀ q a b, g { q with liveTaken := a, liveEmpty := b } = g q) (p : Port) (s : State) :
    g (portOf (latchChosen p s) p) = g (portOf s p) :=
  (portOf_latchSelection_keeps g hg p _).trans (portOf_latchLive_keeps g hl p p s)

section
variable (hs : (s.pens.list.map (·.1)).Nodup) (he : takeable s = some e) (hn : (portOf s p).shown ≠ some e)

include he hn in
/-- The choice behind the live frame's part is the choice before it. -/
theorem latchChoice_latchLive : latchChoice (latchLive p s) p = some e :=
  latchChoice_takeable ((takeable_latchLive p s).trans he)
    (portOf_latchLive_keeps PortState.shown (fun _ _ _ => rfl) p p s ▸ hn)

theorem mayTake_latchLive : mayTake (latchLive p s) p e = mayTake s p e := by
  have raster := portOf_latchLive_keeps PortState.raster (fun _ _ _ => rfl) p .a s
  have shown := portOf_latchLive_keeps PortState.shown (fun _ _ _ => rfl) p .a s
  simp only [portOf] at raster shown
  simp only [mayTake, raster, shown]

include hs he hn

theorem latchChosen_takes (hl : leavesHeld s s.binding.live (portLeaves s.binding.live e p) = true) (hm : mayTake s p e = true) :
    latchChosen p s = takeEntry p e (latchLive p s) :=
  latchSelection_takes (latchChoice_latchLive he hn) (by rw [leavesHeld_latchLive hs, binding_latchLive, hl])
    (mayTake_latchLive.trans hm)

theorem latchChosen_waits (h : leavesHeld s s.binding.live (portLeaves s.binding.live e p) = false ∨ mayTake s p e = false) :
    Eff [.codec, .pens] (latchLive p s) (latchChosen p s) :=
  latchSelection_waits (latchChoice_latchLive he hn) (by rwa [leavesHeld_latchLive hs, binding_latchLive, mayTake_latchLive])

end

/-- Settles O43: the live frame taken first, then the entry that the port takes or waits for. That the newest of two waiting frames is
taken is also log 70. -/
theorem latchPointTakesThePending : Obligations.LatchPointTakesThePending := by
  intro p s hr hp hs
  have port := portOf_latchSteps p s
  have select := select_latchSteps p s
  refine ⟨latchSteps p s, guarded_of (by simp [hr, hp]) _ _, ?_, ?_, ?_, ?_, ?_, fun e he hn hl hm => ?_, fun e he hn h => ?_⟩
  · rw [port]
  · rw [port]
    exact portOf_latchChosen_keeps PortState.shown (fun _ _ _ _ => rfl) (fun _ _ _ => rfl) p s
  · rw [port]
    exact portOf_latchChosen_keeps PortState.guideShown (fun _ _ _ _ => rfl) (fun _ _ _ => rfl) p s
  · rw [select, latchChosen, pending_latchSelection, (latchLive_eff p s).select_eq rfl]
  · rw [port]
    exact (portOf_latchSelection_keeps PortState.liveTaken (fun _ _ _ _ => rfl) p _).trans (liveTaken_latchLive p s)
  · rw [port, select, latchChosen_takes hs he hn hl (mayTake_iff.mpr hm), portOf_takeEntry, select_takeEntry]
    simp only [livePenFor_latchLive hs, binding_latchLive, and_self]
  · have waits := latchChosen_waits hs he hn (h.imp id fun ⟨hb, hra, hsh⟩ => by simp [mayTake, hb, hra, hsh])
    rw [port, select, portOf_of_eff waits rfl rfl, waits.select_eq rfl, (latchLive_eff p s).select_eq rfl]
    exact ⟨portOf_latchLive_keeps PortState.taken (fun _ _ _ => rfl) p p s, rfl⟩

end Sys2Proof.Proofs
end

section
/-! SUPPORT. The canvas port: its periods, its live pens, and the ends of a frame and of the canvas lane's job (10 R247 to R253), and
O48. -/

namespace Sys2Proof.Proofs

open Sys2Proof Machine Laws

variable {s t : State} {e : CvsPeriod} {r : CanvasRx} {ps : List CvsPeriod} {pens : List Nat} {i k seq : Nat} {img : Image}

/-! Pens by number. -/

theorem penOf_updPen_other (h : k ≠ i) (s : State) (f : Pen → Pen) : penOf (updPen s i f) k = penOf s k := by
  unfold penOf updPen
  dsimp only
  induction s.pens.list with
  | nil => rfl
  | cons x l ih =>
    by_cases hx : x.1 = k
    · simp [hx, h]
    · by_cases hi : x.1 = i <;> simpa [hx, hi, Ne.symm h] using ih

/-- A change that is the same when it is made again reaches every pen of the list, and no other. -/
theorem penOf_updPens {f : Pen → Pen} (hf : ∀ q, f (f q) = f q) (pens : List Nat) (s : State) (i : Nat) :
    penOf (pens.foldl (fun u k => updPen u k f) s) i = if i ∈ pens then (penOf s i).map f else penOf s i := by
  induction pens generalizing s with
  | nil => rfl
  | cons k pens ih =>
    rw [List.foldl_cons, ih]
    by_cases hk : i = k
    · subst hk
      simp [penOf_updPen, Function.comp_def, hf]
    · simp [hk, penOf_updPen_other hk]

theorem penOf_addPen_other (h : i ≠ s.pens.next) (q : Pen) : penOf (addPen q s).2 i = penOf s i := by
  simp [penOf, addPen, List.find?_append, Ne.symm h]

/-- The next number is beyond every pen's. -/
def NumbersBelow (s : State) : Prop := ∀ x ∈ s.pens.list, x.1 < s.pens.next

theorem penOf_next_none (h : NumbersBelow s) : penOf s s.pens.next = none := by
  simpa [penOf] using fun a q hx => (h (a, q) hx).ne

/-- A pen that is FREE stays FREE when another is freed. -/
theorem penOf_freePen_none (h : penOf s k = none) (i : Nat) : penOf (freePen i s) k = none := by
  cases hi : penOf s i with
  | none => rwa [show freePen i s = s by simp [freePen, hi]]
  | some q =>
    rw [penOf, freePen_list hi]
    simp only [penOf, Option.map_eq_none_iff, List.find?_eq_none] at h ⊢
    exact fun x hx => h x (List.mem_of_mem_filter hx)

theorem penOf_freePen (i : Nat) (s : State) : penOf (freePen i s) i = none := by
  cases hi : penOf s i with
  | none => exact penOf_freePen_none hi i
  | some q =>
    rw [penOf, freePen_list hi]
    exact penOf_removePen i s

/-- The pens of a frame are freed. -/
def pensFreed (pens : List Nat) (s : State) : State := pens.foldl (fun u i => freePen i u) s

theorem pensFreed_eff (pens : List Nat) (s : State) : Eff [.pens] s (pensFreed pens s) :=
  Eff.foldl (fun _ _ => freePen_eff _ _) _ (Eff.refl _ s)

theorem penOf_pensFreed_none (h : penOf s k = none) (pens : List Nat) : penOf (pensFreed pens s) k = none :=
  List.foldlRecOn (motive := fun t => penOf t k = none) pens _ h fun _ ht i _ => penOf_freePen_none ht i

theorem penOf_pensFreed (hi : i ∈ pens) (s : State) : penOf (pensFreed pens s) i = none := by
  induction pens generalizing s with
  | nil => exact absurd hi List.not_mem_nil
  | cons k pens ih =>
    rcases List.mem_cons.mp hi with rfl | hi
    · exact penOf_pensFreed_none (penOf_freePen i s) pens
    · exact ih hi _

/-! The live pens of a frame (R251). -/

/-- The state with another reserve. -/
def withReserve (b : List Nat) (s : State) : State := { s with pens := { s.pens with reserve := b } }

theorem penOf_addPen_withReserve_other (h : i ≠ s.pens.next) (b : List Nat) (q : Pen) :
    penOf (addPen q (withReserve b s)).2 i = penOf s i :=
  penOf_addPen_other (s := withReserve b s) h q

theorem penOf_addPen_withReserve (h : penOf s s.pens.next = none) (b : List Nat) (q : Pen) :
    penOf (addPen q (withReserve b s)).2 s.pens.next = some q :=
  penOf_addPen (s := withReserve b s) h q

theorem numbersBelow_addPen (h : NumbersBelow s) (b : List Nat) (q : Pen) : NumbersBelow (addPen q (withReserve b s)).2 := by
  intro x hx
  rcases List.mem_append.mp hx with old | new
  · exact (h x old).trans (Nat.lt_succ_self _)
  · rw [List.mem_singleton.mp new]
    exact Nat.lt_succ_self _

section
variable (st : PenState) (img : Image) (seq : Nat) (p : Port)

/-- A live pen of a port, with its blocks from the reserve. -/
def newLivePen (s : State) : Pen :=
  { kind := .live, state := st, blocks := s.pens.reserve.take (livePenSize (live s)), image := img, port := p, seq }

theorem addLivePen_eq (s : State) : addLivePen st img seq p s =
    (addPen (newLivePen st img seq p s) (withReserve (s.pens.reserve.drop (livePenSize (live s))) s)).2 := by
  unfold addLivePen
  rfl

theorem penOf_addLivePen_other (h : i ≠ s.pens.next) : penOf (addLivePen st img seq p s) i = penOf s i := by
  rw [addLivePen_eq, penOf_addPen_withReserve_other h]

theorem penOf_addLivePen (h : penOf s s.pens.next = none) :
    penOf (addLivePen st img seq p s) s.pens.next = some (newLivePen st img seq p s) := by
  rw [addLivePen_eq, penOf_addPen_withReserve h]

theorem numbersBelow_addLivePen (h : NumbersBelow s) : NumbersBelow (addLivePen st img seq p s) := by
  rw [addLivePen_eq]
  exact numbersBelow_addPen h _ _

end

/-- A pen with the next number for a port, beside those that the frame has. -/
def fillPen (seq : Nat) (f : List Nat × State) (p : Port) : List Nat × State :=
  (f.1 ++ [f.2.pens.next], addLivePen .filling {} seq p f.2)

theorem fillPens_eq (ports : List Port) (seq : Nat) (s : State) : fillPens ports seq s = ports.foldl (fillPen seq) ([], s) := rfl

/-- The pens of a frame are live, being filled, and carry its `SEQ`; the next number is beyond every pen's. -/
structure Filling (seq : Nat) (f : List Nat × State) : Prop where
  below : NumbersBelow f.2
  fills : ∀ i ∈ f.1, ∃ q, penOf f.2 i = some q ∧ q.kind = .live ∧ q.state = .filling ∧ q.seq = seq

theorem filling_fillPen {f : List Nat × State} (h : Filling seq f) (p : Port) : Filling seq (fillPen seq f p) := by
  have free := penOf_next_none h.below
  refine ⟨numbersBelow_addLivePen _ _ _ _ h.below, fun i hi => ?_⟩
  rcases List.mem_append.mp hi with old | new
  · obtain ⟨q, hq, pen⟩ := h.fills i old
    have other : i ≠ f.2.pens.next := by
      rintro rfl
      cases free.symm.trans hq
    exact ⟨q, (penOf_addLivePen_other _ _ _ _ other).trans hq, pen⟩
  · rw [List.mem_singleton.mp new]
    exact ⟨_, penOf_addLivePen _ _ _ _ free, rfl, rfl, rfl⟩

theorem filling_fillPens (h : NumbersBelow s) (ports : List Port) (seq : Nat) :
    Filling seq (fillPens ports seq s) :=
  List.foldlRecOn (motive := Filling seq) ports _ ⟨h, fun _ hi => absurd hi List.not_mem_nil⟩ fun _ hf p _ => filling_fillPen hf p

/-- One pen for each port that the frame addresses. -/
theorem length_fillPens (ports : List Port) (seq : Nat) (s : State) : (fillPens ports seq s).1.length = ports.length := by
  have each : ∀ (ports : List Port) (f : List Nat × State), (ports.foldl (fillPen seq) f).1.length = f.1.length + ports.length := by
    intro ports
    induction ports with
    | nil => exact fun _ => rfl
    | cons p ports ih =>
      intro f
      rw [List.foldl_cons, ih, fillPen, List.length_append, List.length_cons, List.length_cons, List.length_nil]
      omega
  rw [fillPens_eq, each, List.length_nil, Nat.zero_add]

/-! A frame's header (R249, R251, R254). -/

/-- What a header must meet for its frame to be received, in the order of Table 10-5. -/
structure HeaderPasses (s : State) (h : List Byte) : Prop where
  accepted : (fnat (live s) canvasAccept).testBit (cvsKind h % 2) = true
  sound : cvsHeaderOk h = true
  addressed : cvsTargets s h ≠ []
  shaped : cvsCoded h = true ∨ rawShapeOk (cvsShape (live s)) h = true
  room : cvsRoom s h = true

/-- A header that passes takes a live pen of every port that it names. -/
theorem cvsHeader_passes (he : r.enabled = true) (ha : r.aborted = false) (hp : HeaderPasses s (r.bytes.take 16)) :
    cvsHeader r s =
      let f := fillPens (cvsTargets s (r.bytes.take 16)) (cvsSeq (r.bytes.take 16)) s
      ({ r with shape := cvsShape (live s), busy := false, reason := 0, pens := f.1 }, f.2) := by
  have shaped : (cvsCoded (r.bytes.take 16) || rawShapeOk (cvsShape (live s)) (r.bytes.take 16)) = true := by simpa using hp.shaped
  have addressed : (cvsTargets s (r.bytes.take 16)).isEmpty = false := by simpa using hp.addressed
  simp [cvsHeader, firstFail, hp.accepted, hp.sound, addressed, shaped, hp.room, he, ha]

/-! The periods of `CVS_CLK` (R247). -/

/-- The level of `CVS_FS` on the rising edge is noted. -/
def fsNoted (low : Bool) (s : State) : State := { s with canvas := { s.canvas with fsLow := low } }

/-- A frame with what has been received of it. -/
def frameKept (r : CanvasRx) (s : State) : State := { s with canvas := { s.canvas with frame := some r } }

theorem cvsPeriod_starts (hf : s.canvas.frame = none) (hl : s.canvas.fsLow = true) (he : e.fs = true) :
    cvsPeriod s e = fsNoted false (cvsStart e s) := by
  simp [cvsPeriod, hf, hl, he, fsNoted]

theorem cvsPeriod_receives (hf : s.canvas.frame = some r) (he : e.fs = true) : cvsPeriod s e = fsNoted false (cvsByte e r s) := by
  simp [cvsPeriod, hf, he, fsNoted]

theorem cvsPeriod_ends (hf : s.canvas.frame = some r) (he : e.fs = false) : cvsPeriod s e = fsNoted true (cvsEnd r s) := by
  simp [cvsPeriod, hf, he, fsNoted]

theorem cvsByte_full (h : e.full = true) : cvsByte e r s = frameKept { r with overflow := true } s := by
  simp [cvsByte, h, frameKept]

theorem cvsByte_queued (h : e.full = false) (hl : r.bytes.length ≠ 15) :
    cvsByte e r s = frameKept { r with bytes := r.bytes ++ [periodByte e] } s := by
  simp [cvsByte, h, hl, frameKept]

/-- The first byte of a frame notes what its start decides (R253, R254). -/
theorem cvsStart_queued (h : e.full = false) (s : State) :
    cvsStart e s = frameKept
      { bytes := [periodByte e], enabled := s.core.folios && fbit (live s) canvasEnable, aborted := s.pins.abortLow } s :=
  cvsByte_queued h (show ([] : List Byte).length ≠ 15 by decide)

theorem cvsByte_header (h : e.full = false) (hl : r.bytes.length = 15) :
    cvsByte e r s =
      let v := cvsHeader { r with bytes := r.bytes ++ [periodByte e] } s
      frameKept v.1 v.2 := by
  simp [cvsByte, h, hl, frameKept]

/-! Periods given to the receiver. -/

theorem cvsReceive_nil (s : State) : cvsReceive [] s = s := ite_self s

theorem cvsReceive_running (hk : domainHeld s .cvs = false) (ps : List CvsPeriod) : cvsReceive ps s = ps.foldl cvsPeriod s := by
  simp [cvsReceive, hk]

theorem exec_canvasFrame (hs : sysRuns s = true) (hk : domainHeld s .cvs = false) (ps : List CvsPeriod) :
    exec (.canvasFrame ps) s = .next (ps.foldl cvsPeriod s) :=
  (guarded_of hs _ _).trans (congrArg _ (cvsReceive_running hk ps))

theorem exec_canvasFrame_nil (s : State) : exec (.canvasFrame []) s = .next s :=
  (congrArg (guarded (sysRuns s) s) (cvsReceive_nil s)).trans (congrArg _ (ite_self s))

/-- The periods of a frame may come one after another. -/
theorem exec_canvasFrame_cons (hs : sysRuns s = true) (hk : domainHeld s .cvs = false) (he : exec (.canvasFrame [e]) s = .next t)
    (ht : sysRuns t = true) (hkt : domainHeld t .cvs = false) : exec (.canvasFrame (e :: ps)) s = exec (.canvasFrame ps) t := by
  rw [exec_canvasFrame hs hk] at he
  rw [exec_canvasFrame hs hk, exec_canvasFrame ht hkt, ← Host.Outcome.next.inj he]
  rfl

/-! A frame that is discarded (R253). -/

/-- The frame under way is over. -/
def frameOver (s : State) : State := { s with canvas := { s.canvas with frame := none } }

/-- A frame is discarded with a reason: its pens are FREE, and it is counted and reported with its `SEQ`. -/
def FrameDiscarded (pens : List Nat) (seq k : Nat) (s t : State) : Prop :=
  t.canvas = { s.canvas with
    frame := none, fsLow := t.canvas.fsLow, discards := satInc s.canvas.discards, lastReason := k } ∧
    (∀ i ∈ pens, penOf t i = none) ∧ Reported evCanvasDiscard seq t

/-- The count and the reason of a discard. -/
def discardCounted (k : Nat) (s : State) : State :=
  { s with canvas := { s.canvas with discards := satInc s.canvas.discards, lastReason := k } }

theorem cvsDiscard_eq (k : Nat) (pens : List Nat) (seq : Nat) (s : State) :
    cvsDiscard k pens seq s = report evCanvasDiscard k seq (discardCounted k (pensFreed pens s)) := rfl

theorem canvas_cvsDiscard (k : Nat) (pens : List Nat) (seq : Nat) (s : State) :
    (cvsDiscard k pens seq s).canvas = { s.canvas with discards := satInc s.canvas.discards, lastReason := k } := by
  rw [cvsDiscard_eq, report_canvas, discardCounted, (pensFreed_eff pens s).canvas_eq rfl]

theorem penOf_cvsDiscard (hi : i ∈ pens) (k seq : Nat) (s : State) : penOf (cvsDiscard k pens seq s) i = none := by
  rw [cvsDiscard_eq, penOf_of_eff (report_eff _ _ _ _) rfl]
  exact penOf_pensFreed hi s

/-- What was reported before a discard stays reported. -/
theorem reported_before_cvsDiscard {c n : Nat} (h : Reported c n s) (k : Nat) (pens : List Nat) (seq : Nat) :
    Reported c n (cvsDiscard k pens seq s) := by
  have kept : Reported c n (discardCounted k (pensFreed pens s)) := reported_of_eq (reported_of_eff h (pensFreed_eff pens s) rfl) rfl
  exact reported_report kept _ _ _

theorem frameDiscarded_cvsDiscard (pens : List Nat) (seq k : Nat) (s : State) :
    FrameDiscarded pens seq k s (cvsDiscard k pens seq (frameOver s)) := by
  refine ⟨?_, fun i hi => penOf_cvsDiscard hi _ _ _, report_reported _ _ _ _⟩
  rw [canvas_cvsDiscard]
  rfl

theorem frameDiscarded_fsNoted (h : FrameDiscarded pens seq k s t) (low : Bool) : FrameDiscarded pens seq k s (fsNoted low t) := by
  obtain ⟨canvas, freed, reported⟩ := h
  refine ⟨?_, freed, reported⟩
  rw [fsNoted, canvas]

/-! A frame that is published (R251). -/

/-- A live pen with its frame. -/
def withImage (img : Image) (q : Pen) : Pen := { q with state := .standby, image := img }

/-- A frame is published in its pens. -/
def FramePublished (pens : List Nat) (img : Image) (s t : State) : Prop := ∀ i ∈ pens, penOf t i = (penOf s i).map (withImage img)

/-- Behind the pens, a publication ends the stale periods of its ports, and counts a late frame. -/
theorem publishLive_behind (pens : List Nat) (img : Image) (s : State) :
    Eff [.canvas, .portA, .portB] (pens.foldl (fun u i => updPen u i (withImage img)) s) (publishLive pens img s) := by
  have unstale : ∀ (ports : List Port) (u : State),
      Eff [.canvas, .portA, .portB] u (ports.foldl (fun v p => updPort v p fun q => { q with liveStale := false, liveEmpty := false }) u) :=
    fun ports u => Eff.foldl (fun _ _ => (updPort_eff _ _ _ (by exact fun _ => id)).mono rfl) ports (Eff.refl _ u)
  unfold publishLive
  exact Eff.ite (fun _ => Eff.set_canvas (unstale _ _) rfl) fun _ => unstale _ _

theorem framePublished_publishLive (pens : List Nat) (img : Image) (s : State) : FramePublished pens img s (publishLive pens img s) := by
  intro i hi
  rw [penOf_of_eff (publishLive_behind pens img s) rfl, penOf_updPens (by exact fun _ => rfl), if_pos hi]

/-- A publication changes nothing of the receiver but its count of late frames. -/
theorem canvas_publishLive (pens : List Nat) (img : Image) (s : State) :
    ∃ n, (publishLive pens img s).canvas = { s.canvas with late := n } := by
  have pensOnly : (pens.foldl (fun u i => updPen u i fun q => { q with state := .standby, image := img }) s).canvas = s.canvas :=
    foldl_keeps State.canvas (by exact fun _ _ => rfl) _ _
  have portsOnly : ∀ (ports : List Port) (u : State),
      (ports.foldl (fun v p => updPort v p fun q => { q with liveStale := false, liveEmpty := false }) u).canvas = u.canvas :=
    foldl_keeps State.canvas (by exact fun _ _ => updPort_canvas _ _ _)
  unfold publishLive
  dsimp only
  split
  · exact ⟨_, by rw [portsOnly, pensOnly]⟩
  · exact ⟨s.canvas.late, by rw [portsOnly, pensOnly]⟩

/-! The ends of a frame (R249 to R253). -/

/-- A frame that a check of Table 10-5 before its payload's has failed. -/
theorem cvsEnd_fails (h : cvsReason r ≠ 0) (s : State) :
    cvsEnd r s = cvsDiscard (cvsReason r) r.pens (cvsSeq (r.bytes.take 16)) (frameOver s) := by
  simp [cvsEnd, h, frameOver]

/-- The canvas lane has a job. -/
def laneGiven (j : CanvasJob) (s : State) : State :=
  { s with
    canvas := { s.canvas with job := some j }
    codec := { s.codec with rdCanvas := fnat (live s) codecRdBurst, wrCanvas := fnat (live s) codecWrBurst } }

theorem cvsEnd_coded (h : cvsReason r = 0) (hc : cvsCoded (r.bytes.take 16) = true) (s : State) :
    cvsEnd r s = laneGiven
      { payload := r.bytes.drop 16, seq := cvsSeq (r.bytes.take 16), pens := r.pens, shape := r.shape, swapSeen := r.swapSeen }
      (frameOver s) := by
  simp only [cvsEnd, h, hc]
  rfl

/-- A raw payload without the `CRC` at its end. -/
def rawData (r : CanvasRx) : List Byte := (r.bytes.drop 16).take ((r.bytes.drop 16).length - 4)

/-- The `CRC` at the end of a raw payload. -/
def rawCrc (r : CanvasRx) : Nat := rd (r.bytes.drop 16) ((r.bytes.drop 16).length - 4) 4

/-- A raw frame that passes the checks before its payload's. -/
theorem cvsEnd_raw (h : cvsReason r = 0) (hc : cvsCoded (r.bytes.take 16) = false) (s : State) :
    cvsEnd r s =
      if crc32c (rawData r) != rawCrc r then cvsDiscard 0x8A r.pens (cvsSeq (r.bytes.take 16)) (frameOver s)
      else if r.swapSeen then cvsDiscard 0x8C r.pens (cvsSeq (r.bytes.take 16)) (frameOver s)
      else publishLive r.pens (rawImage r.shape (rawData r)) (frameOver s) := by
  simp only [cvsEnd, h, hc]
  rfl

/-- A frame that has not ended in time is short, unless a check has failed before (R253). -/
theorem cvsStall_discards (hf : s.canvas.frame = some r) :
    cvsStall s =
      cvsDiscard (if cvsReason r = 0 ∨ cvsReason r = 0x87 then 0x89 else cvsReason r) r.pens (cvsSeq (r.bytes.take 16))
        (frameOver s) := by
  simp [cvsStall, hf, frameOver]

/-! The canvas lane (08 R200). -/

section
variable {j : CanvasJob} (hs : sysRuns s = true) (hj : s.canvas.job = some j)

/-- The canvas lane is idle. -/
def laneFree (s : State) : State := { s with canvas := { s.canvas with job := none } }

/-- A canvas job without a leaf has ended. -/
def laneEnded (s : State) : State := { laneFree s with codec := { s.codec with lastEnd := some (none, 65535, 0) } }

include hj in
theorem discardCanvas_running (k : Nat) : discardCanvas k s = cvsDiscard k j.pens j.seq (laneEnded s) := by
  simp [discardCanvas, hj, laneEnded, laneFree]

include hj in
theorem discardCanvas_discards (k : Nat) : (discardCanvas k s).canvas.job = none ∧ (discardCanvas k s).canvas.lastReason = k ∧
    ∀ i ∈ j.pens, penOf (discardCanvas k s) i = none := by
  rw [discardCanvas_running hj, canvas_cvsDiscard]
  exact ⟨rfl, rfl, fun i hi => penOf_cvsDiscard hi _ _ _⟩

/-- The report of a canvas frame's codec error. -/
def canvasFailed (x : CodecError) (s : State) : State :=
  reportX evCodecError x.1 65535 (some x.2) { s with codec := { s.codec with lastError := x.1 } }

theorem canvasFailed_eff (x : CodecError) (s : State) : Eff [.codec, .beacon] s (canvasFailed x s) :=
  (Eff.set_codec (Eff.refl _ s) rfl).comp (reportX_eff _ _ _ _ _) rfl

include hs hj

theorem exec_canvasJobEnd_error {x : CodecError} (hd : decodeLeaf (canvasLimits j.shape) j.payload = .error x) :
    exec .canvasJobEnd s = .next (endedJob none 65535 x.1 (discardCanvas 0x8B (canvasFailed x s))) := by
  simp only [exec, execCanvasJobEnd, hj, hd]
  exact guarded_of hs _ _

theorem exec_canvasJobEnd_ok (hd : decodeLeaf (canvasLimits j.shape) j.payload = .ok img) :
    exec .canvasJobEnd s = .next (if j.swapSeen then discardCanvas 0x8C s else publishLive j.pens img (laneFree s)) := by
  simp only [exec, execCanvasJobEnd, hj, hd]
  exact guarded_of hs _ _

/-- A codec error frees the pens, is named, and is reported with a subject that is no leaf. -/
theorem canvasJobEnd_error {x : CodecError} (hd : decodeLeaf (canvasLimits j.shape) j.payload = .error x) :
    ∃ t, exec .canvasJobEnd s = .next t ∧ t.canvas.job = none ∧ t.canvas.lastReason = 0x8B ∧ t.codec.lastError = x.1 ∧
      (∀ i ∈ j.pens, penOf t i = none) ∧ Reported evCodecError 65535 t := by
  have running : (canvasFailed x s).canvas.job = some j := ((canvasFailed_eff x s).canvas_eq rfl ▸ hj :)
  obtain ⟨idle, reason, freed⟩ := discardCanvas_discards running 0x8B
  refine ⟨_, exec_canvasJobEnd_error hs hj hd, idle, reason, ?_, freed, ?_⟩
  · show (discardCanvas 0x8B (canvasFailed x s)).codec.lastError = x.1
    rw [discardCanvas_running running, (cvsDiscard_eff _ _ _ _).codec_eq rfl]
    show (canvasFailed x s).codec.lastError = x.1
    rw [canvasFailed, reportX_codec]
  · show Reported evCodecError 65535 (discardCanvas 0x8B (canvasFailed x s))
    rw [discardCanvas_running running]
    have ended : Eff [.codec, .canvas] (canvasFailed x s) (laneEnded (canvasFailed x s)) :=
      Eff.set_codec (Eff.set_canvas (Eff.refl _ _) rfl) rfl
    exact reported_before_cvsDiscard (reported_of_eff (reportX_reported _ _ _ _ _) ended rfl) _ _ _

end

/-! What a period does to a frame. -/

section
variable (hs : sysRuns s = true) (hk : domainHeld s .cvs = false)
include hs hk

theorem exec_canvasFrame_one (e : CvsPeriod) : exec (.canvasFrame [e]) s = .next (cvsPeriod s e) := exec_canvasFrame hs hk [e]

/-- 10 R247: a header that passes takes a live pen of every port that it names. -/
theorem canvasFrame_header (he : e.fs = true) (hf : s.canvas.frame = some r) (hq : e.full = false) (hl : r.bytes.length = 15)
    (hen : r.enabled = true) (hab : r.aborted = false) (hb : NumbersBelow s) (hp : HeaderPasses s (r.bytes ++ [periodByte e])) :
    ∃ t k, exec (.canvasFrame [e]) s = .next t ∧ t.canvas.frame = some k ∧ k.bytes = r.bytes ++ [periodByte e] ∧ k.reason = 0 ∧
      k.pens.length = (cvsTargets s (r.bytes ++ [periodByte e])).length ∧
      ∀ i ∈ k.pens, ∃ q, penOf t i = some q ∧ q.kind = .live ∧ q.state = .filling ∧ q.seq = cvsSeq (r.bytes ++ [periodByte e]) := by
  have whole : (r.bytes ++ [periodByte e]).take 16 = r.bytes ++ [periodByte e] := List.take_of_length_le (by simp [hl])
  have taken := exec_canvasFrame_one hs hk e
  rw [cvsPeriod_receives hf he, cvsByte_header hq hl,
    cvsHeader_passes (r := { r with bytes := r.bytes ++ [periodByte e] }) hen hab (whole.symm ▸ hp), whole] at taken
  have count := length_fillPens (cvsTargets s (r.bytes ++ [periodByte e])) (cvsSeq (r.bytes ++ [periodByte e])) s
  have filling := filling_fillPens hb (cvsTargets s (r.bytes ++ [periodByte e])) (cvsSeq (r.bytes ++ [periodByte e]))
  generalize fillPens _ _ s = f at taken count filling
  exact ⟨_, _, taken, rfl, rfl, rfl, count, filling.fills⟩

variable (he : e.fs = false) (hf : s.canvas.frame = some r)
include he hf

theorem exec_canvasFrame_end : exec (.canvasFrame [e]) s = .next (fsNoted true (cvsEnd r s)) := by
  rw [exec_canvasFrame_one hs hk, cvsPeriod_ends hf he]

/-- The end of a frame that is discarded. -/
theorem canvasFrame_discards (h : cvsEnd r s = cvsDiscard k r.pens seq (frameOver s)) :
    ∃ t, exec (.canvasFrame [e]) s = .next t ∧ FrameDiscarded r.pens seq k s t :=
  ⟨_, h ▸ exec_canvasFrame_end hs hk he hf, frameDiscarded_fsNoted (frameDiscarded_cvsDiscard _ _ _ _) _⟩

/-- The end of a frame that is published. -/
theorem canvasFrame_publishes (h : cvsEnd r s = publishLive r.pens img (frameOver s)) :
    ∃ t, exec (.canvasFrame [e]) s = .next t ∧ t.canvas.frame = none ∧ t.canvas.discards = s.canvas.discards ∧
      FramePublished r.pens img s t := by
  obtain ⟨late, canvas⟩ := canvas_publishLive r.pens img (frameOver s)
  have ends := exec_canvasFrame_end hs hk he hf
  rw [h] at ends
  exact ⟨_, ends, (congrArg Canvas.frame canvas :), (congrArg Canvas.discards canvas :),
    framePublished_publishLive r.pens img (frameOver s)⟩

end

/-- Settles O48: the periods of a frame, its header, its ends, and those of the canvas lane. That a canvas frame's codec error has no leaf
as its subject is the model's choice (log 72). -/
theorem canvasFramesAreChecked : Obligations.CanvasFramesAreChecked := by
  unfold Obligations.CanvasFramesAreChecked
  intro byte discarded published
  refine ⟨exec_canvasFrame_nil, fun e l s t => exec_canvasFrame_cons, ?starts, ?receives, ?ends, ?stalls, ?lane⟩
  case starts =>
    intro e s hs hk he hf hl hq
    rw [exec_canvasFrame_one hs hk, cvsPeriod_starts hf hl he, cvsStart_queued hq]
    rfl
  case receives =>
    intro e r s hs hk he hf
    refine ⟨fun hq => ?_, fun hq hl => ?_, ?_⟩
    · rw [exec_canvasFrame_one hs hk, cvsPeriod_receives hf he, cvsByte_full hq]
      rfl
    · rw [exec_canvasFrame_one hs hk, cvsPeriod_receives hf he, cvsByte_queued hq hl]
      rfl
    · intro hq hl hen hab hb h accepted sound addressed shaped room
      exact canvasFrame_header hs hk he hf hq hl hen hab hb ⟨accepted, sound, addressed, shaped, room⟩
  case ends =>
    intro e r s hs hk he hf h payload n
    refine ⟨fun h0 => canvasFrame_discards hs hk he hf (cvsEnd_fails h0 s), fun h0 hc => ?_, fun h0 hc => ?_⟩
    · have ends := exec_canvasFrame_end hs hk he hf
      rw [cvsEnd_coded h0 hc] at ends
      exact ⟨_, ends, rfl, rfl, rfl, rfl⟩
    · refine ⟨fun (hx : crc32c (rawData r) ≠ rawCrc r) => canvasFrame_discards hs hk he hf ?_,
        fun (hx : crc32c (rawData r) = rawCrc r) hw => canvasFrame_discards hs hk he hf ?_,
        fun (hx : crc32c (rawData r) = rawCrc r) hw => canvasFrame_publishes hs hk he hf ?_⟩
      · rw [cvsEnd_raw h0 hc, if_pos (bne_iff_ne.mpr hx)]
      · rw [cvsEnd_raw h0 hc, if_neg (by simpa using hx), if_pos hw]
      · rw [cvsEnd_raw h0 hc, if_neg (by simpa using hx), if_neg (by simp [hw])]
        rfl
  case stalls =>
    intro ps r s hs hf
    exact ⟨_, guarded_of hs _ _, (cvsStall_discards hf).symm ▸ frameDiscarded_cvsDiscard _ _ _ _⟩
  case lane =>
    intro j s hs hj
    refine ⟨fun x hd => canvasJobEnd_error hs hj hd, fun img hd => ⟨fun hw => ?_, fun hw => ?_⟩⟩
    · have ends := exec_canvasJobEnd_ok hs hj hd
      rw [if_pos hw] at ends
      exact ⟨_, ends, discardCanvas_discards hj 0x8C⟩
    · have ends := exec_canvasJobEnd_ok hs hj hd
      rw [if_neg (by simp [hw])] at ends
      obtain ⟨late, canvas⟩ := canvas_publishLive j.pens img (laneFree s)
      exact ⟨_, ends, (congrArg Canvas.job canvas :), framePublished_publishLive j.pens img (laneFree s)⟩

end Sys2Proof.Proofs
end

section
/-! SUPPORT. The render stage of the pulse wheel: the events that it tests, and the lines that it begins, skips or renders (11 R261, R263 to
R265); and O45. -/

namespace Sys2Proof.Proofs

open Sys2Proof Machine Laws

variable {s : State} {p : Port}

/-! A wheel apart from its events. -/

/-- A wheel without its events, wherever they wait, and without what is counted and marked of them: the rest is the course of the position,
of the lines and of the anchors. -/
def wheelCourse (w : Wheel) : Wheel :=
  { w with ring := [], lateSlots := [], held := [], queue := [], fired := [], complete := [], staleRun := 0, frameDrops := 0
           counters := {} }

theorem writeEvent_course (d : Int) (e : Event) (w : Wheel) : wheelCourse (writeEvent d e w) = wheelCourse w := by
  unfold writeEvent
  split
  · rfl
  · split <;> rfl

theorem testEvents_course (pos : BitVec 32) (l : List Event) (moves : List Nat) (w : Wheel) :
    wheelCourse (testEvents pos moves l w) = wheelCourse w := by
  induction l generalizing moves w with
  | nil => rfl
  | cons e l ih =>
    unfold testEvents
    dsimp only
    split
    · split <;> rfl
    · rw [ih, writeEvent_course]

/-- 11 R265: testing held events again begins no line. -/
theorem retest_course (pos : BitVec 32) (w : Wheel) : wheelCourse (retest pos w) = wheelCourse w := by
  unfold retest
  dsimp only
  split
  · rfl
  · split <;> exact testEvents_course pos w.held [] w

/-- The line marked last is the newest complete one (16 R378). -/
theorem markComplete_head (n : Nat) (w : Wheel) : (markComplete n w).complete.head? = some (lineMod n) := rfl

/-! Lines kept for the checks (16 R373). -/

theorem keepLine_wheel (n : Nat) (levels : List (List Nat)) (s : State) : (portOf (keepLine p n levels s) p).wheel = (portOf s p).wheel :=
  portOf_updPort_keeps PortState.wheel (by exact fun _ => rfl) s p p

/-! A line that is skipped, and one that is rendered. -/

/-- The wheel behind a skipped line (11 R264). -/
def lineSkipped (w : Wheel) : Wheel :=
  markComplete w.nextLine
    (bumpCounters (fun k => { k with lineSkipped := satInc k.lineSkipped }) { w with nextLine := w.nextLine + 1 })

theorem skipLine_wheel (p : Port) (s : State) : (portOf (skipLine p s) p).wheel = lineSkipped (portOf s p).wheel := by
  unfold skipLine
  dsimp only
  rw [portOf_updWheel]
  dsimp only
  split
  · rw [keepLine_wheel]
    rfl
  · rfl

/-- A wheel whose next line has begun. -/
def lineBegun (w : Wheel) : Wheel := { w with nextLine := w.nextLine + 1 }

/-- A line without pixels is complete at once. -/
theorem renderLine_blank (h : (lineRole (portOf s p) p (portOf s p).wheel.nextLine).2 = none) (pos : BitVec 32) (moves : List Nat)
    (missing : List (Layer × Nat)) : (portOf (renderLine p pos moves missing s) p).wheel =
      markComplete (portOf s p).wheel.nextLine (lineBegun (portOf s p).wheel) := by
  simp only [renderLine, h, portOf_updWheel]
  rfl

/-- A wheel that has tested the events of line n: the line is complete when none of them is held. -/
def eventsTested (pos : BitVec 32) (moves : List Nat) (n : Nat) (l : List Event) (w : Wheel) : Wheel :=
  if (testEvents pos moves l w).held.isEmpty then markComplete n (testEvents pos moves l w) else testEvents pos moves l w

theorem eventsTested_course (pos : BitVec 32) (moves : List Nat) (n : Nat) (l : List Event) (w : Wheel) :
    wheelCourse (eventsTested pos moves n l w) = wheelCourse w := by
  unfold eventsTested
  split <;> exact testEvents_course pos l moves w

theorem eventsTested_complete {pos : BitVec 32} {moves : List Nat} {n : Nat} {l : List Event} {w : Wheel}
    (h : (eventsTested pos moves n l w).held = []) : (eventsTested pos moves n l w).complete.head? = some (lineMod n) := by
  unfold eventsTested at *
  split
  · exact markComplete_head n _
  next held =>
    rw [if_neg held] at h
    exact absurd (by simp [h]) held

/-- What a line counts of its port and of the matrix leaves the port's wheel alone. -/
theorem wheel_counted {f : PortState → PortState} (hf : ∀ q, (f q).wheel = q.wheel) (m : Matrix) (s : State) (p : Port) :
    (portOf { updPort s p f with matrix := m } p).wheel = (portOf s p).wheel := by
  cases p <;> exact hf _

/-- The events of an active line are tested (11 R263, R265). -/
theorem renderLine_active {y : Nat} (h : (lineRole (portOf s p) p (portOf s p).wheel.nextLine).2 = some y) (pos : BitVec 32)
    (moves : List Nat) (missing : List (Layer × Nat)) : ∃ l, (portOf (renderLine p pos moves missing s) p).wheel =
      eventsTested pos moves (portOf s p).wheel.nextLine l (lineBegun (portOf s p).wheel) := by
  have steps : ∃ u l, (portOf u p).wheel = (portOf s p).wheel ∧ renderLine p pos moves missing s =
      updWheel u p fun w => eventsTested pos moves (portOf s p).wheel.nextLine l
        { w with nextLine := (portOf s p).wheel.nextLine + 1 } := by
    simp only [renderLine, h]
    refine ⟨_, _, ?_, rfl⟩
    exact (wheel_counted (by exact fun _ => rfl) _ _ _).trans (keepLine_wheel _ _ _)
  obtain ⟨u, l, wheel, rendered⟩ := steps
  refine ⟨l, ?_⟩
  rw [rendered, portOf_updWheel, wheel]
  rfl

/-- 11 R263: every line that is rendered moves the stage on, and is complete unless it leaves events held. -/
theorem renderLine_advances (p : Port) (pos : BitVec 32) (moves : List Nat) (missing : List (Layer × Nat)) (s : State) :
    let w := (portOf s p).wheel
    let v := (portOf (renderLine p pos moves missing s) p).wheel
    v.nextLine = w.nextLine + 1 ∧ ((lineRole (portOf s p) p w.nextLine).2 = none → v.ring = w.ring) ∧
      (v.held = [] → v.complete.head? = some (lineMod w.nextLine)) := by
  dsimp only
  cases h : (lineRole (portOf s p) p (portOf s p).wheel.nextLine).2 with
  | none =>
    rw [renderLine_blank h]
    exact ⟨rfl, fun _ => rfl, fun _ => rfl⟩
  | some y =>
    obtain ⟨l, tested⟩ := renderLine_active h pos moves missing
    rw [tested]
    have line := congrArg Wheel.nextLine
      (eventsTested_course pos moves (portOf s p).wheel.nextLine l (lineBegun (portOf s p).wheel))
    exact ⟨line, (nomatch ·), eventsTested_complete⟩

/-! The stage's choice (11 R263 to R265). -/

section
variable {lag : Nat} (hs : sysRuns s = true) (hp : (portOf s p).raster = true) (hc : (portOf s p).wheel.clearing = false)
include hs hp hc

/-- The stage of a port that runs takes the choice of R263 to R265. -/
theorem exec_renderLine (moves : List Nat) (missing : List (Layer × Nat)) :
    exec (.renderLine p lag moves missing) s = .next
      (let w := (portOf s p).wheel
       let seen := seenPosition w lag
       if !w.held.isEmpty then updWheel s p (retest seen)
       else if !reached seen (lineStart w.nextLine - 12288#32) then s
       else if reached seen (lineStart w.nextLine - 4096#32) then skipLine p s
       else renderLine p seen moves missing s) :=
  guarded_of (by simp [hs, hp, hc]) _ _

theorem exec_renderLine_retests (hh : (portOf s p).wheel.held ≠ []) (moves : List Nat) (missing : List (Layer × Nat)) :
    exec (.renderLine p lag moves missing) s = .next (updWheel s p (retest (seenPosition (portOf s p).wheel lag))) := by
  simp [exec_renderLine hs hp hc, hh]

variable (hh : (portOf s p).wheel.held = [])
include hh

theorem exec_renderLine_waits
    (he : reached (seenPosition (portOf s p).wheel lag) (lineStart (portOf s p).wheel.nextLine - 12288#32) = false)
    (moves : List Nat) (missing : List (Layer × Nat)) : exec (.renderLine p lag moves missing) s = .next s := by
  simp [exec_renderLine hs hp hc, hh, he]

variable (he : reached (seenPosition (portOf s p).wheel lag) (lineStart (portOf s p).wheel.nextLine - 12288#32) = true)
include he

theorem exec_renderLine_skips
    (hl : reached (seenPosition (portOf s p).wheel lag) (lineStart (portOf s p).wheel.nextLine - 4096#32) = true)
    (moves : List Nat) (missing : List (Layer × Nat)) : exec (.renderLine p lag moves missing) s = .next (skipLine p s) := by
  simp [exec_renderLine hs hp hc, hh, he, hl]

theorem exec_renderLine_renders
    (hl : reached (seenPosition (portOf s p).wheel lag) (lineStart (portOf s p).wheel.nextLine - 4096#32) = false)
    (moves : List Nat) (missing : List (Layer × Nat)) :
    exec (.renderLine p lag moves missing) s =
      .next (renderLine p (seenPosition (portOf s p).wheel lag) moves missing s) := by
  simp [exec_renderLine hs hp hc, hh, he, hl]

end

/-- Settles O45: the line not yet due, the one that is late, the one that is rendered, and the events held. -/
theorem renderStageKeepsItsOrder : Obligations.RenderStageKeepsItsOrder := by
  intro p lag moves missing s hs hp hc w seen
  refine ⟨fun hh he => exec_renderLine_waits hs hp hc hh he moves missing, fun hh he hl => ?_, fun hh he hl => ?_, fun hh => ?_⟩
  · refine ⟨_, exec_renderLine_skips hs hp hc hh he hl moves missing, ?_⟩
    rw [skipLine_wheel]
    exact ⟨rfl, rfl, rfl, rfl⟩
  · exact ⟨_, exec_renderLine_renders hs hp hc hh he hl moves missing, renderLine_advances p seen moves missing s⟩
  · refine ⟨_, exec_renderLine_retests hs hp hc hh moves missing, ?_⟩
    rw [portOf_updWheel]
    have line := congrArg Wheel.nextLine (retest_course seen w)
    exact ⟨line, rfl⟩

end Sys2Proof.Proofs
end

section
/-! SUPPORT. Late events, stale lines and stale live frames (11 R275, 16 R377, R378): the gates that stay as they are, what a reset of
`CK_SYS` closes; and O46. -/

namespace Sys2Proof.Proofs

open Sys2Proof Machine Laws

variable {s t u : State} {p : Port}

/-! The gates stay as they are. -/

/-- An operation from s to t leaves both gates alone. -/
def KeepsGates (s t : State) : Prop := ∀ r, gateOpen t r = gateOpen s r

namespace KeepsGates

theorem refl (s : State) : KeepsGates s s := fun _ => rfl

/-- One operation behind others. -/
theorem after (k : KeepsGates t u) (h : KeepsGates s t) : KeepsGates s u := fun r => (k r).trans (h r)

/-- An operation that leaves the ports alone, behind others. -/
theorem after_eff {l : List Part} (k : Eff l t u) (h : KeepsGates s t) (ha : l.contains .portA = false := by rfl)
    (hb : l.contains .portB = false := by rfl) : KeepsGates s u :=
  after (fun r => congrArg (fun q : PortState => q.wheel.gate) (portOf_of_eff k ha hb r)) h

theorem ite {c : Prop} [Decidable c] (h : KeepsGates s t) (k : KeepsGates s u) : KeepsGates s (if c then t else u) := ite_pred h k

theorem foldl {α : Type} {f : State → α → State} (hf : ∀ t x, KeepsGates t (f t x)) (xs : List α) (s : State) :
    KeepsGates s (xs.foldl f s) :=
  List.foldlRecOn (motive := KeepsGates s) xs f (refl s) fun t ht x _ => (hf t x).after ht

end KeepsGates

theorem updPort_gates {f : PortState → PortState} (hf : ∀ q, (f q).wheel.gate = q.wheel.gate) (s : State) (p : Port) :
    KeepsGates s (updPort s p f) := portOf_updPort_keeps (fun q => q.wheel.gate) hf s p

/-! A rollback moves no gate (07 R167 to R171). -/

theorem showOn_gates (p : Port) (e : Option Nat) (s : State) : KeepsGates s (showOn p e s) :=
  .after_eff (markShown_eff _ _) (.after_eff (markShown_eff _ _) (updPort_gates (by exact fun _ => rfl) s p))

theorem reshow_gates (s : State) : KeepsGates s (reshow s) := by
  unfold reshow
  refine .foldl (fun t r => ?_) _ s
  split
  · exact showOn_gates r _ t
  · exact .refl t

theorem closeGather_gates (outcome reason : Nat) (s : State) : KeepsGates s (closeGather outcome reason s) :=
  .after_eff (closeGather_eff _ _ _) (.refl s)

theorem restoreProgress_gates (s : State) : KeepsGates s (restoreProgress s) := by
  have shown : KeepsGates s (shownAgain s) := .ite (reshow_gates _) (.refl s)
  rw [restoreProgress_eq]
  exact .ite (.after (closeGather_gates _ _ _) shown) shown

theorem followVertical_gates (st : Store) (s : State) : KeepsGates s (followVertical st s) :=
  .after (updPort_gates (by exact fun _ => rfl) _ _) (updPort_gates (by exact fun _ => rfl) s _)

theorem restoreAsked_gates (reason : Nat) (s : State) : KeepsGates s (restoreAsked reason s) := by
  have turned : KeepsGates s (turnedBack reason s) :=
    .after_eff (restartConv_eff _) (.after (followVertical_gates _ _) (.after_eff (Eff.set_gather (Eff.refl [.gather] _) rfl)
      (.after_eff (dropStitch_eff s) (.refl s))))
  exact .ite (.after_eff (requestRestore_eff _) turned) turned

theorem rollback_gates (reason : Nat) (s : State) : KeepsGates s (rollback reason s) := by
  have restored : KeepsGates s (beginRestore reason s) := .after (restoreProgress_gates _) (restoreAsked_gates reason s)
  unfold rollback
  split
  · exact .refl s
  · exact restored
  · exact restored
  · exact .after_eff (redirect_eff _ _) (.refl s)
  · exact .after (closeGather_gates _ _ _) (.after_eff (dropStitch_eff s) (.refl s))

/-! A reset of `CK_SYS` closes both gates (04 Table 4-2, R78). -/

/-- Both gates are closed. -/
def Shut (s : State) : Prop := ∀ r, gateOpen s r = false

theorem KeepsGates.shut (k : KeepsGates s t) (h : Shut s) : Shut t := fun r => (k r).trans (h r)

theorem closeGates_shut (s : State) : Shut (closeGates s) := by
  intro r
  cases r <;> rfl

/-- A port whose held events are dropped keeps its gate. -/
theorem dropHeld_gates (s : State) (p : Port) : KeepsGates s (updWheel s p fun w => { w with held := [] }) :=
  updPort_gates (by exact fun _ => rfl) s p

theorem readsDropped_gates (m : MemPort) (b : Binding) (s : State) : KeepsGates s { s with mem := m, binding := b } := by
  intro r
  cases r <;> rfl

theorem domainEffect_sys_shut (s : State) : Shut (domainEffect .sys s) := by
  have dropped : Shut (dropFilling (closeGates s)) := (KeepsGates.after_eff (dropFilling_eff _) (.refl _)).shut (closeGates_shut s)
  refine KeepsGates.shut (.after (dropHeld_gates _ _) (.after (dropHeld_gates _ _) (.after_eff (restartMatrix_eff _)
    (.after_eff (breakLocks_eff _ _) (.after (rollback_gates _ _) (.after_eff (dropAllJobs_eff _) (readsDropped_gates _ _ _))))))) dropped

theorem domainReset_sys_shut (s : State) : Shut (domainReset .sys s) :=
  KeepsGates.shut (.after_eff (setRecovery_eff _ _ _) (.after_eff (coverFault_eff _ _ _) (.after_eff (setRecovery_eff _ _ _) (.refl _))))
    (domainEffect_sys_shut _)

/-- A halt coasts both ports (04 R79). -/
theorem halt_shut (s : State) : Shut (halt s) := by
  intro r
  obtain ⟨-, -, gate, -⟩ := coastBoth_coasted { s with core := { s.core with halted := true } } r
  have dark : Eff [.emit, .lamp] (coastBoth { s with core := { s.core with halted := true } }) (halt s) :=
    Eff.set_lamp ((darkAllChannels_eff _).mono rfl) rfl
  rw [gateOpen, portOf_of_eff dark rfl rfl, gate]

theorem resetDomain_sys_shut (s : State) : Shut (resetDomain .sys s) := by
  rw [resetDomain_eq]
  exact ite_pred (halt_shut _) (domainReset_sys_shut s)

/-- 04 R77: the domain that a reset resets is held. -/
theorem resetDomain_held (hl : s.keeper.domains.length = 9) (d : Domain) : (domainOf (resetDomain d s) d).held = true := by
  rw [domainOf_resetDomain hl]
  split <;> rfl

/-! Late events (11 R275). -/

/-- Too many late events, reported. -/
def lateNoted (p : Port) (s : State) : State :=
  report evWheelLate 0 (portNum p) (updWheel s p fun w => { w with lateReported := true })

theorem lateNoted_wheel (p : Port) (s : State) :
    (portOf (lateNoted p s) p).wheel = { (portOf s p).wheel with lateReported := true } := by
  rw [lateNoted, portOf_of_eff (report_eff _ _ _ _) rfl rfl, portOf_updWheel]

theorem lateNoted_reported (p : Port) (s : State) : Reported evWheelLate (portNum p) (lateNoted p s) := report_reported _ _ _ _

/-- The gate closes until the next frame boundary. -/
def lateDarkened (p : Port) (s : State) : State := closeGate p (updWheel s p fun w => { w with lateDark := true })

theorem lateDarkened_wheel (p : Port) (s : State) :
    (portOf (lateDarkened p s) p).wheel = { (portOf s p).wheel with lateDark := true, gate := false } := by
  rw [lateDarkened, portOf_closeGate, portOf_updWheel]
  rfl

theorem reported_lateDarkened {c j : Nat} (h : Reported c j s) (p : Port) : Reported c j (lateDarkened p s) :=
  reported_of_eff (reported_of_eq h (updWheel_beacon _ _ _)) (closeGate_eff p _) rfl

theorem exec_wheelLate (hr : running s = true) (hp : (portOf s p).raster = true)
    (hn : fnat (portOf s p).fields wheelLateLimit < (portOf s p).wheel.frameDrops) (hl : (portOf s p).wheel.lateReported = false) :
    exec (.wheelLate p) s =
      .next (if fbit (portOf s p).fields wheelLateDark then lateDarkened p (lateNoted p s) else lateNoted p s) :=
  guarded_of (by simp [hr, hp, hn, hl]) _ _

/-- 11 R275: the report of too many late events, and the gate that the binding closes for them. -/
theorem wheelLate_reports (hr : running s = true) (hp : (portOf s p).raster = true)
    (hn : fnat (portOf s p).fields wheelLateLimit < (portOf s p).wheel.frameDrops) (hl : (portOf s p).wheel.lateReported = false) :
    ∃ t, exec (.wheelLate p) s = .next t ∧ (portOf t p).wheel.lateReported = true ∧ Reported evWheelLate (portNum p) t ∧
      (fbit (portOf s p).fields wheelLateDark = true → gateOpen t p = false ∧ (portOf t p).wheel.lateDark = true ∧
        ∀ l ∈ t.emit.lasers, l.assigned = some p → l.level = 0 ∧ l.code = 0) ∧
      (fbit (portOf s p).fields wheelLateDark = false → gateOpen t p = gateOpen s p ∧ t.emit = s.emit) := by
  refine ⟨_, exec_wheelLate hr hp hn hl, ?_⟩
  unfold gateOpen
  cases hd : fbit (portOf s p).fields wheelLateDark with
  | true =>
    rw [if_pos rfl, lateDarkened_wheel, lateNoted_wheel]
    exact ⟨rfl, reported_lateDarkened (lateNoted_reported p s) p, fun _ => ⟨rfl, rfl, closeGate_channels p _⟩, (nomatch ·)⟩
  | false =>
    rw [if_neg (by decide), lateNoted_wheel]
    refine ⟨rfl, lateNoted_reported p s, (nomatch ·), fun _ => ⟨rfl, ?_⟩⟩
    rw [lateNoted, report_emit, updWheel_emit]

/-! Stale lines (16 R378). -/

/-- Level 0 in a late slot is the lower of any two (11 R266). -/
theorem zero_mem_postLate (c : Nat) (l : List (Nat × Nat)) : (c, 0) ∈ postLate c 0 l := by
  unfold postLate
  split <;> simp

theorem zero_mem_postLate_of_mem {c : Nat} {l : List (Nat × Nat)} (h : (c, 0) ∈ l) (d : Nat) : (c, 0) ∈ postLate d 0 l := by
  by_cases hd : c = d
  · exact hd ▸ zero_mem_postLate c l
  · unfold postLate
    split <;> simp [h, hd]

theorem zero_mem_foldl_postLate_of_mem {c : Nat} (cs : List Nat) {l : List (Nat × Nat)} (h : (c, 0) ∈ l) :
    (c, 0) ∈ cs.foldl (fun l d => postLate d 0 l) l :=
  List.foldlRecOn (motive := fun l => (c, 0) ∈ l) cs _ h fun _ hl d _ => zero_mem_postLate_of_mem hl d

/-- Every channel to which level 0 is posted has it in its late slot. -/
theorem zero_mem_foldl_postLate {c : Nat} {cs : List Nat} (h : c ∈ cs) (l : List (Nat × Nat)) :
    (c, 0) ∈ cs.foldl (fun l d => postLate d 0 l) l := by
  induction cs generalizing l with
  | nil => exact absurd h List.not_mem_nil
  | cons d cs ih =>
    rcases List.mem_cons.mp h with rfl | h
    · exact zero_mem_foldl_postLate_of_mem cs (zero_mem_postLate c l)
    · exact ih h _

/-- A wheel after one stale line more. -/
def staleWheel (s : State) (p : Port) (w : Wheel) : Wheel :=
  { w with lateSlots := (portChannels s p).foldl (fun l c => postLate c 0 l) w.lateSlots, staleRun := w.staleRun + 1 }

/-- A stale line, reported. -/
def staleNoted (p : Port) (s : State) : State := report evComposeStale 0 (16 * portNum p) (updWheel s p (staleWheel s p))

theorem staleNoted_wheel (p : Port) (s : State) : (portOf (staleNoted p s) p).wheel = staleWheel s p (portOf s p).wheel := by
  rw [staleNoted, portOf_of_eff (report_eff _ _ _ _) rfl rfl, portOf_updWheel]

theorem staleNoted_keeper (p : Port) (s : State) : (staleNoted p s).keeper = s.keeper := by
  rw [staleNoted, report_keeper, updWheel_keeper]

/-- `CK_SYS` is reset for the stale lines, whose run begins again. -/
def staleReset (p : Port) (s : State) : State := resetDomain .sys (updWheel s p fun w => { w with staleRun := 0 })

section
variable (hr : running s = true) (hp : (portOf s p).raster = true)
  (hn : (portOf s p).wheel.complete.contains ((portOf s p).wheel.position.toNat / 4096) = false)
include hr hp hn

theorem exec_composeStaleLine :
    exec (.composeStaleLine p) s = .next
      (if fnat (portOf s p).fields integrityCompStale ≤ (portOf s p).wheel.staleRun + 1 && !domainHeld s .sys then
        staleReset p (staleNoted p s) else staleNoted p s) :=
  guarded_of (by simp only [hr, hp, hn]; rfl) _ _

theorem exec_composeStaleLine_notes (hf : (portOf s p).wheel.staleRun + 1 < fnat (portOf s p).fields integrityCompStale) :
    exec (.composeStaleLine p) s = .next (staleNoted p s) := by
  rw [exec_composeStaleLine hr hp hn, if_neg (by simp [Nat.not_le.mpr hf])]

theorem exec_composeStaleLine_resets (hf : fnat (portOf s p).fields integrityCompStale ≤ (portOf s p).wheel.staleRun + 1)
    (hk : domainHeld s .sys = false) : exec (.composeStaleLine p) s = .next (staleReset p (staleNoted p s)) := by
  rw [exec_composeStaleLine hr hp hn, if_pos (by simp [hf, hk])]

end

/-! Stale live frames (16 R377). -/

theorem exec_liveStale (hs : sysRuns s = true) (hp : (portOf s p).raster = true) (he : fbit (live s) canvasEnable = true)
    (hn : fnat (portOf s p).fields integrityLiveStale ≠ 0) (hl : (portOf s p).liveSeen = true)
    (hf : (portOf s p).liveStale = false) :
    exec (.liveStale p) s = .next (report evLiveStale 0 (portNum p) (updPort s p fun q => { q with liveStale := true })) :=
  guarded_of (by simp [hs, hp, he, hn, hl, hf]) _ _

/-- Settles O46: the late events of a frame, a stale line, the last one that is tolerated, and a stale live layer. That COMPOSE_STALE names
no check for a stale line, so that its subject is 16 times the port, is the model's choice (log 30). -/
theorem lateLightIsStopped : Obligations.LateLightIsStopped := by
  refine ⟨fun _ _ => wheelLate_reports, fun p s hr hp hn hf => ?_, fun p s hr hp hl hn hf hk => ?_, fun p s hs hp he hn hl hf => ?_⟩
  · refine ⟨_, exec_composeStaleLine_notes hr hp hn hf, ?_⟩
    rw [staleNoted_wheel, staleNoted_keeper]
    exact ⟨rfl, fun c hc => zero_mem_foldl_postLate hc _, report_reported _ _ _ _, rfl⟩
  · have domains : (updWheel (staleNoted p s) p fun w => { w with staleRun := 0 }).keeper.domains.length = 9 := by
      rw [updWheel_keeper, staleNoted_keeper, hl]
    have shut : Shut (staleReset p (staleNoted p s)) := resetDomain_sys_shut _
    exact ⟨_, exec_composeStaleLine_resets hr hp hn hf hk, resetDomain_held domains .sys, shut .a, shut .b⟩
  · refine ⟨_, exec_liveStale hs hp he hn hl hf, ?_, report_reported _ _ _ _⟩
    rw [portOf_of_eff (report_eff _ _ _ _) rfl rfl, portOf_updPort]

end Sys2Proof.Proofs
end

section
/-! SUPPORT. The fetch stage, the clearing of the ring, the timeline and the delay loops (11 R261, R266, R267, R269, R272, R273, R276); and
O47. -/

namespace Sys2Proof.Proofs

open Sys2Proof Machine Laws

variable {s : State} {p : Port}

theorem portOf_updWheel_other {r : Port} (h : r ≠ p) (s : State) (f : Wheel → Wheel) : portOf (updWheel s p f) r = portOf s r :=
  portOf_updPort_other s h _

/-! A stall that begins (R261, R269). -/

theorem endLine_course (pos : BitVec 32) (w : Wheel) : wheelCourse (endLine pos w) = wheelCourse w := by
  unfold endLine
  split <;> rfl

/-- A wheel at the stall that begins. -/
def stallBegun (pos : BitVec 32) (w : Wheel) : Wheel := { w with position := pos, fresh := false }

/-- A wheel whose stall an edge stage that is not held has measured. -/
def stallMeasured (held : Bool) (pos : BitVec 32) (anchor : Nat) (w : Wheel) : Wheel := if held then w else takeAnchor pos anchor w

theorem stallMeasured_course (held : Bool) (pos : BitVec 32) (anchor : Nat) (w : Wheel) :
    wheelCourse (stallMeasured held pos anchor w) = stallMeasured held pos anchor (wheelCourse w) := by
  unfold stallMeasured takeAnchor
  split
  · rfl
  · split <;> rfl

theorem stallMeasured_place (held : Bool) (pos : BitVec 32) (anchor : Nat) (w : Wheel) :
    (stallMeasured held pos anchor w).position = w.position ∧ (stallMeasured held pos anchor w).fresh = w.fresh := by
  unfold stallMeasured takeAnchor
  split
  · exact ⟨rfl, rfl⟩
  · split <;> exact ⟨rfl, rfl⟩

theorem stallMeasured_anchors {pos : BitVec 32} (h : pos.toNat % 64 = 0) (anchor : Nat) (w : Wheel) :
    (stallMeasured false pos anchor w).anchors.head? = some (pos.toNat, anchor) := by
  simp [stallMeasured, takeAnchor, h]

/-- The wheel once its stall has begun: the line's end, the anchor that a running `CK_EDGE` measures, and the held events tested. -/
def stallEntered (s : State) (pos : BitVec 32) (anchor : Nat) (w : Wheel) : Wheel :=
  retest pos (stallMeasured (domainHeld s .edge) pos anchor (endLine pos (stallBegun pos w)))

/-- The course of a wheel through the beginning of a stall. -/
theorem stallEntered_course (s : State) (pos : BitVec 32) (anchor : Nat) (w : Wheel) :
    wheelCourse (stallEntered s pos anchor w) =
      stallMeasured (domainHeld s .edge) pos anchor (wheelCourse (stallBegun pos w)) := by
  rw [stallEntered, retest_course, stallMeasured_course, endLine_course]

/-! The fetch of a stall (R266). -/

theorem ringEvent_course (f : BitVec 32) (flips : List (Nat × Nat)) (c : Nat) (w : Wheel) :
    wheelCourse (ringEvent f flips c w).2 = wheelCourse w ∧ (ringEvent f flips c w).2.ring = w.ring := by
  unfold ringEvent
  dsimp only
  split
  · exact ⟨rfl, rfl⟩
  split
  · exact ⟨rfl, rfl⟩
  split <;> exact ⟨rfl, rfl⟩

theorem mergeLate_course (c : Nat) (ev : Option (Nat × Nat)) (w : Wheel) :
    wheelCourse (mergeLate c ev w).2 = wheelCourse w ∧ (mergeLate c ev w).2.ring = w.ring := by
  unfold mergeLate
  split <;> exact ⟨rfl, rfl⟩

/-- The entries of a ring but a channel's at a stall. -/
def ringWithout (f : BitVec 32) (c : Nat) (l : List RingEntry) : List RingEntry :=
  l.filter fun x => !(x.slot == f.toNat % 32768 && x.channel == c)

/-- A channel's fetch takes its entry out of the ring and leaves the wheel's course alone. -/
theorem fetchChannel_course (f : BitVec 32) (flips : List (Nat × Nat)) (a : List (Nat × Nat × Nat) × Wheel) (c : Nat) :
    wheelCourse (fetchChannel f flips a c).2 = wheelCourse a.2 ∧ (fetchChannel f flips a c).2.ring = ringWithout f c a.2.ring := by
  obtain ⟨readCourse, readRing⟩ := ringEvent_course f flips c a.2
  obtain ⟨mergedCourse, mergedRing⟩ := mergeLate_course c (ringEvent f flips c a.2).1 (ringEvent f flips c a.2).2
  have course := mergedCourse.trans readCourse
  have ring := congrArg (ringWithout f c) (mergedRing.trans readRing)
  unfold fetchChannel
  dsimp only
  split <;> exact ⟨course, ring⟩

theorem fetch_course (f : BitVec 32) (flips : List (Nat × Nat)) (cs : List Nat) (a : List (Nat × Nat × Nat) × Wheel) :
    wheelCourse (cs.foldl (fetchChannel f flips) a).2 = wheelCourse a.2 :=
  List.foldlRecOn (motive := fun b => wheelCourse b.2 = wheelCourse a.2) cs _ rfl fun b hb c _ =>
    (fetchChannel_course f flips b c).1.trans hb

/-- 11 R266: what a fetch leaves in the ring was there before it, and is none of its channels' entries of its stall. -/
theorem fetch_ring {x : RingEntry} {f : BitVec 32} {flips : List (Nat × Nat)} (cs : List Nat) (a : List (Nat × Nat × Nat) × Wheel)
    (h : x ∈ (cs.foldl (fetchChannel f flips) a).2.ring) :
    x ∈ a.2.ring ∧ (x.channel ∈ cs → x.slot ≠ f.toNat % 32768) := by
  induction cs generalizing a with
  | nil => exact ⟨h, fun hc => absurd hc List.not_mem_nil⟩
  | cons c cs ih =>
    obtain ⟨mem, later⟩ := ih _ h
    rw [(fetchChannel_course f flips a c).2, ringWithout, List.mem_filter] at mem
    obtain ⟨mem, taken⟩ := mem
    refine ⟨mem, fun hc hs => ?_⟩
    rcases List.mem_cons.mp hc with hc | hc
    · simp [hc, hs] at taken
    · exact later hc hs

/-! The queue to the edge stage (R267). -/

theorem queueEvents_wheel (p : Port) (f : BitVec 32) (evs : List (Nat × Nat × Nat)) (s : State) :
    wheelCourse (portOf (queueEvents p f evs s) p).wheel = wheelCourse (portOf s p).wheel ∧
      (portOf (queueEvents p f evs s) p).wheel.ring = (portOf s p).wheel.ring := by
  unfold queueEvents
  split
  · exact ⟨rfl, rfl⟩
  · dsimp only
    rw [portOf_updWheel]
    exact ⟨rfl, rfl⟩

theorem queueEvents_other (p : Port) (f : BitVec 32) (evs : List (Nat × Nat × Nat)) (s : State) :
    portOf (queueEvents p f evs s) (otherPort p) = portOf s (otherPort p) := by
  unfold queueEvents
  split
  · rfl
  · exact portOf_updWheel_other (otherPort_ne p) _ _

/-- A wheel whose queue holds no event of a stall that has begun. -/
def dueTaken (pos : BitVec 32) (w : Wheel) : Wheel := { w with queue := w.queue.filter fun e => !reached pos (BitVec.ofNat 32 e.1) }

/-- What is due fires, and no port sees more of it than its shorter queue. -/
theorem portOf_fireDue (p : Port) (pos : BitVec 32) (s : State) (r : Port) :
    portOf (fireDue p pos s) r = portOf (updWheel s p (dueTaken pos)) r := by
  unfold fireDue
  dsimp only
  exact foldl_keeps (fun t => portOf t r) (fun _ _ => foldl_keeps (fun t => portOf t r)
    (fun _ _ => portOf_of_eff (fireLevel_eff _ _ _ _) rfl rfl r) _ _) _ _

theorem dueTaken_queue {pos : BitVec 32} {w : Wheel} {e : Nat × List (Nat × Nat × Nat)} (h : e ∈ (dueTaken pos w).queue) :
    reached pos (BitVec.ofNat 32 e.1) = false := by
  simpa using (List.mem_filter.mp h).2

/-! The fetch stage in its order (R261, R266, R267). -/

/-- The stall that the fetch stage reads is the eighth ahead (R267). -/
def fetchedStall (pos : BitVec 32) : BitVec 32 := pos + 8#32

/-- The port's stall has begun. -/
def fetchEntered (p : Port) (anchor : Nat) (s : State) : State :=
  updWheel s p (stallEntered s (nextPosition (portOf s p).wheel) anchor)

/-- The events fetched, and the wheel without them. -/
def fetchTaken (p : Port) (e : StallSight) (s : State) : List (Nat × Nat × Nat) × Wheel :=
  (portChannels s p).foldl (fetchChannel (fetchedStall (nextPosition (portOf s p).wheel)) e.flips)
    ([], stallEntered s (nextPosition (portOf s p).wheel) e.anchor (portOf s p).wheel)

/-- The events fetched are in the queue to the edge stage. -/
def fetchQueued (p : Port) (e : StallSight) (s : State) : State :=
  queueEvents p (fetchedStall (nextPosition (portOf s p).wheel)) (fetchTaken p e s).1
    (updWheel (fetchEntered p e.anchor s) p fun _ => (fetchTaken p e s).2)

/-- What is due has fired, and so have the monitor pulses. -/
def fetchFired (p : Port) (e : StallSight) (s : State) : State :=
  monitor p (nextPosition (portOf s p).wheel) (fireDue p (nextPosition (portOf s p).wheel) (fetchQueued p e s))

theorem exec_stallFetch (hr : running s = true) (hp : (portOf s p).raster = true) (hl : (portOf s p).phase = .locked)
    (e : StallSight) : exec (.stallFetch p e) s = .next (fetchFired p e s) := by
  refine (guarded_of (by simp [hr, hp, hl, portIsLocked]) _ _).trans ?_
  unfold fetchFired fetchQueued fetchTaken fetchEntered portChannels laserOf
  rw [portOf_updWheel, updWheel_emit]
  rfl

/-- The port's wheel after a fetch. -/
theorem fetchFired_wheel (p : Port) (e : StallSight) (s : State) :
    (portOf (fetchFired p e s) p).wheel = dueTaken (nextPosition (portOf s p).wheel) (portOf (fetchQueued p e s) p).wheel := by
  rw [fetchFired, portOf_of_eff (monitor_eff _ _ _) rfl rfl, portOf_fireDue, portOf_updWheel]

/-- 11 R260: the other port is left alone. -/
theorem fetchFired_other (p : Port) (e : StallSight) (s : State) :
    portOf (fetchFired p e s) (otherPort p) = portOf s (otherPort p) := by
  rw [fetchFired, portOf_of_eff (monitor_eff _ _ _) rfl rfl, portOf_fireDue, portOf_updWheel_other (otherPort_ne p), fetchQueued,
    queueEvents_other, portOf_updWheel_other (otherPort_ne p), fetchEntered, portOf_updWheel_other (otherPort_ne p)]

/-- A fetch leaves the course that its stall's beginning has given the wheel. -/
theorem fetchFired_course (p : Port) (e : StallSight) (s : State) :
    wheelCourse (portOf (fetchFired p e s) p).wheel = stallMeasured (domainHeld s .edge) (nextPosition (portOf s p).wheel) e.anchor
      (wheelCourse (stallBegun (nextPosition (portOf s p).wheel) (portOf s p).wheel)) := by
  rw [fetchFired_wheel]
  refine (queueEvents_wheel _ _ _ _).1.trans ?_
  rw [portOf_updWheel]
  exact (fetch_course _ _ _ _).trans (stallEntered_course _ _ _ _)

theorem fetchFired_ring (p : Port) (e : StallSight) (s : State) :
    (portOf (fetchFired p e s) p).wheel.ring = (fetchTaken p e s).2.ring := by
  rw [fetchFired_wheel]
  refine (queueEvents_wheel _ _ _ _).2.trans ?_
  rw [portOf_updWheel]

/-- 11 R261: the fetch stage is at the stall that began. -/
theorem fetchFired_place (p : Port) (e : StallSight) (s : State) :
    (portOf (fetchFired p e s) p).wheel.position = nextPosition (portOf s p).wheel ∧
      (portOf (fetchFired p e s) p).wheel.fresh = false := by
  have course := fetchFired_course p e s
  obtain ⟨position, fresh⟩ := stallMeasured_place (domainHeld s .edge) (nextPosition (portOf s p).wheel) e.anchor
    (wheelCourse (stallBegun (nextPosition (portOf s p).wheel) (portOf s p).wheel))
  exact ⟨(congrArg Wheel.position course).trans position, (congrArg Wheel.fresh course).trans fresh⟩

/-- 11 R269: a running `CK_EDGE` measures the start of every stall whose index is a multiple of 64. -/
theorem fetchFired_anchors (hk : domainHeld s .edge = false) (e : StallSight) (h : (nextPosition (portOf s p).wheel).toNat % 64 = 0) :
    (portOf (fetchFired p e s) p).wheel.anchors.head? = some ((nextPosition (portOf s p).wheel).toNat, e.anchor) := by
  have course := fetchFired_course p e s
  rw [hk] at course
  have measured := congrArg (fun w : Wheel => w.anchors.head?) course
  exact measured.trans (stallMeasured_anchors h _ _)

/-- 11 R261, R266, R267, R269: a fetch moves on by one stall, takes the stall eight ahead out of the ring, leaves nothing due in the queue,
and measures its anchor. -/
theorem stallFetch_advances (hr : running s = true) (hp : (portOf s p).raster = true) (hl : (portOf s p).phase = .locked)
    (e : StallSight) :
    ∃ t, exec (.stallFetch p e) s = .next t ∧ (portOf t p).wheel.position = nextPosition (portOf s p).wheel ∧
      (portOf t p).wheel.fresh = false ∧ portOf t (otherPort p) = portOf s (otherPort p) ∧
      (∀ x ∈ (portOf t p).wheel.queue, reached (portOf t p).wheel.position (BitVec.ofNat 32 x.1) = false) ∧
      (∀ x ∈ (portOf t p).wheel.ring, x.channel ∈ portChannels s p →
        x.slot ≠ ((portOf t p).wheel.position + 8#32).toNat % 32768) ∧
      (domainHeld s .edge = false → (portOf t p).wheel.position.toNat % 64 = 0 →
        (portOf t p).wheel.anchors.head? = some ((portOf t p).wheel.position.toNat, e.anchor)) := by
  obtain ⟨position, fresh⟩ := fetchFired_place p e s
  refine ⟨_, exec_stallFetch hr hp hl e, position, fresh, fetchFired_other p e s, fun x hx => ?_, fun x hx => ?_, ?_⟩
  · rw [fetchFired_wheel] at hx
    rw [position]
    exact dueTaken_queue hx
  · rw [fetchFired_ring] at hx
    rw [position]
    exact (fetch_ring _ _ hx).2
  · rw [position]
    exact fun hk h => fetchFired_anchors hk e h

/-! The ring is cleared (R276). -/

/-- A wheel whose ring has been cleared. -/
def ringEmptied (w : Wheel) : Wheel := { w with ring := [], lateSlots := [], clearing := false }

/-- 11 R276: a cleared ring is empty, and a port that has locked again starts its raster. -/
theorem exec_ringCleared (hr : running s = true) (hc : (portOf s p).wheel.clearing = true) :
    exec (.ringCleared p) s = .next
      (if portIsLocked (portOf s p) && !(portOf s p).raster then startRaster p (updWheel s p ringEmptied)
      else updWheel s p ringEmptied) := by
  refine (guarded_of (by simp [hr, hc]) _ _).trans ?_
  rw [portOf_updWheel]
  rfl

/-- A coasting port's ring is cleared, and the other port's is left alone. -/
theorem coastPort_ring {r : Port} (h : r = p ∨ (portOf s r).wheel.ring = []) : (portOf (coastPort p s) r).wheel.ring = [] := by
  by_cases hr : r = p
  · subst hr
    unfold coastPort
    rw [stopped_port]
    rfl
  · rw [coastPort_other hr]
    exact h.resolve_left hr

theorem coastBoth_ring (s : State) (r : Port) : (portOf (coastBoth s) r).wheel.ring = [] := by
  cases r
  · exact coastPort_ring (.inr (coastPort_ring (.inl rfl)))
  · exact coastPort_ring (.inl rfl)

/-- A qualification that may have lost every port fills no ring. -/
theorem portFailsQual_ring {r : Port} (h : (portOf s r).wheel.ring = []) : (portOf (portFailsQual s) r).wheel.ring = [] := by
  unfold portFailsQual
  split
  · rw [portOf_of_eff (failQual_behind _ _) rfl rfl, coastBoth_ring]
  · exact h

/-- A port whose slow-axis rate is out of range has coasted (10 R232). -/
theorem rasterRate_ring (p : Port) (s : State) : (portOf (rasterRate p s) p).wheel.ring = [] := by
  refine portFailsQual_ring ?_
  rw [portOf_of_eff (report_eff _ _ _ _) rfl rfl, portOf_updPort]
  exact coastPort_ring (.inl rfl)

/-- Where a port's raster stands. -/
def rasterPlace (q : PortState) : Bool × Nat × Wheel := (q.raster, q.frames, q.wheel)

/-- A latch point moves neither the raster nor the wheel (10 R244). -/
theorem rasterPlace_latchSteps (p : Port) (s : State) : rasterPlace (portOf (latchSteps p s) p) = rasterPlace (portOf s p) := by
  rw [portOf_latchSteps]
  exact portOf_latchChosen_keeps rasterPlace (fun _ _ _ _ => rfl) (fun _ _ _ => rfl) p s

theorem portOf_set_beacon (b : Beacon) (s : State) (p : Port) : portOf { s with beacon := b } p = portOf s p := by cases p <;> rfl

/-- 10 R232: at a rate within its range the raster starts at the turning point. -/
theorem startRaster_starts (h : slowRateOk (portOf s p).vertFields p (lockedHz (portOf s p)) = true) :
    rasterPlace (portOf (startRaster p s) p) = (true, 0, freshWheel (portOf s p).wheel) := by
  unfold startRaster
  dsimp only
  rw [if_neg (by simp [h])]
  have latched : ∀ (c : Bool) (u : State), rasterPlace (portOf (if c then latchSteps p u else u) p) = rasterPlace (portOf u p) := by
    intro c u
    cases c
    · rfl
    · exact rasterPlace_latchSteps p u
  have begun : ∀ (c : Bool) (u : State) (b : Beacon), portOf (if c then { u with beacon := b } else u) p = portOf u p := by
    intro c u b
    cases c
    · rfl
    · exact portOf_set_beacon b u p
  rw [latched, begun, portOf_updPort]
  rfl

/-- A raster that starts, and one that may not, leave the ring empty. -/
theorem startRaster_ring (p : Port) (s : State) : (portOf (startRaster p s) p).wheel.ring = [] := by
  by_cases h : slowRateOk (portOf s p).vertFields p (lockedHz (portOf s p)) = true
  · exact congrArg (fun k : Bool × Nat × Wheel => k.2.2.ring) (startRaster_starts h)
  · unfold startRaster
    dsimp only
    rw [if_pos (by simp [h]), portOf_of_eff (takeover_eff _ _) rfl rfl, rasterRate_ring]

theorem ringCleared_waits (hr : running s = true) (hc : (portOf s p).wheel.clearing = true)
    (h : (portOf s p).phase ≠ .locked ∨ (portOf s p).raster = true) :
    exec (.ringCleared p) s = .next (updWheel s p ringEmptied) := by
  rw [exec_ringCleared hr hc, if_neg (by rcases h with h | h <;> simp [portIsLocked, h])]

theorem ringCleared_starts (hr : running s = true) (hc : (portOf s p).wheel.clearing = true) (hl : (portOf s p).phase = .locked)
    (hp : (portOf s p).raster = false) : exec (.ringCleared p) s = .next (startRaster p (updWheel s p ringEmptied)) := by
  rw [exec_ringCleared hr hc, if_pos (by simp [portIsLocked, hl, hp])]

/-- 11 R276: a port that does not start its raster has an empty ring; one that starts it begins at stall 0 of line 0. -/
theorem ringCleared_empties (hr : running s = true) (hc : (portOf s p).wheel.clearing = true) :
    ∃ t, exec (.ringCleared p) s = .next t ∧ (portOf t p).wheel.ring = [] ∧
      ((portOf s p).phase ≠ .locked ∨ (portOf s p).raster = true →
        portOf t p = { portOf s p with wheel := ringEmptied (portOf s p).wheel }) ∧
      ((portOf s p).phase = .locked → (portOf s p).raster = false →
        slowRateOk (portOf s p).vertFields p (lockedHz (portOf s p)) = true →
        (portOf t p).raster = true ∧ (portOf t p).frames = 0 ∧ (portOf t p).wheel.nextLine = 0 ∧
          (portOf t p).wheel.position = 0) := by
  by_cases h : (portOf s p).phase ≠ .locked ∨ (portOf s p).raster = true
  · refine ⟨_, ringCleared_waits hr hc h, ?_⟩
    rw [portOf_updWheel]
    exact ⟨rfl, fun _ => rfl, fun hl hp => absurd h (by simp [hl, hp])⟩
  · obtain ⟨hl, hp⟩ : (portOf s p).phase = .locked ∧ (portOf s p).raster = false := by simpa using h
    refine ⟨_, ringCleared_starts hr hc hl hp, startRaster_ring _ _, fun k => absurd k h, fun _ _ rate => ?_⟩
    have starts := startRaster_starts (s := updWheel s p ringEmptied) (p := p) (by rw [portOf_updWheel]; exact rate)
    obtain ⟨raster, frames, wheel⟩ : _ ∧ _ ∧ _ := by simpa only [rasterPlace, Prod.mk.injEq] using starts
    rw [wheel]
    exact ⟨raster, frames, rfl, rfl⟩

/-! The timeline (R269). -/

theorem exec_timelineValid (hr : running s = true) (hp : (portOf s p).raster = true) (ht : (portOf s p).wheel.timeline = false)
    (hk : domainHeld s .edge = false) (h : (stallPeriod (portOf s p).wheel).isSome = true) :
    exec (.timelineValid p) s = .next (updWheel s p fun w => { w with timeline := true }) :=
  guarded_of (by simp [hr, hp, ht, hk, h]) _ _

theorem exec_timelineValid_unmeasured (h : stallPeriod (portOf s p).wheel = none) : exec (.timelineValid p) s = .next s :=
  guarded_not (by simp [h]) _ _

/-! The delay loops (R272, R273). -/

/-- The master loop has lost lock. -/
theorem exec_dllLockLost_master (hr : running s = true) (hp : s.core.plls = true) :
    exec (.dllLockLost none) s = .next (report evDllCoarse 0 0 { s with emit := { s.emit with dllLost := [.a, .b], dllHeld := 0 } }) :=
  guarded_of (by simp [hr, hp]) _ _

/-- 11 R273: without the master loop every edge falls on a whole tick. -/
theorem dllLockLost_master (hr : running s = true) (hp : s.core.plls = true) :
    ∃ t, exec (.dllLockLost none) s = .next t ∧ Reported evDllCoarse 0 t ∧ ∀ p c, wholeTicks t p c = true := by
  refine ⟨_, exec_dllLockLost_master hr hp, report_reported _ _ _ _, fun p c => ?_⟩
  unfold wholeTicks
  rw [report_emit]
  cases p <;> simp

/-- A channel whose trim is at an end of its range. -/
def trimEnded (c : Nat) (s : State) : State :=
  { s with emit := { s.emit with trimEnd := if s.emit.trimEnd.contains c then s.emit.trimEnd else s.emit.trimEnd ++ [c] } }

theorem trimEnded_contains (c : Nat) (s : State) : (trimEnded c s).emit.trimEnd.contains c = true := by
  unfold trimEnded
  dsimp only
  split
  next h => exact h
  next => simp

/-- 11 R273: a channel whose trim is at an end fires on whole ticks, and the master loop's loss is what it was. -/
theorem dllLockLost_channel {c : Nat} (hr : running s = true) (hp : s.core.plls = true)
    (h : trimAtEnd (s.emit.trims.getD c 16) = true) :
    ∃ t, exec (.dllLockLost (some c)) s = .next t ∧ (∀ p, wholeTicks t p c = true) ∧ t.emit.dllLost = s.emit.dllLost := by
  refine ⟨report evDllCoarse 0 (((laserOf s c).assigned.map portNum).getD 0) (trimEnded c s),
    guarded_of (by simp only [hr, hp, Option.all_some, h]; rfl) _ _, fun p => ?_, ?_⟩
  · unfold wholeTicks
    rw [report_emit, trimEnded_contains, Bool.or_true]
  · rw [report_emit]
    rfl

theorem exec_dllLockLost_inRange {c : Nat} (h : trimAtEnd (s.emit.trims.getD c 16) = false) :
    exec (.dllLockLost (some c)) s = .next s :=
  guarded_not (by simp only [Option.all_some, h, Bool.and_false]) _ _

/-- The trim of a channel that has one. -/
theorem trimAtEnd_eq {l : List Nat} {c : Nat} (h : c < l.length) : trimAtEnd (l.getD c 16) = (nth l c == 0 || 31 ≤ nth l c) := by
  simp [trimAtEnd, nth, h]

/-- Settles O47: the fetch of a stall, the cleared ring, the timeline, and the losses of the delay loops. That the master loop's event has
subject 0, that its loss holds for both ports, and that the slow-axis rate is tested at the locked frequency are the model's choices (logs
30, 73 and 74). -/
theorem stallFetchAdvances : Obligations.StallFetchAdvances := by
  refine ⟨fun p anchor flips s hr hp hl => stallFetch_advances hr hp hl ⟨anchor, flips⟩, fun _ _ => ringCleared_empties,
    fun p s hr hp ht hk => ⟨exec_timelineValid hr hp ht hk, exec_timelineValid_unmeasured⟩, fun _ => dllLockLost_master,
    fun c s hr hp hc => ⟨fun h => ?_, fun h0 h31 => ?_⟩⟩
  · refine dllLockLost_channel hr hp ?_
    rw [trimAtEnd_eq hc]
    simpa using h
  · refine exec_dllLockLost_inRange ?_
    rw [trimAtEnd_eq hc]
    simp [h31, Nat.ne_of_gt h0]

end Sys2Proof.Proofs
end

section
/-! SUPPORT. Mirror starts and mirror faults (12 R279, R282 to R284, R291 to R293): how a port stops, what is kept of a stopped port, and
the phases of a start; and O49 and O50. -/

namespace Sys2Proof.Proofs

open Sys2Proof Machine Laws

variable {s t u : State} {p : Port}

/-! The channels of a port (02 R39, 11 R268). -/

/-- The channels assigned to a port are out. -/
def ChannelsDark (p : Port) (s : State) : Prop := ∀ l ∈ s.emit.lasers, l.assigned = some p → l.level = 0 ∧ l.code = 0

theorem channelsDark_of_lasers (h : ChannelsDark p s) (e : t.emit.lasers = s.emit.lasers) : ChannelsDark p t := by
  unfold ChannelsDark at *
  rwa [e]

/-- A coasting port's channels are out as they are behind a closed gate. -/
theorem coastPort_channelsDark (p : Port) (s : State) : ChannelsDark p (coastPort p s) := by
  refine channelsDark_of_lasers (closeGate_channels p s) ((coastPort_lasers p s).trans ?_)
  unfold closeGate darkChannels
  rw [updPort_emit]

/-- Channels put out for one port light none of another's. -/
theorem channelsDark_darkChannels (h : ChannelsDark p s) (r : Port) : ChannelsDark p (darkChannels r s) := by
  intro l hl hp
  obtain ⟨k, hk, rfl⟩ := List.mem_map.mp hl
  by_cases hr : (k.assigned == some r) = true
  · rw [if_pos hr]
    exact ⟨rfl, rfl⟩
  · rw [if_neg hr] at hp ⊢
    exact h k hk hp

/-- 11 R274: a channel that changes its port is out. -/
theorem channelsDark_assignChannels (h : ChannelsDark p s) : ChannelsDark p (assignChannels s) := by
  intro l hl hp
  obtain ⟨⟨k, i⟩, hk, rfl⟩ := List.mem_map.mp hl
  by_cases same : (k.assigned == if lampOnly s then none else assignment s i) = true
  · rw [if_pos same] at hp ⊢
    exact h k (List.fst_mem_of_mem_zipIdx hk) hp
  · rw [if_neg same]
    exact ⟨rfl, rfl⟩

/-! A port that has stopped (12 R279, R292). -/

/-- A port that coasts behind a closed gate without a raster or a drive, and is down. -/
def Stopped (q : PortState) : Prop :=
  q.phase = .coast ∧ q.raster = false ∧ q.wheel.gate = false ∧ q.driveW = 0 ∧ q.driveP = 0 ∧ q.driveSlow = 0 ∧ q.down = true

/-- A port has stopped, and its channels are out. -/
structure PortStopped (p : Port) (t : State) : Prop where
  port : Stopped (portOf t p)
  channels : ChannelsDark p t

/-- What a port keeps of its starts and its faults while it coasts. -/
def faultRecord (q : PortState) : PortState :=
  { coilZ := q.coilZ, down := q.down, served := q.served, restartDue := q.restartDue, restarting := q.restarting
    failedLatch := q.failedLatch, failedPhase := q.failedPhase, faults := q.faults, faultCount := q.faultCount }

theorem Stopped.coasted (h : Stopped (portOf t p)) : Coasted t p := by
  obtain ⟨phase, raster, gate, driveW, driveP, driveSlow, -⟩ := h
  exact ⟨.inr phase, raster, gate, driveW, driveP, driveSlow⟩

theorem coastPort_phase (h : (portOf s p).phase ≠ .off) : (portOf (coastPort p s) p).phase = .coast := by
  unfold coastPort
  rw [stopped_port]
  have started : (if (portOf s p).phase == .off then MirrorPhase.off else .coast) = .coast := if_neg (by simpa using h)
  cases p <;> split <;> exact started

/-- Coasting forgets none of a port's starts and faults. -/
theorem coastPort_record (p : Port) (s : State) (r : Port) : faultRecord (portOf (coastPort p s) r) = faultRecord (portOf s r) := by
  by_cases h : r = p
  · subst h
    unfold coastPort
    rw [stopped_port]
    cases r <;> split <;> rfl
  · rw [coastPort_other h]

theorem coastPort_stopped (hp : (portOf s p).phase ≠ .off) (hd : (portOf s p).down = true) : Stopped (portOf (coastPort p s) p) := by
  obtain ⟨-, raster, gate, driveW, driveP, driveSlow⟩ := coastPort_coasted p s
  exact ⟨coastPort_phase hp, raster, gate, driveW, driveP, driveSlow, (congrArg PortState.down (coastPort_record p s p)).trans hd⟩

/-! What follows a stop. -/

/-- An operation from s to t keeps what a port remembers of its starts and faults, keeps it stopped, and loses no event. -/
structure KeepsStop (p : Port) (s t : State) : Prop where
  record : faultRecord (portOf t p) = faultRecord (portOf s p)
  stopped : PortStopped p s → PortStopped p t
  reported : ∀ c j, Reported c j s → Reported c j t

namespace KeepsStop

theorem refl (p : Port) (s : State) : KeepsStop p s s := ⟨rfl, id, fun _ _ => id⟩

/-- One operation behind others. -/
theorem after (k : KeepsStop p t u) (h : KeepsStop p s t) : KeepsStop p s u :=
  ⟨k.record.trans h.record, fun q => k.stopped (h.stopped q), fun c j q => k.reported c j (h.reported c j q)⟩

theorem ite {c : Prop} [Decidable c] (h : KeepsStop p s t) (k : KeepsStop p s u) : KeepsStop p s (if c then t else u) := ite_pred h k

/-- An operation that leaves the ports alone, lights no channel of the port and loses no event. -/
theorem of_eff_ports {l : List Part} (h : Eff l s t) (hd : ChannelsDark p s → ChannelsDark p t)
    (hr : ∀ c j, Reported c j s → Reported c j t) (ha : l.contains .portA = false := by rfl)
    (hb : l.contains .portB = false := by rfl) : KeepsStop p s t := by
  have port := portOf_of_eff h ha hb p
  exact ⟨congrArg faultRecord port, fun ⟨stopped, dark⟩ => ⟨by rwa [port], hd dark⟩, hr⟩

/-- An operation that leaves the ports, the channels and the beacon alone. -/
theorem of_eff {l : List Part} (h : Eff l s t) (ha : l.contains .portA = false := by rfl) (hb : l.contains .portB = false := by rfl)
    (he : l.contains .emit = false := by rfl) (hq : l.contains .beacon = false := by rfl) : KeepsStop p s t :=
  of_eff_ports h (fun k => channelsDark_of_lasers k (by rw [h.emit_eq he])) (fun _ _ k => reported_of_eff k h hq) ha hb

end KeepsStop

theorem report_keepsStop (c a j : Nat) (s : State) : KeepsStop p s (report c a j s) :=
  .of_eff_ports (report_eff c a j s) (fun k => channelsDark_of_lasers k (by rw [report_emit])) fun _ _ k => reported_report k _ _ _

/-- Coasting a port drops no event. -/
theorem coastPort_queue (p : Port) (s : State) : (coastPort p s).beacon.queue = s.beacon.queue := by
  unfold coastPort
  cases p <;> dsimp only <;> split <;> rfl

/-- A port that stops leaves one that has stopped as it is. -/
theorem coastPort_keepsStop (r : Port) (s : State) : KeepsStop p s (coastPort r s) := by
  refine ⟨coastPort_record r s p, fun ⟨stopped, dark⟩ => ⟨?_, ?_⟩, fun _ _ k => reported_of_queue k (coastPort_queue r s)⟩
  · by_cases h : p = r
    · subst h
      obtain ⟨phase, -, -, -, -, -, down⟩ := stopped
      exact coastPort_stopped (by simp [phase]) down
    · rwa [coastPort_other h]
  · exact channelsDark_of_lasers (channelsDark_darkChannels dark r) (coastPort_lasers r s)

theorem coastBoth_keepsStop (s : State) : KeepsStop p s (coastBoth s) := (coastPort_keepsStop .b _).after (coastPort_keepsStop .a s)

theorem failQual_keepsStop (counted : Bool) (s : State) : KeepsStop p s (failQual counted s) := by
  have ended : KeepsStop p s (qualEnded counted s) := .of_eff (Eff.set_cart (Eff.refl [.cart] s) rfl)
  have reported : KeepsStop p s (qualReported counted s) :=
    (report_keepsStop _ _ _ _).after (.after (.of_eff (dropCalJobs_eff _)) ((coastBoth_keepsStop _).after ended))
  rcases failQual_cases counted s with h | h <;> rw [h]
  · exact .after (.of_eff (startRetry_eff _)) reported
  · exact reported

theorem portFailsQual_keepsStop (s : State) : KeepsStop p s (portFailsQual s) :=
  .ite ((failQual_keepsStop _ _).after (.of_eff (setStep_eff _ s))) (.refl p s)

theorem set_emit_keepsStop {e : Emit} (h : e.lasers = s.emit.lasers) : KeepsStop p s { s with emit := e } := by
  have port : portOf { s with emit := e } p = portOf s p := by cases p <;> rfl
  exact ⟨congrArg faultRecord port, fun ⟨stopped, dark⟩ => ⟨by rwa [port], channelsDark_of_lasers dark h⟩, fun _ _ => id⟩

theorem assignChannels_keepsStop (s : State) : KeepsStop p s (assignChannels s) :=
  .of_eff_ports (assignChannels_eff s) channelsDark_assignChannels fun _ _ k => reported_of_eff k (assignChannels_eff s) rfl

theorem takeover_keepsStop (stopped : Bool) (s : State) : KeepsStop p s (takeover stopped s) :=
  have taken : ∀ e : Emit, e.lasers = s.emit.lasers → KeepsStop p s (assignChannels { s with emit := e }) := fun _ h =>
    (assignChannels_keepsStop _).after (set_emit_keepsStop h)
  .ite (.ite ((report_keepsStop _ _ _ _).after (taken _ rfl)) (taken _ rfl)) (.refl p s)

/-! A mirror fault that is counted (12 R293). -/

/-- The mirror faults of a port within its window, with that of the moment. -/
def faultsNow (p : Port) (s : State) : List Nat :=
  s.keeper.ticks :: recent (fnat (live s) (mirrorFaultWindow p)) s.keeper.ticks (portOf s p).faults

/-- The fault of the moment is one too many. -/
def faultLatches (p : Port) (s : State) : Bool := fnat (live s) (mirrorFaultTries p) < (faultsNow p s).length

theorem faultLatches_iff : faultLatches p s = true ↔ fnat (live s) (mirrorFaultTries p) < (faultsNow p s).length := decide_eq_true_iff

/-- A port with the fault of the moment counted. -/
def faultCounted (p : Port) (s : State) (q : PortState) : PortState :=
  { q with faults := faultsNow p s, faultCount := satInc q.faultCount, restartDue := !faultLatches p s, restarting := false, down := true
           failedLatch := q.failedLatch || faultLatches p s }

/-- 12 R293: a fault is counted, and its latch reported. -/
theorem countMirrorFault_behind (p : Port) (s : State) : KeepsStop p (updPort s p (faultCounted p s)) (countMirrorFault p s) :=
  .ite (report_keepsStop _ _ _ _) (.refl _ _)

/-! How a port stops at a fault (12 R284, R292). -/

/-- A port told to coast by a fault. -/
def portDown (p : Port) (s : State) : State := updPort (coastPort p s) p fun q => { q with down := true }

/-- What a fault leaves at its port: it is counted at a restart or behind a port that has served, any other has failed in its phase. -/
def faultMark (p : Port) (phase : Nat) (s : State) (q : PortState) : PortState :=
  if (portOf s p).served || (portOf s p).restarting then faultCounted p s q else { q with failedPhase := phase }

theorem portDown_stopped (h : (portOf s p).phase ≠ .off) : PortStopped p (portDown p s) := by
  obtain ⟨-, raster, gate, driveW, driveP, driveSlow⟩ := coastPort_coasted p s
  refine ⟨?_, channelsDark_of_lasers (coastPort_channelsDark p s) (by rw [portDown, updPort_emit])⟩
  rw [portDown, portOf_updPort]
  exact ⟨coastPort_phase h, raster, gate, driveW, driveP, driveSlow, rfl⟩

theorem portDown_record (p : Port) (s : State) :
    faultRecord (portOf (portDown p s) p) = { faultRecord (portOf s p) with down := true } := by
  rw [portDown, portOf_updPort]
  exact congrArg (fun q : PortState => { q with down := true }) (coastPort_record p s p)

theorem reported_portDown {c j : Nat} (h : Reported c j s) (p : Port) : Reported c j (portDown p s) :=
  reported_of_queue h (by rw [portDown, updPort_beacon, coastPort_queue])

/-- Coasting moves neither the time nor the folios, so that a fault is counted as before. -/
theorem faultsNow_portDown (p : Port) (s : State) : faultsNow p (portDown p s) = faultsNow p s := by
  have coasting := coastPort_eff p s
  have faults : (portOf (portDown p s) p).faults = (portOf s p).faults :=
    (congrArg PortState.faults (portDown_record p s) :)
  unfold faultsNow live
  rw [faults, portDown, updPort_keeper, updPort_binding, coasting.keeper_eq rfl, coasting.binding_eq rfl]

theorem faultLatches_portDown (p : Port) (s : State) : faultLatches p (portDown p s) = faultLatches p s := by
  unfold faultLatches live
  rw [faultsNow_portDown, portDown, updPort_binding, (coastPort_eff p s).binding_eq rfl]

theorem faultCounted_portDown (p : Port) (s : State) : faultCounted p (portDown p s) = faultCounted p s := by
  unfold faultCounted
  rw [faultsNow_portDown, faultLatches_portDown]

/-- A fault at a restart or behind a port that has served is counted. -/
theorem portFault_counts (h : ((portOf s p).served || (portOf s p).restarting) = true) (n : Nat) :
    portFault p n s = takeover true (countMirrorFault p (portDown p s)) := if_pos h

/-- Any other loses its qualification a port (04 R85). -/
theorem portFault_fails (h : ((portOf s p).served || (portOf s p).restarting) = false) (n : Nat) :
    portFault p n s = takeover false (portFailsQual (updPort (portDown p s) p fun q => { q with failedPhase := n })) :=
  if_neg (by simp [h])

/-- Once the port is down and marked, the rest of a fault leaves it so. -/
theorem portFault_behind (p : Port) (n : Nat) (s : State) : KeepsStop p (updPort (portDown p s) p (faultMark p n s)) (portFault p n s) := by
  cases h : (portOf s p).served || (portOf s p).restarting
  · rw [portFault_fails h, show faultMark p n s = fun q => { q with failedPhase := n } from funext fun _ => if_neg (by simp [h])]
    exact (takeover_keepsStop _ _).after (portFailsQual_keepsStop _)
  · rw [portFault_counts h, show faultMark p n s = faultCounted p (portDown p s) from
      (funext fun _ => if_pos h).trans (faultCounted_portDown p s).symm]
    exact (takeover_keepsStop _ _).after (countMirrorFault_behind _ _)

theorem faultMark_stopped {q : PortState} (h : Stopped q) (n : Nat) : Stopped (faultMark p n s q) := by
  obtain ⟨phase, raster, gate, driveW, driveP, driveSlow, down⟩ := h
  unfold faultMark
  split
  · exact ⟨phase, raster, gate, driveW, driveP, driveSlow, rfl⟩
  · exact ⟨phase, raster, gate, driveW, driveP, driveSlow, down⟩

/-- 12 R292: a port that meets a fault has stopped. -/
theorem portFault_stopped (h : (portOf s p).phase ≠ .off) (n : Nat) : PortStopped p (portFault p n s) := by
  obtain ⟨stopped, dark⟩ := portDown_stopped h
  refine (portFault_behind p n s).stopped ⟨?_, channelsDark_of_lasers dark (by rw [updPort_emit])⟩
  rw [portOf_updPort]
  exact faultMark_stopped stopped n

theorem reported_portFault {c j : Nat} (h : Reported c j s) (p : Port) (n : Nat) : Reported c j (portFault p n s) :=
  (portFault_behind p n s).reported c j (reported_of_eq (reported_portDown h p) (updPort_beacon _ _ _))

/-- What a port remembers of a fault. -/
theorem portFault_record (p : Port) (n : Nat) (s : State) :
    faultRecord (portOf (portFault p n s) p) = { faultRecord (faultMark p n s (portOf s p)) with down := true } := by
  rw [(portFault_behind p n s).record, portOf_updPort]
  have down := portDown_record p s
  unfold faultMark
  split
  · exact congrArg (faultCounted p s) down
  · exact congrArg (fun q : PortState => { q with failedPhase := n }) down

theorem portFault_coilZ (p : Port) (n : Nat) (s : State) : (portOf (portFault p n s) p).coilZ = (portOf s p).coilZ := by
  refine (congrArg PortState.coilZ (portFault_record p n s)).trans ?_
  show (faultMark p n s (portOf s p)).coilZ = _
  unfold faultMark
  split <;> rfl

/-- 12 R279: the coils of a port that has met a fault are shorted. -/
theorem portFault_shorted (hv : s.supply.vin = true) (hp : (portOf s p).phase ≠ .off) (hz : (portOf s p).coilZ = 0) (n : Nat) :
    coilsShorted (portFault p n s) p = true :=
  (portFault_stopped hp n).port.coasted.shorted (by rw [(portFault_eff p n s).supply_eq rfl, hv]) ((portFault_coilZ p n s).trans hz)

/-! A start that fails (12 R284, R291). -/

/-- From s to t the start of a port has failed. -/
def StartFailed (p : Port) (s t : State) : Prop :=
  ((portOf s p).coilZ = 0 → coilsShorted t p = true) ∧ (portOf t p).phase = .coast ∧ (portOf t p).raster = false ∧
    (portOf t p).driveW = 0 ∧ gateOpen t p = false ∧ (portOf t p).down = true ∧ Reported evMirrorStartFailed (portNum p) t

theorem startFails_failed (hv : s.supply.vin = true) (hp : (portOf s p).phase ≠ .off) (n : Nat) : StartFailed p s (startFails p n s) := by
  have port := portOf_of_eff (report_eff evMirrorStartFailed n (portNum p) s) rfl rfl p
  rw [← port] at hp
  obtain ⟨⟨phase, raster, gate, driveW, -, -, down⟩, -⟩ := portFault_stopped hp n
  refine ⟨fun hz => ?_, phase, raster, driveW, gate, down, reported_portFault (report_reported _ _ _ _) p n⟩
  exact portFault_shorted (by rwa [report_supply]) hp (by rwa [port]) n

/-! The Check phase (12 R282). -/

/-- The Check phase has begun at a port of s. -/
def startBegun (p : Port) (s : State) : State :=
  updPort s p fun q =>
    { q with phase := .check, mirrorFields := live s, fEst := estimateHz s p, fRing := 0, fLock := 0, kicks := 0, coilZ := 0
             restartDue := false, restarting := q.restartDue }

/-- 12 R295: a section without a scanner fails at once. -/
theorem beginStart_fails (h : calFNom s.emit.cal p = 0) : beginStart p s = startFails p 1 (startBegun p s) :=
  if_pos (by rw [updPort_emit, h])

/-- With a scanner the start begins, and the clamp of its amplitudes is reported. -/
theorem beginStart_begins (h : calFNom s.emit.cal p ≠ 0) : Eff [.beacon] (startBegun p s) (beginStart p s) := by
  have begins : beginStart p s = reportClamp (itemStore (startBegun p s) (.amp p)) p (startBegun p s) :=
    if_neg (by rw [updPort_emit]; exact h)
  rw [begins]
  exact reportClamp_eff _ _ _

theorem portOf_beginStart (h : calFNom s.emit.cal p ≠ 0) (r : Port) : portOf (beginStart p s) r = portOf (startBegun p s) r :=
  portOf_of_eff (beginStart_begins h) rfl rfl r

theorem beginStart_other (h : calFNom s.emit.cal p ≠ 0) : portOf (beginStart p s) (otherPort p) = portOf s (otherPort p) := by
  rw [portOf_beginStart h, startBegun, portOf_updPort_other _ (otherPort_ne p)]

theorem beginStart_cart (h : calFNom s.emit.cal p ≠ 0) : (beginStart p s).cart = s.cart := by
  rw [(beginStart_begins h).cart_eq rfl, startBegun, updPort_cart]

/-- A start that fails at once has failed from where it began. -/
theorem startBegun_failed (hv : s.supply.vin = true) (p : Port) : StartFailed p s (startFails p 1 (startBegun p s)) := by
  have port : portOf (startBegun p s) p = _ := portOf_updPort s p _
  have failed := startFails_failed (s := startBegun p s) (p := p) (by rwa [startBegun, updPort_supply]) (by simp [port]) 1
  obtain ⟨shorted, rest⟩ := failed
  exact ⟨fun _ => shorted (by rw [port]), rest⟩

theorem exec_mirrorStart (hs : sysRuns s = true) (hm : mayStart s p = true)
    (h : ((s.cart.step = .mirror ∨ s.cart.step = .photodiodes ∨ s.cart.qualified = true) ∧ (portOf s p).served = false ∧
      (portOf s p).failedPhase = 0) ∨ (s.cart.qualified = true ∧ (portOf s p).restartDue = true)) :
    exec (.mirrorStart p) s = .next (beginStart p s) := by
  refine guarded_of ?_ _ _
  simp only [hs, hm, Bool.and_eq_true, Bool.or_eq_true, Bool.not_eq_true', beq_iff_eq, decide_eq_true_eq, true_and]
  simpa only [or_assoc, and_assoc] using h

theorem running_of_sysRuns (h : sysRuns s = true) : running s = true := by
  simp only [sysRuns, Bool.and_eq_true] at h
  obtain ⟨⟨runs, -⟩, -⟩ := h
  exact runs

/-! The kicks (12 R282). -/

theorem portOf_beginKick (p : Port) (j : Nat) (s : State) :
    portOf (beginKick p j s) p =
      { portOf s p with phase := .kick, kicks := j, fKick := kickHz s p j, dco := 8192 * (portOf s p).fEst, driveW := kickWidth s p
                        driveP := 0, driveSlow := 0 } := portOf_updPort _ _ _

theorem commonOk_iff {v : Nat} : commonOk v = true ↔ 300 ≤ v ∧ v ≤ 1500 := by simp [commonOk]

theorem exec_mirrorCheckDone (hs : sysRuns s = true) (hp : (portOf s p).phase = .check) (mv : List Nat) :
    exec (.mirrorCheckDone p mv) s = .next (if mv.all commonOk && s.supply.vmir then beginKick p 1 s else startFails p 1 s) :=
  guarded_of (by simp [hs, hp]) _ _

/-- 12 R282: with every sense input in its range and `VMIR` present the first kick begins. -/
theorem mirrorCheckDone_passes {mv : List Nat} (hs : sysRuns s = true) (hp : (portOf s p).phase = .check)
    (h : ∀ v ∈ mv, 300 ≤ v ∧ v ≤ 1500) (hm : s.supply.vmir = true) :
    exec (.mirrorCheckDone p mv) s = .next (beginKick p 1 s) := by
  have inside : mv.all commonOk = true := List.all_eq_true.mpr fun v hv => commonOk_iff.mpr (h v hv)
  rw [exec_mirrorCheckDone hs hp, inside, hm]
  rfl

theorem mirrorCheckDone_fails {mv : List Nat} (hs : sysRuns s = true) (hp : (portOf s p).phase = .check)
    (h : (∃ v ∈ mv, v < 300 ∨ 1500 < v) ∨ s.supply.vmir = false) :
    exec (.mirrorCheckDone p mv) s = .next (startFails p 1 s) := by
  refine (exec_mirrorCheckDone hs hp mv).trans (congrArg _ (if_neg fun k => ?_))
  obtain ⟨inside, powered⟩ := Bool.and_eq_true_iff.mp k
  rcases h with ⟨v, hv, out⟩ | h
  · obtain ⟨low, high⟩ := commonOk_iff.mp (List.all_eq_true.mp inside v hv)
    omega
  · simp [h] at powered

/-! The ring (12 R282, R284). -/

section

variable {f counts : Nat} (hr : running s = true) (hp : (portOf s p).phase = .ring)

include hr hp

theorem exec_ringDone (f counts : Nat) :
    exec (.ringDone p f counts) s = .next
      (if ringPasses s p f (ampOf s p counts) then beginCapture p f (ampOf s p counts) s
      else if (portOf s p).kicks < fnat (portOf s p).mirrorFields (mirrorSearchTries p) then beginKick p ((portOf s p).kicks + 1) s
      else startFails p 3 s) :=
  guarded_of (by simp [hr, hp]) _ _

theorem ringDone_captures (h : ringPasses s p f (ampOf s p counts) = true) :
    exec (.ringDone p f counts) s = .next (beginCapture p f (ampOf s p counts) s) := by
  rw [exec_ringDone hr hp, if_pos h]

theorem ringDone_kicks (h : ringPasses s p f (ampOf s p counts) = false)
    (hk : (portOf s p).kicks < fnat (portOf s p).mirrorFields (mirrorSearchTries p)) :
    exec (.ringDone p f counts) s = .next (beginKick p ((portOf s p).kicks + 1) s) := by
  rw [exec_ringDone hr hp, if_neg (by simp [h]), if_pos hk]

theorem ringDone_fails (h : ringPasses s p f (ampOf s p counts) = false)
    (hk : fnat (portOf s p).mirrorFields (mirrorSearchTries p) ≤ (portOf s p).kicks) :
    exec (.ringDone p f counts) s = .next (startFails p 3 s) := by
  rw [exec_ringDone hr hp, if_neg (by simp [h]), if_neg (Nat.not_lt.mpr hk)]

end

theorem portOf_beginCapture (p : Port) (f amp : Nat) (s : State) :
    portOf (beginCapture p f amp s) p =
      { portOf s p with phase := .capture, fRing := f, dco := 8192 * f, driveW := kickWidth s p, amp } := portOf_updPort _ _ _

/-! Lock (12 R283). -/

/-- A port that has locked at a frequency. -/
def lockedAt (f : Nat) (q : PortState) : PortState := { q with phase := .locked, failedPhase := 0, fLock := f }

/-- The port has locked, and a qualification that waited for it goes on to its photodiodes. -/
def portLocks (p : Port) (f : Nat) (s : State) : State :=
  let t := updPort s p (lockedAt f)
  if t.cart.step == .mirror then setStep .photodiodes t else t

theorem portOf_portLocks (p : Port) (f : Nat) (s : State) : portOf (portLocks p f s) p = lockedAt f (portOf s p) := by
  have stepped : Eff [.cart] (updPort s p (lockedAt f)) (portLocks p f s) :=
    Eff.ite (fun _ => setStep_eff _ _) fun _ => Eff.refl _ _
  rw [portOf_of_eff stepped rfl rfl, portOf_updPort]

theorem portLocks_step (h : s.cart.step = .mirror) (p : Port) (f : Nat) : (portLocks p f s).cart.step = .photodiodes := by
  unfold portLocks
  dsimp only
  rw [if_pos (by rw [updPort_cart, h]; rfl)]
  rfl

theorem exec_portLocked {f : Nat} {segs : List LockSegment} (hr : running s = true) (hp : (portOf s p).phase = .capture)
    (h : hasLocked s p f segs = true) :
    exec (.portLocked ⟨p, f, segs⟩) s = .next
      (if (portOf s p).wheel.clearing then portLocks p f s else startRaster p (portLocks p f s)) := by
  have clearing : (portOf (portLocks p f s) p).wheel.clearing = (portOf s p).wheel.clearing := by rw [portOf_portLocks]; rfl
  rw [← clearing]
  exact guarded_of (by simp [hr, hp, h]) _ _

theorem exec_portLocked_waits {f : Nat} {segs : List LockSegment} (h : hasLocked s p f segs = false) :
    exec (.portLocked ⟨p, f, segs⟩) s = .next s :=
  guarded_not (by simp [h]) _ _

/-- A raster that starts leaves its port in its phase. -/
theorem startRaster_phase (h : slowRateOk (portOf s p).vertFields p (lockedHz (portOf s p)) = true) :
    (portOf (startRaster p s) p).phase = (portOf s p).phase := by
  have latched : ∀ u : State, (portOf (latchSteps p u) p).phase = (portOf u p).phase := fun u => by
    rw [portOf_latchSteps]
    exact portOf_latchChosen_keeps PortState.phase (fun _ _ _ _ => rfl) (fun _ _ _ => rfl) p u
  unfold startRaster
  dsimp only
  rw [if_neg (by simp [h])]
  refine ite_pred (P := fun u => (portOf u p).phase = (portOf s p).phase) ((latched _).trans ?_) ?_
  all_goals
    refine ite_pred (P := fun u => (portOf u p).phase = (portOf s p).phase) ?_ ?_
    · rw [portOf_set_beacon, portOf_updPort]
    · rw [portOf_updPort]

/-- 10 R232, R233: a locked port whose ring is clear starts its raster at the turning point, behind a closed gate. -/
theorem portLocked_starts {f : Nat} {segs : List LockSegment} (hr : running s = true) (hp : (portOf s p).phase = .capture)
    (h : hasLocked s p f segs = true) (hc : (portOf s p).wheel.clearing = false)
    (rate : slowRateOk (portOf s p).vertFields p (lockedHz { portOf s p with fLock := f }) = true) :
    ∃ t, exec (.portLocked ⟨p, f, segs⟩) s = .next t ∧ (portOf t p).phase = .locked ∧ (portOf t p).raster = true ∧
      (portOf t p).frames = 0 ∧ (portOf t p).wheel.position = 0 ∧ gateOpen t p = false := by
  have port := portOf_portLocks p f s
  have inRange : slowRateOk (portOf (portLocks p f s) p).vertFields p (lockedHz (portOf (portLocks p f s) p)) = true := by
    rw [port]
    exact rate
  obtain ⟨raster, frames, wheel⟩ : _ ∧ _ ∧ _ := by simpa only [rasterPlace, Prod.mk.injEq] using startRaster_starts inRange
  refine ⟨_, exec_portLocked hr hp h, ?_⟩
  rw [if_neg (by simp [hc]), gateOpen, wheel]
  exact ⟨(startRaster_phase inRange).trans (congrArg PortState.phase port), raster, frames, rfl, rfl⟩

theorem phase_ne_off_of_starting (h : starting (portOf s p) = true) : (portOf s p).phase ≠ .off := by
  intro k
  simp [starting, phaseNumber, k] at h

theorem exec_mirrorStartTimeout (hr : running s = true) (hp : starting (portOf s p) = true) :
    exec (.mirrorStartTimeout p) s = .next (startFails p 5 s) :=
  guarded_of (by simp [hr, hp]) _ _

/-- Settles O49: phase by phase. That the slow-axis rate is tested at the locked frequency is the model's choice (log 74). -/
theorem mirrorStartsGoPhaseByPhase : Obligations.MirrorStartsGoPhaseByPhase := by
  refine ⟨fun p s hs hm h => ⟨fun hf => ?_, fun hf => ?_⟩, fun p mv s hs hp => ⟨fun h hm => ?_, fun h => ?_⟩,
    fun p s hr hp => guarded_of (by simp [hr, hp]) _ _, fun p f counts s hr hp => ⟨fun h => ?_, fun h hk => ?_, fun h hk => ?_⟩,
    fun p f segs s hr hp => ⟨exec_portLocked_waits, fun h hc => ?_, portLocked_starts hr hp⟩, fun p s hr hp => ?_⟩
  · refine ⟨_, exec_mirrorStart hs hm h, ?_, ?_, ?_, ?_, beginStart_cart hf, beginStart_other hf⟩
    all_goals rw [portOf_beginStart hf, startBegun, portOf_updPort]
  · refine ⟨_, exec_mirrorStart hs hm h, ?_⟩
    rw [beginStart_fails hf]
    exact startBegun_failed (vin_of_running (running_of_sysRuns hs)) p
  · refine ⟨_, mirrorCheckDone_passes hs hp h hm, ?_⟩
    rw [portOf_beginKick]
    exact ⟨rfl, rfl, rfl, rfl⟩
  · exact ⟨_, mirrorCheckDone_fails hs hp h, startFails_failed (vin_of_running (running_of_sysRuns hs)) (by simp [hp]) 1⟩
  · refine ⟨_, ringDone_captures hr hp h, ?_⟩
    rw [portOf_beginCapture]
    exact ⟨rfl, rfl, rfl, rfl⟩
  · refine ⟨_, ringDone_kicks hr hp h hk, ?_⟩
    rw [portOf_beginKick]
    exact ⟨rfl, rfl, rfl⟩
  · exact ⟨_, ringDone_fails hr hp h hk, startFails_failed (vin_of_running hr) (by simp [hp]) 3⟩
  · refine ⟨_, exec_portLocked hr hp h, ?_⟩
    rw [if_pos hc]
    exact ⟨portOf_portLocks p f s, fun hstep => portLocks_step hstep p f⟩
  · exact ⟨_, exec_mirrorStartTimeout hr hp, startFails_failed (vin_of_running hr) (phase_ne_off_of_starting hp) 5⟩

/-! Faults (12 R292, R293). -/

theorem faultMark_of_eff {l : List Part} (h : Eff l s t) (hl : [Part.keeper, .binding, .portA, .portB].all (!l.contains ·) = true)
    (n : Nat) : faultMark p n t = faultMark p n s := by
  simp only [List.all_cons, List.all_nil, Bool.and_true, Bool.and_eq_true, Bool.not_eq_true'] at hl
  obtain ⟨keeper, binding, portA, portB⟩ := hl
  unfold faultMark faultCounted faultLatches faultsNow live
  rw [portOf_of_eff h portA portB, h.keeper_eq keeper, h.binding_eq binding]

/-- A fault that is counted leaves the cartridge alone. -/
theorem portFault_cart (h : ((portOf s p).served || (portOf s p).restarting) = true) (n : Nat) : (portFault p n s).cart = s.cart := by
  rw [portFault_counts h, (takeover_eff _ _).cart_eq rfl, (countMirrorFault_eff _ _).cart_eq rfl, portDown, updPort_cart,
    (coastPort_eff _ _).cart_eq rfl]

/-- The phase in which a port that meets a fault fails: that of its start, 4 for a locked one (log 76). -/
def faultPhase (q : PortState) : Nat := if starting q = true then phaseNumber q.phase else 4

/-- A port that has met a fault, reported, has stopped. -/
def faultStops (p : Port) (f : MirrorFault) (s : State) : State :=
  let t := report (faultEvent f) (phaseNumber (portOf s p).phase) (portNum p) s
  if starting (portOf s p) then startFails p (phaseNumber (portOf s p).phase) t else portFault p 4 t

/-- 12 R292: the bridges of a port whose coils have drawn too much open for 10 schedule frames. -/
def bridgesOpened (p : Port) (f : MirrorFault) (s : State) : State :=
  if f == .coilOvercurrent then updPort s p fun q => { q with coilZ := 10 } else s

/-- At a start or behind it a fault stops its port alike, behind its reports. -/
theorem faultStops_eq (p : Port) (f : MirrorFault) (s : State) :
    ∃ w, Eff [.beacon] s w ∧ Reported (faultEvent f) (portNum p) w ∧ faultStops p f s = portFault p (faultPhase (portOf s p)) w := by
  have reported := report_eff (faultEvent f) (phaseNumber (portOf s p).phase) (portNum p) s
  unfold faultStops faultPhase
  dsimp only
  split
  · exact ⟨_, reported.trans (report_eff _ _ _ _), reported_report (report_reported _ _ _ _) _ _ _, rfl⟩
  · exact ⟨_, reported, report_reported _ _ _ _, rfl⟩

theorem portOf_bridgesOpened (p : Port) (f : MirrorFault) (s : State) :
    portOf (bridgesOpened p f s) p = { portOf s p with coilZ := if f = .coilOvercurrent then 10 else (portOf s p).coilZ } := by
  unfold bridgesOpened
  by_cases h : f = .coilOvercurrent
  · rw [if_pos (by simp [h]), portOf_updPort, if_pos h]
  · rw [if_neg (by simp [h]), if_neg h]

theorem bridgesOpened_eff (p : Port) (f : MirrorFault) (s : State) : Eff [.portA, .portB] s (bridgesOpened p f s) :=
  Eff.ite (fun _ => updPort_eff _ _ _ (by exact fun _ => id)) fun _ => Eff.refl _ _

theorem bridgesOpened_stopped (h : PortStopped p s) (f : MirrorFault) : PortStopped p (bridgesOpened p f s) := by
  obtain ⟨stopped, dark⟩ := h
  refine ⟨?_, channelsDark_of_lasers dark (by rw [(bridgesOpened_eff p f s).emit_eq rfl])⟩
  rw [portOf_bridgesOpened]
  exact stopped

theorem exec_mirrorFault {f : MirrorFault} (hr : running s = true)
    (hl : portIsLocked (portOf s p) = true ∨ starting (portOf s p) = true) (hf : faultSeen s p f = true) :
    exec (.mirrorFault p f) s = .next (bridgesOpened p f (faultStops p f s)) :=
  guarded_of (by simpa [hr, hf] using hl) _ _

theorem phase_ne_off_of_faultWatched (h : portIsLocked (portOf s p) = true ∨ starting (portOf s p) = true) : (portOf s p).phase ≠ .off := by
  rcases h with h | h
  · intro k
    simp [portIsLocked, k] at h
  · exact phase_ne_off_of_starting h

/-- 12 R292: what a fault leaves of its port. -/
theorem mirrorFault_stops {f : MirrorFault} (hr : running s = true)
    (hl : portIsLocked (portOf s p) = true ∨ starting (portOf s p) = true) (hf : faultSeen s p f = true) :
    ∃ t, exec (.mirrorFault p f) s = .next t ∧ Reported (faultEvent f) (portNum p) t ∧ PortStopped p t ∧ t.supply = s.supply ∧
      faultRecord (portOf t p) =
        { faultRecord (faultMark p (faultPhase (portOf s p)) s (portOf s p)) with
          coilZ := if f = .coilOvercurrent then 10 else (portOf s p).coilZ, down := true } ∧
      (((portOf s p).served || (portOf s p).restarting) = true → t.cart = s.cart) := by
  obtain ⟨w, behind, reported, stops⟩ := faultStops_eq p f s
  have port := portOf_of_eff behind rfl rfl p
  have opened := bridgesOpened_eff p f (faultStops p f s)
  rw [stops] at opened
  refine ⟨_, exec_mirrorFault hr hl hf, ?_⟩
  rw [stops]
  refine ⟨reported_of_eff (reported_portFault reported p _) opened rfl,
    bridgesOpened_stopped (portFault_stopped (by rw [port]; exact phase_ne_off_of_faultWatched hl) _) f, ?_, ?_, fun h => ?_⟩
  · rw [opened.supply_eq rfl, (portFault_eff _ _ _).supply_eq rfl, behind.supply_eq rfl]
  · have record := portFault_record p (faultPhase (portOf s p)) w
    rw [faultMark_of_eff behind rfl, port] at record
    rw [portOf_bridgesOpened, portFault_coilZ, port]
    exact congrArg (fun q : PortState => { q with coilZ := if f = MirrorFault.coilOvercurrent then 10 else (portOf s p).coilZ }) record
  · rw [opened.cart_eq rfl, portFault_cart (by rwa [port]), behind.cart_eq rfl]

/-! Restarts (12 R293). -/

/-- A port whose start is under way restarts. -/
def restartMarked (p : Port) (s : State) : State :=
  updPort s p fun q => if q.phase == .check then { q with restarting := true } else q

theorem exec_portRestart (hs : sysRuns s = true) (hd : (portOf s p).restartDue = true) (hq : s.cart.qualified = true)
    (hm : mayStart s p = true) : exec (.portRestart p) s = .next (restartMarked p (beginStart p s)) :=
  guarded_of (by simp [hs, hd, hq, hm]) _ _

theorem portOf_restartMarked_check (h : (portOf s p).phase = .check) :
    portOf (restartMarked p s) p = { portOf s p with restarting := true } := by
  rw [restartMarked, portOf_updPort, if_pos (by simp [h])]

theorem portOf_restartMarked_coast (h : (portOf s p).phase = .coast) : portOf (restartMarked p s) p = portOf s p := by
  rw [restartMarked, portOf_updPort, if_neg (by simp [h])]

/-- 12 R293: a restart begins with the check. -/
theorem restart_begins (h : calFNom s.emit.cal p ≠ 0) :
    (portOf (restartMarked p (beginStart p s)) p).phase = .check ∧ (portOf (restartMarked p (beginStart p s)) p).restarting = true ∧
      (portOf (restartMarked p (beginStart p s)) p).restartDue = false ∧ (restartMarked p (beginStart p s)).cart = s.cart ∧
      portOf (restartMarked p (beginStart p s)) (otherPort p) = portOf s (otherPort p) ∧
      (restartMarked p (beginStart p s)).emit = s.emit := by
  have begun : portOf (beginStart p s) p = _ := (portOf_beginStart h p).trans (portOf_updPort s p _)
  rw [portOf_restartMarked_check (by rw [begun])]
  refine ⟨congrArg PortState.phase begun, rfl, congrArg PortState.restartDue begun, ?_, ?_, ?_⟩
  · rw [restartMarked, updPort_cart, beginStart_cart h]
  · rw [restartMarked, portOf_updPort_other _ (otherPort_ne p), beginStart_other h]
  · rw [restartMarked, updPort_emit, (beginStart_begins h).emit_eq rfl, startBegun, updPort_emit]

/-- Settles O50: the fault, and the restart. That a port which does not serve yet fails in its phase, a locked one in 4, is the model's
choice (log 76), and so is that the bridges stay open for ten schedule frames (logs 2 and 77). -/
theorem mirrorFaultsStopThePort : Obligations.MirrorFaultsStopThePort := by
  refine ⟨fun p f s hr hl hf => ?_, fun p s hs hd hq hm => ⟨fun h => ⟨_, exec_portRestart hs hd hq hm, restart_begins h⟩, fun h => ?_⟩⟩
  · obtain ⟨t, ht, reported, ⟨stopped, dark⟩, supply, record, cart⟩ := mirrorFault_stops hr hl hf
    have shorted := stopped.coasted.shorted (supply ▸ vin_of_running hr)
    obtain ⟨phase, raster, gate, driveW, -, -, down⟩ := stopped
    have coilZ := congrArg PortState.coilZ record
    refine ⟨t, ht, reported, phase, raster, gate, driveW, down, dark, fun ho => coilZ.trans (if_pos ho),
      fun ho hz => shorted (coilZ.trans ((if_neg ho).trans hz)), fun h => ?_, fun hserved hrestarting => ?_⟩
    · have counted : ((portOf s p).served || (portOf s p).restarting) = true := by simpa using h
      rw [faultMark, if_pos counted] at record
      have restartDue : (portOf t p).restartDue = !faultLatches p s := congrArg PortState.restartDue record
      have failedLatch : (portOf t p).failedLatch = ((portOf s p).failedLatch || faultLatches p s) :=
        congrArg PortState.failedLatch record
      refine ⟨congrArg PortState.faultCount record, cart counted, fun few => ?_, fun many => ?_⟩
      · have restarts : faultLatches p s = false := Bool.eq_false_iff.mpr fun k => Nat.not_lt.mpr few (faultLatches_iff.mp k)
        rw [restartDue, failedLatch, restarts]
        exact ⟨rfl, Bool.or_false _⟩
      · rw [restartDue, failedLatch, faultLatches_iff.mpr many]
        exact ⟨rfl, Bool.or_true _⟩
    · rw [faultMark, if_neg (by simp [hserved, hrestarting])] at record
      exact ⟨(congrArg PortState.faultCount record :), congrArg PortState.failedPhase record⟩
  · obtain ⟨-, phase, -, -, -, -, reported⟩ := startBegun_failed (vin_of_running (running_of_sysRuns hs)) p
    rw [← beginStart_fails h] at phase reported
    refine ⟨_, exec_portRestart hs hd hq hm, ?_, reported_of_eq reported (updPort_beacon _ _ _)⟩
    rw [portOf_restartMarked_coast phase, phase]

end Sys2Proof.Proofs
end

section
/-! SUPPORT. Steps: a step runs the command at the front of the queue, answers a next state, and keeps the event queue (17 R402); O1, O2, O4. -/

namespace Sys2Proof.Proofs

open Sys2Proof Machine Laws

variable {s t : State} {c : Instr}

/-! Steps. -/

/-- A step with a command waiting runs it on the state with the queue's rest. -/
theorem step_front {rest : List Instr} (h : s.pending = c :: rest) : step s = exec c { s with pending := rest } := by
  rw [step, h]

/-- A step with no command waiting idles. -/
theorem step_idle (h : s.pending = []) : step s = .next s := by
  rw [step, h]

/-- Settles O1, by the two shapes of the queue. -/
theorem stepTakesTheFrontCommand : Obligations.StepTakesTheFrontCommand :=
  ⟨fun _ _ _ => step_front, fun _ => step_idle⟩

/-- Every command answers a next state, so every step does. -/
theorem stepSafe (s : State) : StepSafe s := by
  obtain ⟨t, _, answered, _⟩ := step_eff s
  exact ⟨t, answered⟩

/-- Settles O2, by induction on the number of steps. -/
theorem everyRunIsSafe : Obligations.EveryRunIsSafe := by
  intro n
  induction n with
  | zero => exact fun _ => trivial
  | succ n ih =>
    intro s
    obtain ⟨t, answered⟩ := stepSafe s
    exact ⟨t, answered, ih t⟩

/-! What every command keeps, every step keeps. -/

/-- The effect of a step, from the state with the queue's rest. -/
theorem eff_of_step (h : step s = .next t) : ∃ l, Eff l { s with pending := s.pending.tail } t := by
  obtain ⟨u, l, answered, effect⟩ := step_eff s
  obtain rfl := Host.Outcome.next.inj (answered.symm.trans h)
  exact ⟨l, effect⟩

/-- Settles O4, by the effect of a step. -/
theorem everyStepKeepsTheEventQueue : Obligations.EveryStepKeepsTheEventQueue := by
  intro s t queued stepped
  obtain ⟨_, effect⟩ := eff_of_step stepped
  exact effect.queue queued

/-- What holds of the state before a command and of its effect holds of the state that the command answers. -/
theorem pred_of_guarded {P : State → Prop} {b : Bool} {u : State} (h : guarded b s u = .next t) (before : P s) (effect : P u) : P t := by
  obtain rfl := Host.Outcome.next.inj h
  exact ite_pred effect before

end Sys2Proof.Proofs
end

section
/-! SUPPORT. The budget yard (15 R361 to R371): what an allocation shares out, what a tick counts and grants, and O56. -/

namespace Sys2Proof.Proofs

open Sys2Proof Machine Laws

variable {s t : State} {trig : Bool}

/-! The allocation never shares out more than the budget (15 R364, R365). -/

/-- Each class takes no more than what is left, Work on top of its floor. -/
theorem allocate_cons (st : Store) (demands : List Nat) (rw k : Nat) (rest : List Nat) (a : Nat) (ts : List Nat) :
    ∃ share ≤ a, allocate st demands rw (k :: rest) a ts =
      allocate st demands rw rest (a - share) (ts.set k (if k = 1 then rw + share else share)) := by
  refine ⟨_, ?_, rfl⟩
  split
  · exact Nat.min_le_right _ _
  · split
    · split
      · exact le_refl a
      · exact Nat.min_le_right _ _
    · split
      · split
        · exact le_refl a
        · assumption
      · exact Nat.zero_le a

/-- What the classes have of the budget without Work's floor. -/
def sharedOut (rw : Nat) (ts : List Nat) : Nat := nth ts 0 + (nth ts 1 - rw) + nth ts 2

/-- A class that takes a share adds no more than that, whatever it had before. -/
theorem sharedOut_set {ts : List Nat} (h : ts.length = 3) (rw k share : Nat) :
    sharedOut rw (ts.set k (if k = 1 then rw + share else share)) ≤ sharedOut rw ts + share := by
  obtain ⟨g, w, n, rfl⟩ := List.length_eq_three.mp h
  match k with
  | 0 => simp [sharedOut, nth]; omega
  | 1 => simp [sharedOut, nth]; omega
  | 2 => simp [sharedOut, nth]
  | k + 3 => simp [sharedOut, nth]

theorem allocate_sharesOut (st : Store) (demands : List Nat) (rw : Nat) (order : List Nat) :
    ∀ (a : Nat) (ts : List Nat), ts.length = 3 → (allocate st demands rw order a ts).length = 3 ∧
      sharedOut rw (allocate st demands rw order a ts) ≤ sharedOut rw ts + a := by
  induction order with
  | nil => exact fun a ts h => ⟨h, Nat.le_add_right _ a⟩
  | cons k rest ih =>
    intro a ts h
    obtain ⟨share, fits, eq⟩ := allocate_cons st demands rw k rest a ts
    obtain ⟨length, shared⟩ := ih (a - share) (ts.set k (if k = 1 then rw + share else share)) (by rwa [List.length_set])
    have taken := sharedOut_set h rw k share
    rw [eq]
    exact ⟨length, by omega⟩

theorem sum_le_sharedOut {ts : List Nat} (h : ts.length = 3) (rw : Nat) : ts.sum ≤ sharedOut rw ts + rw := by
  obtain ⟨g, w, n, rfl⟩ := List.length_eq_three.mp h
  simp [sharedOut, nth]
  omega

/-- The targets are an allocation of what Work's floor leaves of the budget. -/
theorem targetsOf_allocates (st : Store) (present : List Bool) (order demands : List Nat) (b : Nat) :
    ∃ rw ≤ b, ∃ classes, targetsOf st present order demands b = allocate st demands rw classes (b - rw) [0, 0, 0] := by
  refine ⟨_, ?_, _, rfl⟩
  split
  · exact Nat.min_le_left _ _
  · exact Nat.zero_le b

/-- 15 R364, R365: the targets of the three classes sum to no more than the budget. -/
theorem targetsOf_sum_le (st : Store) (present : List Bool) (order demands : List Nat) (b : Nat) :
    (targetsOf st present order demands b).length = 3 ∧ (targetsOf st present order demands b).sum ≤ b := by
  obtain ⟨rw, floor, classes, eq⟩ := targetsOf_allocates st present order demands b
  obtain ⟨length, shared⟩ := allocate_sharesOut st demands rw classes (b - rw) [0, 0, 0] rfl
  have start : sharedOut rw [0, 0, 0] = 0 := by simp [sharedOut, nth]
  have total := sum_le_sharedOut length rw
  rw [eq]
  exact ⟨length, by omega⟩

/-! The grants follow the targets (15 R366). -/

theorem grantStep_le (slew target grant : Nat) : grantStep slew target grant ≤ target := by
  unfold grantStep
  split
  · exact le_refl target
  · exact Nat.min_le_left _ _

/-- A decrease is granted in full. -/
theorem grantStep_down {target grant : Nat} (h : target ≤ grant) (slew : Nat) : grantStep slew target grant = target := if_pos h

/-- An increase is limited to the slew. -/
theorem grantStep_up {target grant : Nat} (h : grant < target) (slew : Nat) :
    grantStep slew target grant = min target (grant + slew) := if_neg (by omega)

theorem grantStep_le_slew (slew target grant : Nat) : grantStep slew target grant ≤ grant + slew := by
  rcases Nat.lt_or_ge grant target with h | h
  · rw [grantStep_up h]
    exact Nat.min_le_right _ _
  · rw [grantStep_down h]
    omega

theorem sum_zipWith_le {f : Nat → Nat → Nat} (hf : ∀ x y, f x y ≤ x) :
    ∀ xs ys : List Nat, (List.zipWith f xs ys).sum ≤ xs.sum
  | [], _ => by simp
  | _ :: _, [] => by simp
  | x :: xs, y :: ys => by
    have head := hf x y
    have tail := sum_zipWith_le hf xs ys
    simp only [List.zipWith_cons_cons, List.sum_cons]
    omega

theorem nth_zipWith {xs ys : List Nat} {k : Nat} (hx : k < xs.length) (hy : k < ys.length) (f : Nat → Nat → Nat) :
    nth (List.zipWith f xs ys) k = f (nth xs k) (nth ys k) := by
  simp [nth, hx, hy]

/-! An allocating tick. -/

/-- The targets of a tick. -/
def tickTargets (s : State) : List Nat :=
  targetsOf (live s) (presentOf s) (classOrder (if s.pins.trig then fnat (live s) budgetTrigOrder else fnat (live s) budgetIdleOrder))
    (demandsOf s) (budgetOf s.pack.limit s.engine.headroom (budgetCapOf s.binding.live)).1

/-- What an allocating tick makes of the yard's budget, targets and grants. -/
theorem allocateTick_yard (s : State) :
    (allocateTick s).yard.budget = min s.pack.limit (min s.engine.headroom (budgetCapOf s.binding.live)) ∧
      (allocateTick s).yard.targets = tickTargets s ∧
      (allocateTick s).yard.grants = List.zipWith (grantStep (fnat (live s) budgetSlew)) (tickTargets s) s.yard.grants := by
  unfold allocateTick
  dsimp only
  split
  · rw [report_yard]
    exact ⟨rfl, rfl, rfl⟩
  · exact ⟨rfl, rfl, rfl⟩

theorem allocateTick_within (s : State) : (allocateTick s).yard.grants.sum ≤ (allocateTick s).yard.budget := by
  obtain ⟨budget, -, grants⟩ := allocateTick_yard s
  rw [budget, grants]
  exact (sum_zipWith_le (grantStep_le _) _ _).trans (targetsOf_sum_le _ _ _ _ _).2

/-! A tick of the yard. -/

/-- A tick counted, and the budget shared out where the part serves. -/
def allotted (trig : Bool) (s : State) : State := if serving s then allocateTick (countTick trig s) else countTick trig s

theorem allotted_eff (trig : Bool) (s : State) : Eff [.yard, .beacon] (countTick trig s) (allotted trig s) :=
  Eff.ite (fun _ => allocateTick_eff _) fun _ => Eff.refl _ _

theorem swap_ticks (s : State) : (swap s).keeper.ticks = s.keeper.ticks := by
  unfold swap
  split
  · rfl
  · dsimp only
    rw [(closeGather_eff _ _ _).keeper_eq rfl, (preloadRound_eff _).keeper_eq rfl, (swapStandby_eff _).keeper_eq rfl,
      (swapRetries_eff _ _).keeper_eq rfl, (swapCanvas_eff _ _).keeper_eq rfl, (followVertical_eff _ _).keeper_eq rfl,
      (assignChannels_eff _).keeper_eq rfl, (showAll_eff _ _).keeper_eq rfl, (holdOther_eff _).keeper_eq rfl,
      (swapLampOnly_eff _).keeper_eq rfl, (swapCalibration_eff _ _).keeper_eq rfl]
    rfl

theorem stitchAtTick_ticks (s : State) : (stitchAtTick s).keeper.ticks = s.keeper.ticks :=
  ite_pred (P := fun t => t.keeper.ticks = s.keeper.ticks) rfl
    (ite_pred (P := fun t => t.keeper.ticks = s.keeper.ticks) (swap_ticks s)
      (ite_pred (P := fun t => t.keeper.ticks = s.keeper.ticks) (congrArg Keeper.ticks ((beginBridge_eff s).keeper_eq rfl)) rfl))

theorem tickGather_ticks (s : State) : (tickGather s).keeper.ticks = s.keeper.ticks := by
  have progressed := congrArg Keeper.ticks ((restoreProgress_eff s).keeper_eq rfl)
  exact ite_pred (P := fun t => t.keeper.ticks = s.keeper.ticks) progressed ((stitchAtTick_ticks _).trans progressed)

/-- The beacon's timer and the gathering follow a tick; neither reaches the yard, the safety path or the pins. -/
theorem exec_yardTick (hr : running s = true) (trig : Bool) : ∃ t, exec (.yardTick trig) s = .next t ∧
    Eff [.aon, .pack, .cart, .keeper, .clocks, .mem, .binding, .gather, .codec, .pens, .matrix, .select, .canvas, .portA,
      .portB, .engine, .emit, .lamp, .beacon] (allotted trig s) t ∧ t.keeper.ticks = s.keeper.ticks + 1 := by
  have timed : ∀ first, Eff [.beacon] (allotted trig s) (tickTimer first (allotted trig s)) := fun first => tickTimer_eff _ _
  have counted : ∀ first, (tickTimer first (allotted trig s)).keeper.ticks = s.keeper.ticks + 1 := fun first =>
    (congrArg Keeper.ticks ((timed first).keeper_eq rfl)).trans (congrArg Keeper.ticks ((allotted_eff trig s).keeper_eq rfl))
  refine ⟨_, guarded_of hr _ _, Eff.ite (fun _ => ((timed _).mono rfl).comp (tickGather_eff _) rfl) fun _ => (timed _).mono rfl, ?_⟩
  exact ite_pred (P := fun t => t.keeper.ticks = s.keeper.ticks + 1) ((tickGather_ticks _).trans (counted _)) (counted _)

/-- 15 R361, R366: the yard after an allocating tick. -/
theorem yardTick_allocates (hr : running s = true) (hs : serving s = true) (trig : Bool) :
    ∃ t, exec (.yardTick trig) s = .next t ∧ t.keeper.ticks = s.keeper.ticks + 1 ∧
      t.yard.budget = min s.pack.limit (min s.engine.headroom (budgetCapOf s.binding.live)) ∧
      t.yard.targets = tickTargets (countTick trig s) ∧
      t.yard.grants = List.zipWith (grantStep (fnat (live s) budgetSlew)) (tickTargets (countTick trig s)) s.yard.grants := by
  obtain ⟨t, answered, after, ticks⟩ := exec_yardTick hr trig
  have shared : allotted trig s = allocateTick (countTick trig s) := if_pos hs
  rw [shared] at after
  refine ⟨t, answered, ticks, ?_⟩
  rw [after.yard_eq rfl]
  exact allocateTick_yard (countTick trig s)

/-- 15 R366: a class whose target lies below its grant has it at once, and one above moves up by no more than the slew. -/
theorem grants_follow {ts gs : List Nat} {k : Nat} (ht : k < ts.length) (hg : k < gs.length) (slew : Nat) :
    nth (List.zipWith (grantStep slew) ts gs) k ≤ nth ts k ∧
      nth (List.zipWith (grantStep slew) ts gs) k ≤ nth gs k + slew ∧
      (nth ts k ≤ nth gs k → nth (List.zipWith (grantStep slew) ts gs) k = nth ts k) ∧
      (nth gs k < nth ts k → nth (List.zipWith (grantStep slew) ts gs) k = min (nth ts k) (nth gs k + slew)) := by
  rw [nth_zipWith ht hg]
  exact ⟨grantStep_le _ _ _, grantStep_le_slew _ _ _, fun h => grantStep_down h slew, fun h => grantStep_up h slew⟩

theorem yardTick_grants (hr : running s = true) (hs : serving s = true) (hg : s.yard.grants.length = 3) (trig : Bool) :
    ∃ t, exec (.yardTick trig) s = .next t ∧ t.keeper.ticks = s.keeper.ticks + 1 ∧
      t.yard.budget = min s.pack.limit (min s.engine.headroom (budgetCapOf s.binding.live)) ∧
      t.yard.grants.length = 3 ∧ t.yard.grants.sum ≤ t.yard.budget ∧
      ∀ k, k < 3 → nth t.yard.grants k ≤ nth t.yard.targets k ∧
        nth t.yard.grants k ≤ nth s.yard.grants k + fnat (live s) budgetSlew ∧
        (nth t.yard.targets k ≤ nth s.yard.grants k → nth t.yard.grants k = nth t.yard.targets k) ∧
        (nth s.yard.grants k < nth t.yard.targets k →
          nth t.yard.grants k = min (nth t.yard.targets k) (nth s.yard.grants k + fnat (live s) budgetSlew)) := by
  obtain ⟨t, answered, ticks, budget, targets, grants⟩ := yardTick_allocates hr hs trig
  obtain ⟨length, total⟩ : (tickTargets (countTick trig s)).length = 3 ∧ (tickTargets (countTick trig s)).sum ≤ t.yard.budget := by
    rw [budget]
    exact targetsOf_sum_le _ _ _ _ _
  refine ⟨t, answered, ticks, budget, ?_⟩
  rw [targets, grants]
  refine ⟨by simp [length, hg], (sum_zipWith_le (grantStep_le _) _ _).trans total, fun k hk => ?_⟩
  exact grants_follow (length ▸ hk) (hg ▸ hk) _

/-- A tick while the part does not serve is counted, and leaves the yard as it is. -/
theorem yardTick_idle (hr : running s = true) (hs : serving s = false) (trig : Bool) :
    ∃ t, exec (.yardTick trig) s = .next t ∧ t.keeper.ticks = s.keeper.ticks + 1 ∧ t.pins = { s.pins with trig := trig } ∧
      t.yard = s.yard := by
  obtain ⟨t, answered, after, ticks⟩ := exec_yardTick hr trig
  have counted : allotted trig s = countTick trig s := if_neg (by simp [hs])
  rw [counted] at after
  exact ⟨t, answered, ticks, after.pins_eq rfl, after.yard_eq rfl⟩

/-! No step takes the grants above the budget that they were made from. -/

/-- The grants of the yard sum to no more than its budget. -/
def WithinBudget (s : State) : Prop := s.yard.grants.sum ≤ s.yard.budget

theorem withinBudget_of_eq (h : WithinBudget s) (e : t.yard = s.yard) : WithinBudget t := by
  rwa [WithinBudget, e]

theorem coreReset_withinBudget (s : State) : WithinBudget (coreReset s) := Nat.zero_le _

theorem capture_withinBudget (h : WithinBudget s) (frame : Bool) : WithinBudget (capture frame s) := h

theorem allotted_withinBudget (h : WithinBudget s) (trig : Bool) : WithinBudget (allotted trig s) :=
  ite_pred (allocateTick_within _) h

theorem yardTick_withinBudget (h : WithinBudget s) (ht : exec (.yardTick trig) s = .next t) : WithinBudget t := by
  cases hr : running s with
  | false =>
    obtain rfl := Host.Outcome.next.inj ((guarded_not hr _ _).symm.trans ht)
    exact h
  | true =>
    obtain ⟨u, answered, after, -⟩ := exec_yardTick hr trig
    obtain rfl := Host.Outcome.next.inj (answered.symm.trans ht)
    exact withinBudget_of_eq (allotted_withinBudget h trig) (after.yard_eq rfl)

/-- Of the commands that reach the yard, a reset clears it, a tick shares it out afresh, and a record only marks its outcomes as told. -/
theorem exec_withinBudget {c : Instr} (h : WithinBudget s) (ht : exec c s = .next t) : WithinBudget t := by
  cases c
  case vinInvalid => exact pred_of_guarded ht h (Nat.zero_le _)
  case vddioHInvalid => exact pred_of_guarded ht h (coreReset_withinBudget _)
  case rstNAssert lowNs =>
    have pulsed : WithinBudget (pulse s lowNs 250 1000).2 := withinBudget_of_eq h ((pulse_eff _ _ _ _).yard_eq rfl)
    exact pred_of_guarded ht h (ite_pred (coreReset_withinBudget _) pulsed)
  case keeperRestart => exact pred_of_guarded ht h (Nat.zero_le _)
  case yardTick trig => exact yardTick_withinBudget h ht
  case beaconRecordTrigger frame =>
    have due : WithinBudget (if frame then s else { s with beacon := { s.beacon with timerDue := false } }) := ite_pred h h
    exact pred_of_guarded ht h (ite_pred due (capture_withinBudget due frame))
  case beaconRecordSent =>
    refine pred_of_guarded ht h ?_
    split
    · exact h
    · exact h
  all_goals exact withinBudget_of_eq h ((eff_of_exec ht).yard_eq rfl)

/-- Settles O56: an allocating tick, a tick that allocates nothing, and every step. -/
theorem grantsStayWithinTheBudget : Obligations.GrantsStayWithinTheBudget := by
  refine ⟨fun trig s hr hs hg => yardTick_grants hr hs hg trig, fun trig s hr hs => yardTick_idle hr hs trig, fun s t within stepped => ?_⟩
  cases waiting : s.pending with
  | nil =>
    obtain rfl := Host.Outcome.next.inj ((step_idle waiting).symm.trans stepped)
    exact within
  | cons c rest =>
    rw [step_front waiting] at stepped
    exact exec_withinBudget (s := { s with pending := rest }) within stepped

end Sys2Proof.Proofs
end

section
/-! SUPPORT. Laser channels (14 R331): the sink code of a level, what a channel takes with a level, and O54. -/

namespace Sys2Proof.Proofs

open Sys2Proof Machine Laws

variable {s : State} {c v k : Nat}

/-! A channel that is changed. -/

theorem laserOf_updLaser (h : c < s.emit.lasers.length) (f : Laser → Laser) : laserOf (updLaser c f s) c = f (laserOf s c) :=
  getD_modAt h f {}

theorem laserOf_updLaser_other (h : k ≠ c) (f : Laser → Laser) (s : State) : laserOf (updLaser c f s) k = laserOf s k :=
  getD_modAt_other h f {}

theorem laserOf_of_emit {t : State} (h : t.emit = s.emit) (c : Nat) : laserOf t c = laserOf s c := by rw [laserOf, h, laserOf]

/-! The sink code of a level (14 R331). -/

theorem sinkCode_le_imax (s : State) (c v : Nat) : sinkCode s c v ≤ calImax s.emit.cal c := by
  unfold sinkCode
  split
  · exact Nat.zero_le _
  · exact (Nat.min_le_left _ _).trans (Nat.min_le_left _ _)

/-- A sink code has 12 bits. -/
theorem sinkCode_le_4095 (s : State) (c v : Nat) : sinkCode s c v ≤ 4095 := by
  unfold sinkCode
  split
  · exact Nat.zero_le _
  · exact (Nat.min_le_left _ _).trans (Nat.min_le_right _ _)

/-- A code within both limits is what the level asks for. -/
theorem sinkCode_asked (hi : codeAsked s c v ≤ calImax s.emit.cal c) (hc : codeAsked s c v ≤ 4095) (hv : v ≠ 0) :
    sinkCode s c v = codeAsked s c v := by
  rw [sinkCode, if_neg hv]
  exact Nat.min_eq_right (Nat.le_min.mpr ⟨hi, hc⟩)

theorem codeClamped_above (hv : v ≠ 0) (h : calImax s.emit.cal c < codeAsked s c v) : codeClamped s c v = true := by
  simp [codeClamped, hv, h]

theorem codeClamped_within (h : codeAsked s c v ≤ calImax s.emit.cal c) : codeClamped s c v = false := by
  simp [codeClamped, h]

/-! A channel takes a level. -/

/-- A channel with a new level, its code, and the clamp noted. -/
def atLevel (s : State) (c v : Nat) (l : Laser) : Laser :=
  { l with level := v, code := sinkCode s c v, clamped := l.clamped || codeClamped s c v
           clamps := if codeClamped s c v then satInc l.clamps else l.clamps }

theorem setLevel_emit (c v : Nat) (s : State) : (setLevel c v s).emit = (updLaser c (atLevel s c v) s).emit := by
  unfold setLevel
  dsimp only
  split
  · rw [report_emit]
    rfl
  · rfl

theorem laserOf_setLevel (h : c < s.emit.lasers.length) (v : Nat) : laserOf (setLevel c v s) c = atLevel s c v (laserOf s c) :=
  (laserOf_of_emit (setLevel_emit c v s) c).trans (laserOf_updLaser h _)

theorem laserOf_setLevel_other (h : k ≠ c) (v : Nat) (s : State) : laserOf (setLevel c v s) k = laserOf s k :=
  (laserOf_of_emit (setLevel_emit c v s) k).trans (laserOf_updLaser_other h _ s)

/-- A level whose code is not clamped changes the level and the code alone. -/
theorem setLevel_within (hi : codeAsked s c v ≤ calImax s.emit.cal c) (hc : codeAsked s c v ≤ 4095) (hv : v ≠ 0) :
    setLevel c v s = updLaser c (fun l => { l with level := v, code := codeAsked s c v }) s := by
  simp [setLevel, codeClamped_within hi, sinkCode_asked hi hc hv]

/-- The first clamp since the frame's start is reported. -/
theorem setLevel_reports (hit : codeClamped s c v = true) (first : (laserOf s c).clamped = false) :
    Reported evLdImaxLimit c (setLevel c v s) := by
  simp only [setLevel, hit, first, Bool.not_false, Bool.and_true, if_true]
  exact report_reported _ _ _ _

/-- Settles O54, from what a channel takes with a level. -/
theorem sinkCodesStayWithinImax : Obligations.SinkCodesStayWithinImax := by
  intro c v s hc
  rw [laserOf_setLevel hc]
  refine ⟨rfl, sinkCode_le_imax s c v, sinkCode_le_4095 s c v, fun hv => ?_, fun hi hm hv => ?_, fun hv above => ?_, fun k hk => ?_⟩
  · rw [hv]
    exact sinkCode_zero s c
  · exact ⟨sinkCode_asked hi hm hv, setLevel_within hi hm hv⟩
  · have hit := codeClamped_above hv above
    exact ⟨if_pos hit, setLevel_reports hit⟩
  · exact laserOf_setLevel_other hk v s

end Sys2Proof.Proofs
end

section
/-! SUPPORT. Photodiode windows (14 R333 to R337, 16 R387): the readings that a window keeps, the blindness test, and O53. -/

namespace Sys2Proof.Proofs

open Sys2Proof Machine Laws

variable {s t : State} {xs : List PdSample} {runs : List SinkRun}

/-! What putting channels out and reporting leaves of a window's readings. -/

/-- The readings of the photodiodes and the estimates of the sink voltages. -/
def readings (s : State) : Emit × List Int := ({ s.emit with lasers := [] }, s.emit.lasers.map Laser.sinkMv)

theorem laserOf_sinkMv (h : readings t = readings s) (c : Nat) : (laserOf t c).sinkMv = (laserOf s c).sinkMv := by
  have estimate : ∀ u, (readings u).2.getD c 0 = (laserOf u c).sinkMv := fun u =>
    List.getD_map u.emit.lasers {} Laser.sinkMv
  rw [← estimate t, h, estimate s]

/-- What does not look at the channels goes by the readings. -/
theorem emit_of_readings {β : Type} (g : Emit → β) (hg : ∀ e, g { e with lasers := [] } = g e) (h : readings t = readings s) :
    g t.emit = g s.emit :=
  calc g t.emit
    _ = g (readings t).1 := (hg t.emit).symm
    _ = g (readings s).1 := by rw [h]
    _ = g s.emit := hg s.emit

theorem readings_of_eq (h : t.emit = s.emit) : readings t = readings s := by rw [readings, h, readings]

theorem readings_mapped {f : Laser → Laser} (hf : ∀ l, (f l).sinkMv = l.sinkMv) (s : State) :
    readings { s with emit := { s.emit with lasers := s.emit.lasers.map f } } = readings s := by
  simp [readings, Function.comp_def, hf]

theorem readings_darkChannels (p : Port) (s : State) : readings (darkChannels p s) = readings s :=
  readings_mapped (fun l => by split <;> rfl) s

theorem readings_closeGate (p : Port) (s : State) : readings (closeGate p s) = readings s := by
  rw [closeGate, readings_darkChannels]
  exact readings_of_eq (updPort_emit _ _ _)

theorem readings_putOut (s : State) : readings (closeGates (darkAllChannels s)) = readings s := by
  rw [closeGates, readings_closeGate, readings_closeGate]
  exact readings_mapped (f := fun l => { l with level := 0, code := 0 }) (fun _ => rfl) s

theorem readings_trip (c : TripCause) (n : Nat) (s : State) : readings (trip c n s) = readings s := by
  have told : ∀ (b : Prop) [Decidable b] (u : State) (code a j : Nat) (x : Option Nat), readings u = readings s →
      readings (if b then reportX code a j x u else u) = readings s := fun b _ u code a j x h =>
    ite_pred (P := fun t => readings t = readings s) ((readings_of_eq (reportX_emit _ _ _ _ _)).trans h) h
  exact told _ _ _ _ _ _ (told _ _ _ _ _ _ (readings_putOut _))

theorem readings_updLaser {f : Laser → Laser} (hf : ∀ l, (f l).sinkMv = l.sinkMv) (c : Nat) (s : State) :
    readings (updLaser c f s) = readings s :=
  Prod.ext rfl (map_modAt_same Laser.sinkMv hf _ _)

theorem readings_headroomEvent (c : Nat) (s : State) : readings (headroomEvent c s) = readings s := by
  refine ite_pred (P := fun t => readings t = readings s) ?_ rfl
  exact (readings_of_eq (report_emit _ _ _ _)).trans (readings_updLaser (f := fun l => { l with hrReported := true }) (fun _ => rfl) c s)

/-! The readings that a window keeps (14 R333, R336). -/

theorem length_addDark (pd : Nat) (old : List Nat) (new : List PdSample) : (addDark pd old new).length ≤ 256 :=
  List.length_take_le _ _

/-- The dark samples of both photodiodes with those of a window. -/
def darkKept (xs : List PdSample) (s : State) : State :=
  { s with emit := { s.emit with darkA := addDark 0 s.emit.darkA (xs.filter (isDark (live s)))
                                 darkB := addDark 1 s.emit.darkB (xs.filter (isDark (live s))) } }

/-- A channel after a window. -/
def windowed (xs : List PdSample) (runs : List SinkRun) (s : State) (c : Nat) (l : Laser) : Laser :=
  { l with
    powerA := nextPower (darkKept xs s) 0 c (darkMean (darkKept xs s) (darkKept xs s).emit.darkA) xs l.powerA
    powerB := nextPower (darkKept xs s) 1 c (darkMean (darkKept xs s) (darkKept xs s).emit.darkB) xs l.powerB
    sinkMv := sinkEstimate runs c l.sinkMv
    litWindow := (xs.any fun x => x.lit.contains c) || runs.any fun r => r.channel == c }

/-- The dark samples and the channels after a window. -/
def measured (xs : List PdSample) (runs : List SinkRun) (s : State) : State :=
  { darkKept xs s with
    emit := { (darkKept xs s).emit with lasers := s.emit.lasers.zipIdx.map fun e => windowed xs runs s e.2 e.1 } }

theorem windowChannels_eq (xs : List PdSample) (runs : List SinkRun) (s : State) : windowChannels xs runs s =
    [0, 1, 2, 3].foldl (fun w c => headroomEvent c w)
      (if (darkKept xs s).emit.darkA.isEmpty || (darkKept xs s).emit.darkB.isEmpty then
        { measured xs runs s with free := (measured xs runs s).free + 1 }
      else measured xs runs s) := rfl

theorem readings_windowChannels (xs : List PdSample) (runs : List SinkRun) (s : State) :
    readings (windowChannels xs runs s) = readings (measured xs runs s) := by
  have events : ∀ u, readings ([0, 1, 2, 3].foldl (fun w c => headroomEvent c w) u) = readings u := fun u =>
    List.foldlRecOn (motive := fun t => readings t = readings u) _ _ rfl fun t h c _ => (readings_headroomEvent c t).trans h
  rw [windowChannels_eq, events]
  exact ite_pred (P := fun t => readings t = readings (measured xs runs s)) rfl rfl

theorem laserOf_measured {c : Nat} (h : c < s.emit.lasers.length) (xs : List PdSample) (runs : List SinkRun) :
    laserOf (measured xs runs s) c = windowed xs runs s c (laserOf s c) := by
  simp [laserOf, measured, h]

/-! The blindness test (16 R387). -/

/-- The run of blind measurements of photodiode A, and of B, after a window. -/
def runA (xs : List PdSample) (s : State) : Nat := blindRun s 0 (darkMean s s.emit.darkA) xs s.emit.blindA
def runB (xs : List PdSample) (s : State) : Nat := blindRun s 1 (darkMean s s.emit.darkB) xs s.emit.blindB

/-- The runs of a window noted. -/
def runsNoted (xs : List PdSample) (s : State) : State := { s with emit := { s.emit with blindA := runA xs s, blindB := runB xs s } }

/-- A photodiode turns blind. -/
def turnsBlind (run before : Nat) : Bool := decide (4 ≤ run) && decide (before < 4)

/-- A photodiode that turns blind is reported. -/
def tellBlind (pd run before : Nat) (s : State) : State := if turnsBlind run before then report evPdBlind 0 pd s else s

/-- The runs of a window noted, and the photodiodes that they show to be blind reported. -/
def blindTold (xs : List PdSample) (s : State) : State :=
  tellBlind 1 (runB xs s) s.emit.blindB (tellBlind 0 (runA xs s) s.emit.blindA (runsNoted xs s))

/-- Both photodiodes blind trip the latch, unless blindness has tripped it. -/
theorem windowBlind_eq (xs : List PdSample) (s : State) : windowBlind xs s =
    if 4 ≤ runA xs s && 4 ≤ runB xs s && !(blindTold xs s).safety.causes.contains .pdBlind then
      trip .pdBlind (if turnsBlind (runB xs s) s.emit.blindB then 5 else 4) (blindTold xs s)
    else blindTold xs s := rfl

theorem tellBlind_eff (pd run before : Nat) (s : State) : Eff [.beacon] s (tellBlind pd run before s) :=
  Eff.ite (fun _ => report_eff _ _ _ _) fun _ => Eff.refl _ _

theorem reported_tellBlind {c j : Nat} (h : Reported c j s) (pd run before : Nat) : Reported c j (tellBlind pd run before s) :=
  ite_pred (reported_report h _ _ _) h

theorem tellBlind_reports {run before : Nat} (h : 4 ≤ run) (hb : before < 4) (pd : Nat) (s : State) :
    Reported evPdBlind pd (tellBlind pd run before s) := by
  simp only [tellBlind, turnsBlind, h, hb, decide_true, Bool.and_true, if_true]
  exact report_reported _ _ _ _

theorem blindTold_eff (xs : List PdSample) (s : State) : Eff [.beacon] (runsNoted xs s) (blindTold xs s) :=
  (tellBlind_eff _ _ _ _).trans (tellBlind_eff _ _ _ _)

theorem blindTold_reportsA (h : 4 ≤ runA xs s) (hb : s.emit.blindA < 4) : Reported evPdBlind 0 (blindTold xs s) :=
  reported_tellBlind (tellBlind_reports h hb _ _) _ _ _

theorem blindTold_reportsB (h : 4 ≤ runB xs s) (hb : s.emit.blindB < 4) : Reported evPdBlind 1 (blindTold xs s) :=
  tellBlind_reports h hb _ _

theorem blindTold_safety (xs : List PdSample) (s : State) : (blindTold xs s).safety = s.safety := (blindTold_eff xs s).safety_eq rfl

theorem readings_windowBlind (xs : List PdSample) (s : State) : readings (windowBlind xs s) = readings (runsNoted xs s) := by
  have told : readings (blindTold xs s) = readings (runsNoted xs s) := readings_of_eq ((blindTold_eff xs s).emit_eq rfl)
  rw [windowBlind_eq]
  exact ite_pred (P := fun t => readings t = readings (runsNoted xs s)) ((readings_trip _ _ _).trans told) told

/-- A trip drops no event. -/
theorem reported_trip {c j : Nat} (h : Reported c j s) (k : TripCause) (n : Nat) : Reported c j (trip k n s) := by
  have putOut : ∀ x, Reported c j (closeGates (darkAllChannels { s with safety := x })) := fun x =>
    reported_of_eq (s := { s with safety := x }) h (((closeGates_eff _).beacon_eq rfl).trans ((darkAllChannels_eff _).beacon_eq rfl))
  have latched : ∀ (b : Prop) [Decidable b] (u : State) (code a i : Nat) (x : Option Nat), Reported c j u →
      Reported c j (if b then reportX code a i x u else u) := fun b _ u code a i x h => ite_pred (reported_reportX h _ _ _ _) h
  exact latched _ _ _ _ _ _ (latched _ _ _ _ _ _ (putOut _))

theorem reported_windowBlind {c j : Nat} (h : Reported c j (blindTold xs s)) : Reported c j (windowBlind xs s) := by
  rw [windowBlind_eq]
  exact ite_pred (reported_trip h _ _) h

/-- Both photodiodes blind leave the latch tripped and the part dark, if blindness had not tripped it before. -/
theorem windowBlind_trips (ha : 4 ≤ runA xs s) (hb : 4 ≤ runB xs s) (hn : .pdBlind ∉ s.safety.causes) :
    .pdBlind ∈ (windowBlind xs s).safety.causes ∧ Dark (windowBlind xs s) := by
  rw [windowBlind_eq, if_pos (by simp [ha, hb, blindTold_safety, hn])]
  exact ⟨(trip_latches _ _ _).1, trip_dark _ _ _⟩

/-! The end of a window. -/

theorem windowBlind_emit (xs : List PdSample) (s : State) :
    (windowBlind xs s).emit.darkA = s.emit.darkA ∧ (windowBlind xs s).emit.darkB = s.emit.darkB ∧
      (windowBlind xs s).emit.blindA = runA xs s ∧ (windowBlind xs s).emit.blindB = runB xs s := by
  have same := readings_windowBlind xs s
  exact ⟨(emit_of_readings Emit.darkA (fun _ => rfl) same).trans rfl, (emit_of_readings Emit.darkB (fun _ => rfl) same).trans rfl,
    emit_of_readings Emit.blindA (fun _ => rfl) same, emit_of_readings Emit.blindB (fun _ => rfl) same⟩

theorem windowChannels_emit (xs : List PdSample) (runs : List SinkRun) (s : State) :
    (windowChannels xs runs s).emit.darkA = addDark 0 s.emit.darkA (xs.filter (isDark (live s))) ∧
      (windowChannels xs runs s).emit.darkB = addDark 1 s.emit.darkB (xs.filter (isDark (live s))) ∧
      (windowChannels xs runs s).emit.blindA = s.emit.blindA ∧ (windowChannels xs runs s).emit.blindB = s.emit.blindB := by
  have same := readings_windowChannels xs runs s
  exact ⟨emit_of_readings Emit.darkA (fun _ => rfl) same, emit_of_readings Emit.darkB (fun _ => rfl) same,
    (emit_of_readings Emit.blindA (fun _ => rfl) same).trans rfl, (emit_of_readings Emit.blindB (fun _ => rfl) same).trans rfl⟩

theorem windowBlind_sinkMv (xs : List PdSample) (s : State) (c : Nat) : (laserOf (windowBlind xs s) c).sinkMv = (laserOf s c).sinkMv :=
  laserOf_sinkMv (readings_windowBlind xs s) c

theorem windowEnd_sinkMv {c : Nat} (h : c < s.emit.lasers.length) (xs : List PdSample) (runs : List SinkRun) :
    (laserOf (windowBlind xs (windowChannels xs runs s)) c).sinkMv = sinkEstimate runs c (laserOf s c).sinkMv :=
  calc (laserOf (windowBlind xs (windowChannels xs runs s)) c).sinkMv
    _ = (laserOf (windowChannels xs runs s) c).sinkMv := windowBlind_sinkMv xs _ c
    _ = (laserOf (measured xs runs s) c).sinkMv := laserOf_sinkMv (readings_windowChannels _ _ _) c
    _ = sinkEstimate runs c (laserOf s c).sinkMv := by rw [laserOf_measured h]; rfl

theorem windowEnd_trips (ha : 4 ≤ runA xs (windowChannels xs runs s)) (hb : 4 ≤ runB xs (windowChannels xs runs s)) :
    .pdBlind ∈ s.safety.causes ∨ .pdBlind ∈ (windowBlind xs (windowChannels xs runs s)).safety.causes ∧
      Dark (windowBlind xs (windowChannels xs runs s)) := by
  refine or_iff_not_imp_left.mpr fun hn => windowBlind_trips ha hb ?_
  rwa [(windowChannels_eff xs runs s).safety_eq rfl]

/-- Settles O53: the end of a window, and an aged measurement. -/
theorem photodiodeWindowsAreKept : Obligations.PhotodiodeWindowsAreKept := by
  refine ⟨fun xs runs s hr hp hh hd hl => ?_, fun c s hr hc => ?_⟩
  · obtain ⟨keepsA, keepsB, blindA, blindB⟩ := windowBlind_emit xs (windowChannels xs runs s)
    obtain ⟨darkA, darkB, beforeA, beforeB⟩ := windowChannels_emit xs runs s
    refine ⟨_, guarded_of (by simp [hr, hp, hh, hd]) _ _, keepsA.trans darkA, keepsB.trans darkB, ?_, ?_,
      fun c hc => windowEnd_sinkMv (hl ▸ hc) xs runs, ?_⟩
    · rw [keepsA, darkA]
      exact length_addDark _ _ _
    · rw [keepsB, darkB]
      exact length_addDark _ _ _
    · rw [blindA, blindB, ← beforeA, ← beforeB]
      exact ⟨fun h hb => reported_windowBlind (blindTold_reportsA h hb), fun h hb => reported_windowBlind (blindTold_reportsB h hb),
        windowEnd_trips⟩
  · exact ⟨_, guarded_of hr _ _, laserOf_updLaser hc _, fun k hk => laserOf_updLaser_other hk _ s⟩

end Sys2Proof.Proofs
end

section
/-! SUPPORT. The trip latch (16 R389, R390): its causes outlive every command but a kill release and the loss of `VIN`, and O8. -/

namespace Sys2Proof.Proofs

open Sys2Proof Machine Laws

variable {s t : State}

/-- Every cause latched before is latched after. -/
def KeepsCauses (s t : State) : Prop := ∀ k ∈ s.safety.causes, k ∈ t.safety.causes

namespace KeepsCauses

theorem of_eq (h : t.safety.causes = s.safety.causes) : KeepsCauses s t := fun k hk => by rwa [h]

theorem of_eff {l : List Part} (h : Eff l s t) (hl : l.contains .safety = false) : KeepsCauses s t :=
  of_eq (congrArg Safety.causes (h.safety_eq hl))

theorem refl (s : State) : KeepsCauses s s := fun _ => id

theorem trans {u : State} (h : KeepsCauses s t) (k : KeepsCauses t u) : KeepsCauses s u := fun c hc => k c (h c hc)

theorem ite {u : State} {p : Prop} [Decidable p] (h : KeepsCauses s t) (k : KeepsCauses s u) : KeepsCauses s (if p then t else u) :=
  ite_pred h k

theorem guarded {b : Bool} {u : State} (e : Machine.guarded b s u = .next t) (h : KeepsCauses s u) : KeepsCauses s t :=
  pred_of_guarded e (refl s) h

theorem trip (c : TripCause) (n : Nat) (s : State) : KeepsCauses s (Machine.trip c n s) := (trip_latches c n s).2

/-- 04 R76: the latch outlives a core reset. -/
theorem coreReset (s : State) : KeepsCauses s (Machine.coreReset s) := of_eq rfl

end KeepsCauses

theorem codesPassed_keepsCauses (r : PassReadings) (s : State) :
    KeepsCauses s (packLimit (detectPair (packPass r (codesPass r (cartPass r s))))) := by
  have judged : KeepsCauses s (codesPass r (cartPass r s)) := .trans (.of_eff (cartPass_eff r s) rfl) (.of_eq rfl)
  have sensed : Eff [.aon, .pack, .beacon] (codesPass r (cartPass r s)) (packLimit (detectPair (packPass r (codesPass r (cartPass r s))))) :=
    (((packPass_eff r _).mono rfl).comp (detectPair_eff _) rfl).comp (packLimit_eff _) rfl
  exact judged.trans (.of_eff sensed rfl)

theorem checkSafeRef_keepsCauses (safe : Int) (s : State) : KeepsCauses s (checkSafeRef safe s) := by
  have counted : ∀ n, KeepsCauses s { s with safety := { s.safety with refRun := n } } := fun _ => .of_eq rfl
  exact .ite ((counted _).trans (.trip _ _ _)) (counted _)

theorem windowBlind_keepsCauses (xs : List PdSample) (s : State) : KeepsCauses s (windowBlind xs s) := by
  have told : KeepsCauses s (blindTold xs s) := .of_eq (congrArg Safety.causes (blindTold_safety xs s))
  rw [windowBlind_eq]
  exact .ite (told.trans (.trip _ _ _)) told

/-- A yard tick counts the time since a kill release, and leaves the causes. -/
theorem yardTick_keepsCauses {trig : Bool} (h : exec (.yardTick trig) s = .next t) : KeepsCauses s t := by
  cases hr : running s with
  | false =>
    obtain rfl := Host.Outcome.next.inj ((guarded_not hr _ _).symm.trans h)
    exact .refl s
  | true =>
    obtain ⟨u, answered, after, -⟩ := exec_yardTick hr trig
    obtain rfl := Host.Outcome.next.inj (answered.symm.trans h)
    have counted : KeepsCauses s (countTick trig s) := .of_eq rfl
    exact (counted.trans (.of_eff (allotted_eff trig s) rfl)).trans (.of_eff after rfl)

theorem killAssert_keepsCauses (h : exec .killAssert s = .next t) : KeepsCauses s t := by
  have darkened : ∀ (x : Pins) (n : Bool) (f : LampField),
      KeepsCauses s (closeGates (darkAllChannels { s with pins := x, safety := { s.safety with tripInKill := n }, lamp := f })) :=
    fun _ _ _ => .of_eq (by rw [closeGates_darkAll_safety])
  exact .guarded h (.ite ((darkened _ _ _).trans (.of_eff (report_eff _ _ _ _) rfl)) (darkened _ _ _))

/-- Settles O8: of the commands that reach the safety path, a core reset, the sensing and the counting keep the causes, and a trip adds to
them. -/
theorem tripLatchHoldsUntilReleased : Obligations.TripLatchHoldsUntilReleased := by
  intro c s t h notReleased powered
  change KeepsCauses s t
  cases c
  case vinInvalid => exact absurd rfl powered
  case killRelease n => exact absurd rfl (notReleased n)
  case vddioHInvalid => exact .guarded h (.of_eq rfl)
  case rstNAssert lowNs =>
    have pulsed : KeepsCauses s (pulse s lowNs 250 1000).2 := .of_eff (pulse_eff _ _ _ _) rfl
    exact .guarded h (.ite (pulsed.trans (.coreReset _)) pulsed)
  case keeperRestart => exact .guarded h (.of_eq rfl)
  case codePass r =>
    have passed := codesPassed_keepsCauses r s
    exact .guarded h (.ite (passed.trans (.of_eff (codeStepPass_eff _ _) rfl)) passed)
  case codeSafeChange => exact .guarded h (.trans (.trip _ _ _) (.of_eff (report_eff _ _ _ _) rfl))
  case vrefCheck other bandgap safeRef =>
    exact .guarded h (.trans (.of_eff (checkVref_eff other bandgap s) rfl) (checkSafeRef_keepsCauses _ _))
  case pdWindowEnd xs runs => exact .guarded h (.trans (.of_eff (windowChannels_eff xs runs s) rfl) (windowBlind_keepsCauses _ _))
  case yardTick trig => exact yardTick_keepsCauses h
  case killAssert => exact killAssert_keepsCauses h
  case safetyTrip cause e => exact .guarded h (.trip _ _ _)
  all_goals exact .of_eff (eff_of_exec h) rfl

end Sys2Proof.Proofs
end

section
/-! SUPPORT. The inputs that `CK_SYS` samples for the control engine (13 R308, R309, R316), and O52. -/

namespace Sys2Proof.Proofs

open Sys2Proof Machine Laws

variable {s : State}

/-! The encoder (13 R309). -/

theorem wrap32_bounds (n : Int) : -2 ^ 31 ≤ wrap32 n ∧ wrap32 n < 2 ^ 31 := by
  unfold wrap32
  omega

/-- A number wrapped to 32 bits is the same modulo 2^32. -/
theorem wrap32_congr (n m : Int) : (wrap32 (n + m) - n - m) % 2 ^ 32 = 0 := by
  unfold wrap32
  omega

/-- How far the phase of the encoder has moved. -/
def phaseMoved (a b : Bool) (s : State) : Nat := (quadrature a b + 4 - quadrature s.pins.encA s.pins.encB) % 4

/-- The count of a phase moved by one, up or down. -/
def encoderMove (d : Nat) (s : State) : Int := if (d == 1) != (fnat (live s) loopEncCfg).testBit 1 then 1 else -1

/-- The encoder's inputs sampled. -/
def encSampled (a b : Bool) (s : State) : State := { s with pins := { s.pins with encA := a, encB := b } }

theorem exec_encoderEdge_eq (a b : Bool) (s : State) : exec (.encoderEdge a b) s = .next
    (if !sysRuns s || phaseMoved a b s = 0 then encSampled a b s
      else if phaseMoved a b s = 2 then { encSampled a b s with engine := { s.engine with encErrors := satInc s.engine.encErrors } }
      else { encSampled a b s with
        engine := { s.engine with encoder := wrap32 (s.engine.encoder + encoderMove (phaseMoved a b s) s) } }) := rfl

theorem exec_encoderEdge_still {a b : Bool} (h : phaseMoved a b s = 0) : exec (.encoderEdge a b) s = .next (encSampled a b s) := by
  simp [exec_encoderEdge_eq, h]

theorem exec_encZIndex_ignored (h : (fnat (live s) loopEncCfg).testBit 0 = false) : exec .encZIndex s = .next s :=
  guarded_not (by simp [h]) _ _

section
variable {a b : Bool} (hs : sysRuns s = true)
include hs

theorem exec_encoderEdge_error (h : phaseMoved a b s = 2) : exec (.encoderEdge a b) s =
    .next { encSampled a b s with engine := { s.engine with encErrors := satInc s.engine.encErrors } } := by
  simp [exec_encoderEdge_eq, hs, h]

theorem exec_encoderEdge_counts (h : phaseMoved a b s = 1 ∨ phaseMoved a b s = 3) : exec (.encoderEdge a b) s =
    .next { encSampled a b s with
      engine := { s.engine with encoder := wrap32 (s.engine.encoder + encoderMove (phaseMoved a b s) s) } } := by
  have moved : phaseMoved a b s ≠ 0 := by omega
  have single : phaseMoved a b s ≠ 2 := by omega
  simp [exec_encoderEdge_eq, hs, moved, single]

/-- 13 R309: an edge counts one, two at once are an error, and none leaves the engine alone. -/
theorem exec_encoderEdge : ∃ t, exec (.encoderEdge a b) s = .next t ∧ t.pins = { s.pins with encA := a, encB := b } ∧
    (phaseMoved a b s = 0 → t.engine = s.engine) ∧
    (phaseMoved a b s = 2 → t.engine = { s.engine with encErrors := satInc s.engine.encErrors }) ∧
    (phaseMoved a b s = 1 ∨ phaseMoved a b s = 3 → -2 ^ 31 ≤ t.engine.encoder ∧ t.engine.encoder < 2 ^ 31 ∧
      (t.engine.encoder - s.engine.encoder - encoderMove (phaseMoved a b s) s) % 2 ^ 32 = 0) := by
  obtain h | h | h : phaseMoved a b s = 0 ∨ phaseMoved a b s = 2 ∨ (phaseMoved a b s = 1 ∨ phaseMoved a b s = 3) := by
    have : phaseMoved a b s < 4 := Nat.mod_lt _ (by decide)
    omega
  · exact ⟨_, exec_encoderEdge_still h, rfl, fun _ => rfl, fun k => by omega, fun k => by omega⟩
  · exact ⟨_, exec_encoderEdge_error hs h, rfl, fun k => by omega, fun _ => rfl, fun k => by omega⟩
  · obtain ⟨low, high⟩ := wrap32_bounds (s.engine.encoder + encoderMove (phaseMoved a b s) s)
    exact ⟨_, exec_encoderEdge_counts hs h, rfl, fun k => by omega, fun k => by omega, fun _ => ⟨low, high, wrap32_congr _ _⟩⟩

theorem exec_encZIndex_loads (h : (fnat (live s) loopEncCfg).testBit 0 = true) :
    exec .encZIndex s = .next { s with engine := { s.engine with encoder := fval (live s) loopEncZValue } } :=
  guarded_of (by simp [hs, h]) _ _

end

/-! The brightness input (13 R308). -/

/-- 13 R308: with the fourth period in range, `BRIGHT` reads as a pulse unless the mode is analogue. -/
theorem brightPeriod_fourth {mode n high : Nat} {b : Bright} (hn : brightInRange n = true) (hp : 3 ≤ b.periods.length) (hm : mode ≠ 1) :
    (brightPeriod mode n high b).pulse = true ∧ (brightPeriod mode n high b).periods = (n, high) :: b.periods.take 3 := by
  simp [brightPeriod, hn, hm, hp]

section
variable {n : Nat} (hs : sysRuns s = true)
include hs

theorem exec_brightEdge_falls (hb : s.bright.started = true) :
    exec (.brightEdge false n) s = .next { s with bright := { s.bright with high := some n } } := by
  refine (guarded_of hs _ _).trans ?_
  simp [hb]

theorem exec_brightEdge_starts (hh : s.bright.high = none) :
    exec (.brightEdge true n) s = .next { s with bright := { s.bright with started := true, high := none } } := by
  refine (guarded_of hs _ _).trans ?_
  simp [hh]

theorem exec_brightEdge_rises {h : Nat} (hh : s.bright.high = some h) (hb : s.bright.started = true) :
    exec (.brightEdge true n) s = .next { s with
      bright := { brightPeriod (fnat (live s) loopBrightMode) (h + n) h s.bright with started := true, high := none } } := by
  refine (guarded_of hs _ _).trans ?_
  simp [hh, hb]

end

/-- Settles O52, input by input. -/
theorem engineInputsAreSampled : Obligations.EngineInputsAreSampled := by
  refine ⟨fun low s => rfl, fun a b s hs => exec_encoderEdge hs, fun s hs => ⟨fun h => ?_, exec_encZIndex_ignored⟩, fun n s hs => ?_,
    fun s hs => guarded_of hs _ _⟩
  · exact ⟨_, exec_encZIndex_loads hs h, rfl⟩
  · refine ⟨exec_brightEdge_falls hs, exec_brightEdge_starts hs, fun h hh hb hr hp hm => ?_⟩
    obtain ⟨pulse, periods⟩ := brightPeriod_fourth (high := h) hr hp hm
    exact ⟨_, exec_brightEdge_rises hs hh hb, pulse, rfl, periods⟩

end Sys2Proof.Proofs
end

section
/-! SUPPORT. The beacon's record (17 R397 to R404): the lengths of its fields, the events that it takes, its capture, and O59. -/

namespace Sys2Proof.Proofs

open Sys2Proof Machine Laws

variable {s t : State}

/-! The lengths of fields and pages (17 Tables 17-2 and 17-4). -/

@[simp] theorem length_leBytes (k n : Nat) : (leBytes k n).length = k := by
  induction k generalizing n with
  | zero => rfl
  | succ k ih => exact congrArg Nat.succ (ih _)

@[simp] theorem length_word (n : Nat) : (word n).length = 2 := length_leBytes 2 _

@[simp] theorem length_tempBytes (v : Option Int) : (tempBytes v).length = 2 := by
  cases v <;> exact length_leBytes 2 _

@[simp] theorem length_words (l : List Nat) : (l.flatMap word).length = 2 * l.length := by
  simp [List.length_flatMap, Nat.mul_comm]

theorem length_pageMirror (q : PortState) : (pageMirror q).length = 5 := by simp [pageMirror]

/-- Every page has twelve bytes. -/
theorem length_pageData (hd : s.yard.demands.length = 3) (hg : s.yard.grants.length = 3) (n : Nat) : (pageData s n).length = 12 := by
  unfold pageData
  split
  · simp [pagePack]
  · simp [pageYard, hd, hg]
  · simp [pageIdentity]
  · simp [pageWheel]
  · simp [pageWheel]
  · simp [pagePicture]
  · simp [pageMatrix]
  · simp [pageThermal]
  · simp [pageMirrors, length_pageMirror]
  · simp [pageHost]
  · simp

/-! The events of a record (17 R402). -/

theorem length_eventBytes (e : EventEntry) : (eventBytes e).length = 4 * entryPlaces e := by
  unfold eventBytes entryPlaces
  cases e.ext <;> simp

theorem length_events (l : List EventEntry) : (l.flatMap eventBytes).length = 4 * queuePlaces l := by
  simp [List.length_flatMap, queuePlaces, length_eventBytes, List.sum_map_mul_left]

theorem entryPlaces_le (e : EventEntry) : entryPlaces e ≤ 2 := by
  unfold entryPlaces
  split <;> omega

theorem takeEvents_cons {room : Nat} {e : EventEntry} (h : entryPlaces e ≤ room) (rest : List EventEntry) :
    takeEvents room (e :: rest) = (e :: (takeEvents (room - entryPlaces e) rest).1, (takeEvents (room - entryPlaces e) rest).2) :=
  if_pos h

theorem takeEvents_full {room : Nat} {e : EventEntry} (h : ¬entryPlaces e ≤ room) (rest : List EventEntry) :
    takeEvents room (e :: rest) = ([], e :: rest) := if_neg h

/-- The entries taken are the oldest, in their order, and fit. -/
theorem takeEvents_splits (q : List EventEntry) :
    ∀ room, (takeEvents room q).1 ++ (takeEvents room q).2 = q ∧ queuePlaces (takeEvents room q).1 ≤ room := by
  induction q with
  | nil => exact fun room => ⟨rfl, Nat.zero_le room⟩
  | cons e rest ih =>
    intro room
    by_cases fits : entryPlaces e ≤ room
    · obtain ⟨whole, places⟩ := ih (room - entryPlaces e)
      rw [takeEvents_cons fits]
      refine ⟨congrArg (e :: ·) whole, ?_⟩
      simp only [queuePlaces, List.map_cons, List.sum_cons] at places ⊢
      omega
    · rw [takeEvents_full fits]
      exact ⟨rfl, Nat.zero_le room⟩

/-- A record has room for the oldest entry. -/
theorem takeEvents_shortens {q : List EventEntry} (h : q ≠ []) : (takeEvents 4 q).2.length < q.length := by
  obtain ⟨e, rest, rfl⟩ := List.exists_cons_of_ne_nil h
  have fits := entryPlaces_le e
  rw [takeEvents_cons (by omega)]
  exact Nat.lt_succ_of_le (takeEvents_suffix _ rest).length_le

/-! The record (17 R400). -/

theorem length_page (hd : s.yard.demands.length = 3) (hg : s.yard.grants.length = 3) (page : Option Nat) :
    (page.elim (List.replicate 12 0#8) (pageData s)).length = 12 := by
  cases page with
  | none => exact List.length_replicate
  | some n => exact length_pageData hd hg n

theorem length_recordBody (hd : s.yard.demands.length = 3) (hg : s.yard.grants.length = 3) (hf : s.yard.fractions.length = 3)
    {events : List EventEntry} (he : queuePlaces events ≤ 4) (frame : Bool) (page : Option Nat) :
    (recordBody s frame events page).length = 60 := by
  unfold recordBody
  simp only [List.length_append, length_leBytes, length_word, length_words, length_events, length_page hd hg, hf, List.length_replicate,
    List.length_cons, List.length_nil]
  omega

theorem length_recordOf (hd : s.yard.demands.length = 3) (hg : s.yard.grants.length = 3) (hf : s.yard.fractions.length = 3) (frame : Bool) :
    (recordOf s frame).length = 64 := by
  simp [recordOf, length_recordBody hd hg hf (takeEvents_splits s.beacon.queue 4).2]

/-- A record begins with its mark and its sequence number. -/
theorem recordOf_begins (s : State) (frame : Bool) : (recordOf s frame).take 4 = [0x42#8, 0x43#8] ++ leBytes 2 s.beacon.seq := by
  have mark : ([0x42#8, 0x43#8] ++ leBytes 2 s.beacon.seq).length = 4 := rfl
  unfold recordOf recordBody
  simp only [List.append_assoc]
  rw [← List.append_assoc, List.take_left' mark]

/-! Triggers (17 R399). -/

/-- A trigger taken: the timer's is no longer due. -/
def triggered (frame : Bool) (s : State) : State := if frame then s else { s with beacon := { s.beacon with timerDue := false } }

theorem triggered_keeps {β : Type} (g : Beacon → β) (hg : ∀ b, g { b with timerDue := false } = g b) (frame : Bool) (s : State) :
    g (triggered frame s).beacon = g s.beacon := by
  cases frame
  · exact hg s.beacon
  · rfl

theorem triggered_yard (frame : Bool) (s : State) : (triggered frame s).yard = s.yard := by cases frame <;> rfl

theorem exec_recordTrigger (frame : Bool) (s : State) : exec (.beaconRecordTrigger frame) s =
    guarded (running s && (beaconBaud s).isSome && triggerDue s frame) s
      (if (triggered frame s).beacon.sending.isSome then
        { triggered frame s with beacon := { (triggered frame s).beacon with deferred := some frame } }
      else capture frame (triggered frame s)) := rfl

section
variable {frame : Bool} (hr : running s = true) (hb : (beaconBaud s).isSome = true) (hd : triggerDue s frame = true)
include hr hb hd

/-- 17 R399: a trigger captures a record when none is being sent. -/
theorem exec_recordTrigger_captures (hs : s.beacon.sending = none) :
    exec (.beaconRecordTrigger frame) s = .next (capture frame (triggered frame s)) := by
  have idle : (triggered frame s).beacon.sending = none := (triggered_keeps Beacon.sending (fun _ => rfl) frame s).trans hs
  rw [exec_recordTrigger, guarded_of (by simp [hr, hb, hd]), idle]
  rfl

/-- 17 R399: while a record is being sent, a trigger waits. -/
theorem exec_recordTrigger_waits (hs : s.beacon.sending.isSome = true) : exec (.beaconRecordTrigger frame) s =
    .next { triggered frame s with beacon := { (triggered frame s).beacon with deferred := some frame } } := by
  have busy : (triggered frame s).beacon.sending = s.beacon.sending := triggered_keeps Beacon.sending (fun _ => rfl) frame s
  rw [exec_recordTrigger, guarded_of (by simp [hr, hb, hd]), busy, if_pos hs]

theorem recordTrigger_captures (hs : s.beacon.sending = none) (hdem : s.yard.demands.length = 3) (hg : s.yard.grants.length = 3)
    (hf : s.yard.fractions.length = 3) :
    ∃ t b, exec (.beaconRecordTrigger frame) s = .next t ∧ t.beacon.sending = some b ∧ b.length = 64 ∧
      b.take 4 = [0x42#8, 0x43#8] ++ leBytes 2 s.beacon.seq ∧ t.beacon.seq = (s.beacon.seq + 1) % 65536 ∧
      (∃ taken, s.beacon.queue = taken ++ t.beacon.queue ∧ queuePlaces taken ≤ 4) ∧
      (s.beacon.queue ≠ [] → t.beacon.queue.length < s.beacon.queue.length) := by
  have seq : (triggered frame s).beacon.seq = s.beacon.seq := triggered_keeps Beacon.seq (fun _ => rfl) frame s
  have queue : (triggered frame s).beacon.queue = s.beacon.queue := triggered_keeps Beacon.queue (fun _ => rfl) frame s
  have yard := triggered_yard frame s
  obtain ⟨whole, places⟩ := takeEvents_splits (triggered frame s).beacon.queue 4
  rw [← seq, ← queue]
  refine ⟨_, _, exec_recordTrigger_captures hr hb hd hs, rfl, ?_, recordOf_begins _ _, rfl, ⟨_, whole.symm, places⟩, takeEvents_shortens⟩
  exact length_recordOf (by rw [yard, hdem]) (by rw [yard, hg]) (by rw [yard, hf]) frame

theorem recordTrigger_waits (hs : s.beacon.sending.isSome = true) : ∃ t, exec (.beaconRecordTrigger frame) s = .next t ∧
    t.beacon.sending = s.beacon.sending ∧ t.beacon.deferred = some frame ∧ t.beacon.queue = s.beacon.queue :=
  ⟨_, exec_recordTrigger_waits hr hb hd hs, triggered_keeps Beacon.sending (fun _ => rfl) frame s, rfl,
    triggered_keeps Beacon.queue (fun _ => rfl) frame s⟩

end

/-! The end of a record (17 R398, R399). -/

/-- The record under way has been sent. -/
def recordSent (b : List Byte) (s : State) : State := { s with beacon := { s.beacon with sending := none, lastRecord := b } }

section
variable {b : List Byte} (hr : running s = true) (hs : s.beacon.sending = some b)
include hr hs

theorem exec_recordSent_idle (hd : s.beacon.deferred = none) : exec .beaconRecordSent s = .next (recordSent b s) := by
  refine (guarded_of (by simp [hr, hs]) _ _).trans ?_
  simp [hs, hd, recordSent]

/-- 17 R399: a trigger that has waited captures a record at once. -/
theorem exec_recordSent_captures {frame : Bool} (hd : s.beacon.deferred = some frame) :
    exec .beaconRecordSent s = .next (capture frame (recordSent b s)) := by
  refine (guarded_of (by simp [hr, hs]) _ _).trans ?_
  simp [hs, hd, recordSent]

theorem recordSent_ends : ∃ t, exec .beaconRecordSent s = .next t ∧ t.beacon.lastRecord = b ∧
    (s.beacon.deferred = none → t.beacon.sending = none ∧ t.beacon.seq = s.beacon.seq) ∧
    (s.beacon.deferred.isSome = true → t.beacon.sending.isSome = true ∧ t.beacon.deferred = none ∧
      t.beacon.seq = (s.beacon.seq + 1) % 65536) := by
  cases waiting : s.beacon.deferred with
  | none => exact ⟨_, exec_recordSent_idle hr hs waiting, rfl, fun _ => ⟨rfl, rfl⟩, nofun⟩
  | some frame => exact ⟨_, exec_recordSent_captures hr hs waiting, rfl, nofun, fun _ => ⟨rfl, rfl, rfl⟩⟩

end

/-! `FAULT_N` (17 R397). -/

/-- With its pulse ended, `FAULT_N` shows the latched faults. -/
theorem faultLow_unpulsed (hr : running s = true) (hp : s.beacon.pulse = false) : faultLow s = faultLatched s := by
  simp [faultLow, hr, hp]

/-- Settles O59: a trigger with and without a record under way, the end of a record, and that of a pulse. -/
theorem beaconRecordsAreCaptured : Obligations.BeaconRecordsAreCaptured := by
  refine ⟨fun frame s hr hb hd => ⟨recordTrigger_captures hr hb hd, recordTrigger_waits hr hb hd⟩, fun b s => recordSent_ends,
    fun s hr hp => ?_⟩
  exact ⟨_, guarded_of (by simp [hr, hp]) _ _, rfl, faultLow_unpulsed hr rfl⟩

end Sys2Proof.Proofs
end

section
/-! SUPPORT. ECC and the scrubber (16 R380 to R382, 09 R222): what an uncorrectable word leaves of the events reported, what a tick makes of
the walk and of the write-back queue, and O58. -/

namespace Sys2Proof.Proofs

open Sys2Proof Machine Laws

variable {s t u : State} {a : Nat} {r : ScrubResult}

/-! What loses no event (17 R402). -/

/-- Every event reported before is still reported after. -/
def KeepsReports (s t : State) : Prop := ∀ c j, Reported c j s → Reported c j t

namespace KeepsReports

theorem refl (s : State) : KeepsReports s s := fun _ _ => id

theorem of_eq (h : t.beacon = s.beacon) : KeepsReports s t := fun _ _ q => reported_of_eq q h

/-- One operation behind others. -/
theorem after (k : KeepsReports t u) (h : KeepsReports s t) : KeepsReports s u := fun c j q => k c j (h c j q)

/-- An operation that leaves the beacon alone, behind others. -/
theorem after_eff {l : List Part} (k : Eff l t u) (h : KeepsReports s t) (hl : l.contains .beacon = false := by rfl) : KeepsReports s u :=
  after (fun _ _ q => reported_of_eff q k hl) h

theorem of_eff {l : List Part} (h : Eff l s t) (hl : l.contains .beacon = false := by rfl) : KeepsReports s t := after_eff h (refl s) hl

theorem ite {c : Prop} [Decidable c] (h : KeepsReports s t) (k : KeepsReports s u) : KeepsReports s (if c then t else u) := ite_pred h k

theorem foldl {α : Type} {f : State → α → State} (hf : ∀ t x, KeepsReports t (f t x)) (xs : List α) (s : State) :
    KeepsReports s (xs.foldl f s) :=
  List.foldlRecOn (motive := KeepsReports s) xs f (refl s) fun t ht x _ => (hf t x).after ht

theorem reportX (c a j : Nat) (x : Option Nat) (s : State) : KeepsReports s (Machine.reportX c a j x s) :=
  fun _ _ h => reported_reportX h c a j x

theorem report (c a j : Nat) (s : State) : KeepsReports s (Machine.report c a j s) := reportX c a j none s

end KeepsReports

/-! The end of a gathering, of a qualification and of a job. -/

theorem closeGather_keepsReports (outcome reason : Nat) (s : State) : KeepsReports s (closeGather outcome reason s) := by
  have told : KeepsReports s (outcomeReported outcome reason s) :=
    .after (.report _ _ _ _) (.of_eq rfl)
  exact .after_eff (closeGather_behind outcome reason s) (.after (fun _ _ h => reported_resolvePending h) told)

theorem restoreProgress_keepsReports (s : State) : KeepsReports s (restoreProgress s) := by
  have shown : KeepsReports s (shownAgain s) := .ite (.after_eff (reshow_eff _) (.of_eq rfl)) (.refl s)
  rw [restoreProgress_eq]
  exact .ite (.after (closeGather_keepsReports _ _ _) shown) shown

theorem rollback_keepsReports (reason : Nat) (s : State) : KeepsReports s (rollback reason s) := by
  have restored : KeepsReports s (beginRestore reason s) := .after (restoreProgress_keepsReports _) 
    (.after_eff (restoreAsked_eff reason s) (.of_eq ((dropStitch_eff s).beacon_eq rfl)))
  unfold rollback
  split
  · exact .refl s
  · exact restored
  · exact restored
  · exact .of_eff (redirect_eff _ _)
  · exact .after (closeGather_keepsReports _ _ _) (.of_eff (dropStitch_eff s))

theorem restoreFails_keepsReports (s : State) : KeepsReports s (restoreFails s) := by
  have dropped : KeepsReports s (dropJobs (fun r => r == .restore) s) := .of_eff (dropJobs_eff _ s)
  exact .ite (.after (closeGather_keepsReports _ _ _) (.after (.of_eq rfl) dropped)) dropped

theorem requesterFails_keepsReports (e : JobEnd) (q : Requester) (n : Nat) (s : State) : KeepsReports s (requesterFails e q n s) := by
  cases q
  case stitch => exact rollback_keepsReports _ s
  case restore => exact restoreFails_keepsReports s
  case pattern => exact .of_eff (refusePending_eff n s)
  case recheck => exact .refl s
  case calibration => exact (failQual_keepsStop (p := .a) true s).reported
  case preload => exact .report _ _ _ s

theorem jobBroken_keepsReports (j : Job) (s : State) : KeepsReports s (jobBroken j s) := by
  have ended : KeepsReports s (endedJob (some j.requester) j.leaf 0 (endRunning (report evCodecError 0 j.leaf s))) :=
    .after_eff (endedJob_eff _ _ _ _) (.after_eff (endRunning_eff _) (.report _ _ _ s))
  exact .after (.foldl (fun (t : State) (q : Requester × Nat) => requesterFails_keepsReports _ q.1 q.2 t) _ _) ended

theorem cvsDiscard_keepsReports (reason : Nat) (pens : List Nat) (seq : Nat) (s : State) :
    KeepsReports s (cvsDiscard reason pens seq s) := by
  have freed : KeepsReports s (pens.foldl (fun u i => freePen i u) s) := .foldl (fun u i => .of_eff (freePen_eff i u)) pens s
  exact .after (.report _ _ _ _) (.after (.of_eq rfl) freed)

theorem discardCanvas_keepsReports (reason : Nat) (s : State) : KeepsReports s (discardCanvas reason s) := by
  unfold discardCanvas
  split
  · exact .refl s
  · exact .after (cvsDiscard_keepsReports _ _ _ _) (.of_eq rfl)

theorem restartCanvas_keepsReports (i : Nat) (s : State) : KeepsReports s (restartCanvas i s) := by
  unfold restartCanvas
  split
  · exact .ite (.refl s) (.ite (discardCanvas_keepsReports _ s) (.of_eq rfl))
  · exact .refl s

theorem restartFill_keepsReports (i : Nat) (s : State) : KeepsReports s (restartFill i s) := by
  unfold restartFill
  split
  · exact .ite (restartCanvas_keepsReports i s) (.ite (jobBroken_keepsReports _ s) (.of_eff (setRunning_eff _ s)))
  · exact restartCanvas_keepsReports i s

/-! An uncorrectable word (16 R382, Table 16-1). -/

/-- A halt puts the channels and the lamps out once both ports coast. -/
theorem halt_behind (s : State) : Eff [.emit, .lamp] (coastBoth { s with core := { s.core with halted := true } }) (halt s) :=
  Eff.set_lamp ((darkAllChannels_eff _).mono rfl) rfl

theorem halt_keepsReports (s : State) : KeepsReports s (halt s) :=
  .after_eff (halt_behind s) (.after (coastBoth_keepsStop (p := .a) _).reported (.of_eq rfl))

theorem frameStoreError_keepsReports (a : Nat) (s : State) : KeepsReports s (frameStoreError a s) := by
  unfold frameStoreError
  split
  · exact .of_eff (zeroStored_eff a s)
  · split
    · exact .refl s
    · exact restartFill_keepsReports _ s
    · exact .of_eff (freeStandby_eff _ _ s)
    · exact .of_eq rfl
    · split <;> exact .of_eq rfl

theorem tableStoreError_keepsReports (a : Nat) (s : State) : KeepsReports s (tableStoreError a s) := by
  unfold tableStoreError
  dsimp only
  refine .ite (.ite (.ite (.refl s) ?_) (.of_eff (zeroStored_eff a s))) (.ite (.of_eq rfl) (halt_keepsReports s))
  exact .after_eff (pumpReads_eff _) (.of_eq rfl)

/-- The report of an uncorrectable word. -/
def uncorrectableTold (a : Nat) (s : State) : State := reportX evEccUncorrectable (regionRow s a) (targetOf a) (some (a % 2 ^ 24)) s

theorem uncorrectable_eq (a : Nat) (s : State) : uncorrectable a s =
    if targetOf a < 4 then frameStoreError a (uncorrectableTold a s)
    else if targetOf a < 6 then tableStoreError a (uncorrectableTold a s) else s := rfl

/-- 16 R382: an uncorrectable word of T0 to T5 is reported. -/
theorem uncorrectable_reports (h : targetOf a < 6) (s : State) : Reported evEccUncorrectable (targetOf a) (uncorrectable a s) := by
  have told : Reported evEccUncorrectable (targetOf a) (uncorrectableTold a s) := reportX_reported _ _ _ _ s
  rw [uncorrectable_eq, if_pos h]
  exact ite_pred (frameStoreError_keepsReports _ _ _ _ told) (tableStoreError_keepsReports _ _ _ _ told)

/-- A halted head is dark (04 R79). -/
theorem halt_halts (s : State) : (halt s).core.halted = true ∧ Dark (halt s) ∧ (halt s).lamp.dark = true := by
  have closed : ∀ p, (portOf (halt s) p).wheel.gate = false := halt_shut s
  refine ⟨?_, ⟨closed .a, closed .b, darkAllChannels_dark _⟩, rfl⟩
  exact congrArg Core.halted ((coastBoth_eff { s with core := { s.core with halted := true } }).core_eq rfl)

/-- 16 Table 16-1: an uncorrectable word of the folio table in use halts the head. -/
theorem uncorrectable_halts (h : targetOf a = 5) (active : upperHalf a = s.matrix.halves) :
    uncorrectable a s = halt (uncorrectableTold a s) := by
  have same : (upperHalf a == (uncorrectableTold a s).matrix.halves) = true := by simp [uncorrectableTold, active]
  rw [uncorrectable_eq, if_neg (by omega), if_pos (by omega)]
  simp [tableStoreError, same, h]

/-! A corrected word (16 R380). -/

/-- A corrected word counted, remembered for its cycle, and queued where there is room. -/
def wordCorrected (a : Nat) (q : Integrity) : Integrity :=
  { q with correctedWords := satInc q.correctedWords, corrected := if q.corrected.contains a then q.corrected else q.corrected ++ [a]
           writeBack := if q.writeBack.length < 16 then q.writeBack ++ [a] else q.writeBack
           dropped := if q.writeBack.length < 16 then q.dropped else satInc q.dropped }

/-- A corrected word noted, and reported when it has been corrected in the cycle before. -/
def wordTold (a : Nat) (s : State) : State :=
  if s.integrity.corrected.contains a then reportX evEccStuck 0 (targetOf a) (some (a % 2 ^ 24)) (updIntegrity (wordCorrected a) s)
  else updIntegrity (wordCorrected a) s

theorem correctWord_eq (a : Nat) (s : State) : correctWord a s = coverFault 0 255 (wordTold a s) := rfl

theorem correctWord_integrity (a : Nat) (s : State) : (correctWord a s).integrity = wordCorrected a s.integrity := by
  rw [correctWord_eq, (coverFault_eff _ _ _).integrity_eq rfl]
  exact ite_pred (P := fun t => t.integrity = wordCorrected a s.integrity) (reportX_integrity _ _ _ _ _) rfl

/-- 16 R380: a word corrected twice in a cycle is reported as stuck. -/
theorem correctWord_reports (h : a ∈ s.integrity.corrected) : Reported evEccStuck (targetOf a) (correctWord a s) := by
  rw [correctWord_eq, wordTold, if_pos (by simpa using h)]
  exact reported_coverFault (reportX_reported _ _ _ _ _) _ _

theorem mem_wordCorrected (a : Nat) (q : Integrity) : a ∈ (wordCorrected a q).corrected := by
  simp only [wordCorrected]
  split
  · simpa using ‹q.corrected.contains a = true›
  · simp

theorem wordCorrected_writeBack {q : Integrity} (h : q.writeBack.length ≤ 16) (a : Nat) :
    (wordCorrected a q).writeBack = (q.writeBack ++ [a]).take 16 := by
  simp only [wordCorrected]
  split
  · rw [List.take_of_length_le (by simp; omega)]
  · rw [List.take_left' (by omega)]

/-! The corrected words of a burst. -/

theorem integrity_corrections (l : List Nat) (s : State) :
    (l.foldl (fun w a => correctWord a w) s).integrity = l.foldl (fun q a => wordCorrected a q) s.integrity :=
  (List.foldl_hom State.integrity fun w a => (correctWord_integrity a w).symm).symm

/-- A full list takes no more. -/
theorem take_full_append (n : Nat) (xs ys : List Nat) : (xs.take n ++ ys).take n = (xs ++ ys).take n := by
  have left : n - min n xs.length = n - xs.length := by omega
  rw [List.take_append, List.take_append, List.take_take, Nat.min_self, List.length_take, left]

/-- The queue takes the first 16 words. -/
theorem corrections_writeBack (l : List Nat) :
    ∀ q : Integrity, q.writeBack.length ≤ 16 → (l.foldl (fun q a => wordCorrected a q) q).writeBack = (q.writeBack ++ l).take 16 := by
  induction l with
  | nil =>
    intro q h
    rw [List.append_nil, List.take_of_length_le h]
    rfl
  | cons a l ih =>
    intro q h
    have queued := wordCorrected_writeBack h a
    rw [List.foldl_cons, ih _ (by rw [queued]; exact List.length_take_le _ _), queued]
    rw [take_full_append, List.append_assoc, List.singleton_append]

/-- What a correction keeps, a burst's corrections keep. -/
theorem corrections_keep {β : Type} (g : Integrity → β) (hg : ∀ a q, g (wordCorrected a q) = g q) (l : List Nat) (q : Integrity) :
    g (l.foldl (fun q a => wordCorrected a q) q) = g q :=
  List.foldlRecOn (motive := fun r => g r = g q) l _ rfl fun _ h a _ => (hg a _).trans h

/-! A tick of the scrubber (16 R380, R381). -/

/-- What every tick begins with: the queue written back, the bad pens asked for again, and a late cycle reported. -/
def scrubBegun (s : State) : State := scrubLate (askBadPens (writeBackAll s))

theorem scrubBegun_eff (s : State) : Eff [.codec, .pens, .integrity, .beacon] s (scrubBegun s) :=
  (((writeBackAll_eff s).mono rfl).comp (askBadPens_eff _) rfl).comp (scrubLate_eff _) rfl

theorem scrubLate_integrity (s : State) : ∃ b, (scrubLate s).integrity = { s.integrity with lateReported := b } := by
  unfold scrubLate
  dsimp only
  split
  · exact ⟨true, report_integrity _ _ _ _⟩
  · exact ⟨s.integrity.lateReported, rfl⟩

theorem scrubBegun_integrity (s : State) :
    ∃ b, (scrubBegun s).integrity = { s.integrity with writeBack := [], lateReported := b } := by
  obtain ⟨b, late⟩ := scrubLate_integrity (askBadPens (writeBackAll s))
  rw [(askBadPens_eff _).integrity_eq rfl] at late
  exact ⟨b, late⟩

/-- The walk is at its next burst, whose corrected words are noted. -/
def burstWalked (r : ScrubResult) (s : State) : State := r.corrected.foldl (fun w a => correctWord a w) (advanceWalk (scrubBegun s))

theorem advanceWalk_integrity (s : State) : (advanceWalk s).integrity.walk = (s.integrity.walk + 1) % 8576 ∧
    (advanceWalk s).integrity.burstWaits = false ∧ (advanceWalk s).integrity.writeBack = s.integrity.writeBack ∧
    (advanceWalk s).integrity.correctedWords = s.integrity.correctedWords ∧
    ((s.integrity.walk + 1) % 8576 ≠ 0 → (advanceWalk s).integrity.corrected = s.integrity.corrected) := by
  unfold advanceWalk
  by_cases h : (s.integrity.walk + 1) % 8576 = 0 <;> simp [h]

/-- The walk, the queue and the corrected words when the burst of a tick has been read. -/
theorem walkAdvanced (s : State) : (advanceWalk (scrubBegun s)).integrity.walk = (s.integrity.walk + 1) % 8576 ∧
    (advanceWalk (scrubBegun s)).integrity.burstWaits = false ∧ (advanceWalk (scrubBegun s)).integrity.writeBack = [] ∧
    (advanceWalk (scrubBegun s)).integrity.correctedWords = s.integrity.correctedWords ∧
    ((s.integrity.walk + 1) % 8576 ≠ 0 → (advanceWalk (scrubBegun s)).integrity.corrected = s.integrity.corrected) := by
  obtain ⟨b, begun⟩ := scrubBegun_integrity s
  have advanced := advanceWalk_integrity (scrubBegun s)
  rwa [begun] at advanced

theorem burstWalked_integrity (r : ScrubResult) (s : State) : (burstWalked r s).integrity.walk = (s.integrity.walk + 1) % 8576 ∧
    (burstWalked r s).integrity.burstWaits = false ∧ (burstWalked r s).integrity.writeBack = r.corrected.take 16 := by
  obtain ⟨walk, waits, queue, -, -⟩ := walkAdvanced s
  rw [burstWalked, integrity_corrections]
  refine ⟨?_, ?_, ?_⟩
  · rw [corrections_keep Integrity.walk (fun _ _ => rfl), walk]
  · rw [corrections_keep Integrity.burstWaits (fun _ _ => rfl), waits]
  · rw [corrections_writeBack _ _ (by simp [queue]), queue, List.nil_append]

section
variable (hs : sysRuns s = true) (hp : s.core.plls = true)
include hs hp

/-- 16 R381: a burst that is not granted waits. -/
theorem exec_scrubTick_waits (hg : r.granted = false) :
    exec (.scrubTick r) s = .next (updIntegrity (fun q => { q with burstWaits := true }) (scrubBegun s)) := by
  refine (guarded_of (by simp [hs, hp]) _ _).trans ?_
  rw [hg]
  rfl

theorem exec_scrubTick_reads (hg : r.granted = true) :
    exec (.scrubTick r) s = .next (askBadPens (r.uncorrectable.foldl (fun w a => uncorrectable a w) (burstWalked r s))) := by
  refine (guarded_of (by simp [hs, hp]) _ _).trans ?_
  rw [hg]
  rfl

theorem scrubTick_waits (hg : r.granted = false) : ∃ t, exec (.scrubTick r) s = .next t ∧ t.integrity.walk = s.integrity.walk ∧
    t.integrity.burstWaits = true := by
  obtain ⟨b, begun⟩ := scrubBegun_integrity s
  have walk : (scrubBegun s).integrity.walk = s.integrity.walk := by rw [begun]
  exact ⟨_, exec_scrubTick_waits hs hp hg, walk, rfl⟩

theorem scrubTick_walks (hg : r.granted = true) : ∃ t, exec (.scrubTick r) s = .next t ∧
    t.integrity.walk = (s.integrity.walk + 1) % 8576 ∧ t.integrity.burstWaits = false ∧
    t.integrity.writeBack = r.corrected.take 16 := by
  have found : Eff [.core, .cart, .mem, .binding, .gather, .codec, .pens, .matrix, .select, .canvas, .portA, .portB, .engine, .emit, .lamp,
      .beacon] (burstWalked r s) (r.uncorrectable.foldl (fun w a => uncorrectable a w) (burstWalked r s)) :=
    Eff.foldl (fun _ _ => uncorrectable_eff _ _) _ (Eff.refl _ _)
  refine ⟨_, exec_scrubTick_reads hs hp hg, ?_⟩
  rw [(askBadPens_eff _).integrity_eq rfl, found.integrity_eq rfl]
  exact burstWalked_integrity r s

theorem scrubTick_corrects (a : Nat) :
    ∃ t, exec (.scrubTick { granted := true, corrected := [a], uncorrectable := [] }) s = .next t ∧
      t.integrity.correctedWords = satInc s.integrity.correctedWords ∧ a ∈ t.integrity.corrected ∧
      ((s.integrity.walk + 1) % 8576 ≠ 0 → a ∈ s.integrity.corrected → Reported evEccStuck (targetOf a) t) := by
  obtain ⟨-, -, -, words, seen⟩ := walkAdvanced s
  refine ⟨_, exec_scrubTick_reads hs hp rfl, ?_⟩
  have asked := askBadPens_eff (correctWord a (advanceWalk (scrubBegun s)))
  refine ⟨?_, ?_, fun goesOn before => reported_of_eff (correctWord_reports ?_) asked rfl⟩
  · refine (congrArg Integrity.correctedWords ((asked.integrity_eq rfl).trans (correctWord_integrity a _))).trans ?_
    exact congrArg satInc words
  · refine (congrArg (a ∈ Integrity.corrected ·) ((asked.integrity_eq rfl).trans (correctWord_integrity a _))).mpr ?_
    exact mem_wordCorrected a _
  · rwa [seen goesOn]

theorem scrubTick_uncorrectable (a : Nat) :
    ∃ t, exec (.scrubTick { granted := true, corrected := [], uncorrectable := [a] }) s = .next t ∧
      (targetOf a < 6 → Reported evEccUncorrectable (targetOf a) t) ∧
      (targetOf a = 5 → upperHalf a = s.matrix.halves → t.core.halted = true ∧ Dark t ∧ t.lamp.dark = true) := by
  have asked := askBadPens_eff (uncorrectable a (advanceWalk (scrubBegun s)))
  have walked : (advanceWalk (scrubBegun s)).matrix = s.matrix :=
    ((advanceWalk_eff _).matrix_eq rfl).trans ((scrubBegun_eff s).matrix_eq rfl)
  refine ⟨_, exec_scrubTick_reads hs hp rfl, fun h => reported_of_eff (uncorrectable_reports h _) asked rfl, fun h active => ?_⟩
  obtain ⟨halted, dark, lamps⟩ := halt_halts (uncorrectableTold a (advanceWalk (scrubBegun s)))
  rw [← uncorrectable_halts h (by rw [walked, active])] at halted dark lamps
  exact ⟨(congrArg Core.halted (asked.core_eq rfl)).trans halted, dark_of_eff dark asked rfl rfl rfl,
    (congrArg LampField.dark (asked.lamp_eq rfl)).trans lamps⟩

end

/-- Settles O58: a burst that waits or is read, a corrected word, an uncorrectable one, and a withdrawn read. -/
theorem scrubbingWalksTheStores : Obligations.ScrubbingWalksTheStores := by
  refine ⟨fun r s hs hp => ⟨scrubTick_waits hs hp, scrubTick_walks hs hp⟩, fun a s hs hp => scrubTick_corrects hs hp a,
    fun a s hs hp => scrubTick_uncorrectable hs hp a, fun s hs hb => ?_⟩
  exact ⟨_, guarded_of (by simp [hs, hb]) _ _, rfl, rfl⟩

end Sys2Proof.Proofs
end
